-- ==== Sys2Proof/Word.lean ====
section
/-! DEFINITION. The bit-vector and byte types of the model, and nothing else (R8, R9). -/
namespace Sys2Proof

/-- One byte of a structure of the manual. -/
abbrev Byte := BitVec 8

/-- A structure of the manual as it travels: its bytes in order. -/
abbrev Bytes := List Byte

/-- A row codeword symbol of GF(2^12) (R219). -/
abbrev Symbol := BitVec 12

end Sys2Proof
end

