-- ==== Sys2Proof/Syntax.lean ====
section
/-!
DEFINITION. The commands the block takes: one constructor of `Instr` per row of spec/opcode_table.json, in the table's
order, with the operands that come from outside the step (a header, an object value, what a stack or a sensor returned).
-/
namespace Sys2Proof

/-- The five memory ports as the arrays of Table 4.9 number them: 0 to 3 are CP0 to CP3, 4 is FP. -/
abbrev PortId := Fin 5

/-- A die that keeps a time counter: the hub or a MED (R45). -/
inductive Die where
  | hub
  | med (q : Fin 4)
  deriving DecidableEq, Repr

/-- Who asks for a dictionary access (R400): a frame of the service link, or a request of a compute port. -/
inductive Src where
  /-- A Jenryn request: source MAC address, session and transaction of its header (R397). -/
  | sp (mac : BitVec 48) (session : Nat) (txn : BitVec 16)
  /-- An in-band request: compute port, tag and domain of its header (R92, R122). -/
  | cp (port : Fin 4) (tag : BitVec 16) (domain : BitVec 6)
  deriving DecidableEq, Repr

/-- A request header of Table 4.2 without its opcode, and the data that follows it (R91, R92). Reserved bits are not
held: the complex ignores them on receipt (R10). -/
structure Request where
  tag        : BitVec 16
  domain     : BitVec 6 := 0
  lenCode    : BitVec 4 := 0
  lock       : Bool := false
  lockEnd    : Bool := false
  collective : Bool := false
  group      : Fin 8 := 0
  addr       : BitVec 41 := 0
  package    : BitVec 8 := 0
  opField    : BitVec 24 := 0
  /-- The channel of the flit that carried it: true is the management channel (R88). -/
  mgmt       : Bool := false
  data       : Bytes := []
  deriving DecidableEq, Repr

/-- One arbiter of the tree (Table 6.1): a root lane, a quadrant arbiter (one per stack) or a channel arbiter. -/
inductive ArbId where
  | root (group : Fin 4) (lane : Fin 16)
  | quad (stack : Fin 32)
  | chan (stack : Fin 32) (pch : Fin 66)
  deriving DecidableEq, Repr

/-- A supply as a die's monitor sees it over a report period: its voltage and its mean current (R360, R361). -/
structure Supply where
  millivolts : Nat := 0
  milliamps  : Nat := 0
  deriving DecidableEq, Repr

/-- The eye that a margin check finds at a lane end of a bundle: at the far die or not, sending or receiving (R334, R443). -/
structure LaneEye where
  far      : Bool
  transmit : Bool
  lane     : Fin 68
  eye      : Nat
  deriving DecidableEq, Repr

/-- What the sideband, the fuses and the tests of one stack position answer at a start (R30, R141, R329, R342). -/
structure StackEnv where
  /-- SW00 to SW05 as read on the sideband; no list of six means no valid identity. -/
  words     : List (BitVec 16) := []
  /-- First temperature reading, units of 0.25 °C (R143, R370). -/
  temp      : Int := 0
  /-- Slots whose controller or PHY fails its test. -/
  badSlots  : List Nat := []
  /-- Lanes (slot, lane 0 to 48) that fail acceptance. -/
  badLanes  : List (Nat × Nat) := []
  /-- The 64 inventory words of Table 11.5, bank by bank, of each slot where they do not all show 48 rows and 2 columns free. -/
  inventory : List (Nat × List (BitVec 16)) := []
  deriving DecidableEq, Repr

/-- What one die answers at a start: its fuse map reads, each as two copies (R328, R330), the lane ends that fail
(R434), its wrapper test, and for a MED the word each bundle delivered, its stepping and its answer to an image. -/
structure DieEnv where
  fuseReads   : List (List (BitVec 32) × List (BitVec 32)) := []
  badLaneEnds : List (BitVec 24) := []
  words       : List (BitVec 32) := []
  stepping    : BitVec 16 := 0
  /-- Whether the die accepts the candidate of each try within 20 ms (R466); a missing entry is an acceptance. -/
  accepts     : List Bool := []
  deriving DecidableEq, Repr

/-- Everything outside the complex that a start-up reads (R24, R27, R429). -/
structure StartEnv where
  nodeId     : BitVec 4 := 0
  hubTest    : Bool := true
  norAnswers : Bool := true
  hub        : DieEnv := {}
  meds       : List DieEnv := []
  positions  : List StackEnv := []
  deriving DecidableEq, Repr

/-- A segment command's fields after its command byte (Table 3.5). -/
structure SegCmd where
  reserved1 : BitVec 8 := 0
  reserved2 : BitVec 16 := 0
  segment   : BitVec 32
  image     : BitVec 64 := 0
  deriving DecidableEq, Repr

/-- A received Ethernet frame as the MAC hands it over (R393). -/
structure Frame where
  dest        : BitVec 48
  source      : BitVec 48
  tagged      : Bool := false
  etherType   : BitVec 16 := 0x88B5
  /-- Length from destination address to frame check sequence. -/
  length      : Nat := 64
  fcsOk       : Bool := true
  /-- It is the first frame its sender begins in that transmit opportunity and ends within 1,538 byte times. -/
  inOpportunity : Bool := true
  payload     : Bytes := []
  deriving DecidableEq, Repr

/-- A sideband temperature frame: its 17 words, or none on a parity error (R142, R144). -/
abbrev TempFrame := Option (List (BitVec 16))

/-- A target of a pattern test (Table 16.3), also of an instrument claim (R489). -/
inductive Target where
  | slot (stack : Fin 32) (pch : Fin 66)
  | bundle (group : Fin 13) (bundle : Fin 16)
  deriving DecidableEq, Repr

/-- What a checker saw of one lane at the end of a run: mismatches other than injected bits (R481, R485). -/
structure LaneCount where
  lane     : Nat
  eye      : Nat := 0xFF
  errors   : Nat := 0
  compared : Nat := 0
  deriving DecidableEq, Repr

/-- The commands, one per row of spec/opcode_table.json and in its order. -/
inductive Instr where
  | qzRstNAssert
  | startUp (env : StartEnv)
  | hardRepairResult (stack : Fin 32) (pch : Fin 66) (status : BitVec 16)
  | startUpHold (src : Src) (value : BitVec 8)
  | referenceLost (die : Die)
  | referenceRestored (die : Die)
  | quadrantOffline (q : Fin 4)
  | quadrantReturn (q : Fin 4)
  | snapshotStart (src : Src) (value : BitVec 8)
  | snapshotComplete (roundTrips : List Nat)
  | hostDateWrite (src : Src) (value : BitVec 64)
  | poweredTimePersist
  | flitReceived (port : PortId) (bundle : Fin 16) (flit : Bytes)
  | linkReplay (port : PortId) (acked : BitVec 12)
  | read (port : PortId) (r : Request)
  | write (port : PortId) (r : Request)
  | writeZero (port : PortId) (r : Request)
  | poison (port : PortId) (r : Request)
  | atomic (port : PortId) (r : Request)
  | atomicFetch (port : PortId) (r : Request)
  | writeFence (port : PortId) (r : Request)
  | fullFence (port : PortId) (r : Request)
  | fenceComplete (port : PortId) (tag : BitVec 16)
  | collectiveDeclare (port : PortId) (r : Request)
  | dictionaryRead (port : PortId) (r : Request)
  | dictionaryWrite (port : PortId) (r : Request)
  | outingStart (port : PortId) (r : Request)
  | replicaFill (port : PortId) (r : Request)
  | replicaRelease (port : PortId) (r : Request)
  | combinedAtomic (port : PortId) (r : Request)
  | combinedAtomicFetch (port : PortId) (r : Request)
  | lockTimeout (port : PortId)
  | visibilityPoint (reqId : Nat)
  | responseSent (port : PortId) (notice : Bool)
  | portQuietEnter (port : Fin 4) (samples : List Bool)
  | portQuietLeave (port : Fin 4) (samples : List Bool)
  | quietChatter (port : Fin 4) (changes : Nat)
  | quietChatterEnd (port : Fin 4) (quietNs : Nat) (level : Bool)
  | sweepMarkerArrival (requester : Fin 6) (q : Fin 4)
  | sweepAcknowledge (requester : Fin 6) (q : Fin 4)
  | arbiterDecision (arbiter : ArbId)
  | urgencyLevelChange (port : Fin 4) (group : Fin 8) (samples : List (Fin 4)) (spanNs : Nat)
  | urgencyChatterStart (port : Fin 4) (group : Fin 8) (changes : Nat)
  | urgencyChatterEnd (port : Fin 4) (group : Fin 8) (worst : Nat) (quietNs : Nat)
  | regulationWindowBoundary
  | creditPositive (entry : Fin 48)
  | gateOpen (port : PortId) (group : Fin 8)
  | gateListWrite (src : Src) (port : PortId) (value : Bytes)
  | gateListActivate (port : PortId)
  | reservationSetWrite (src : Src) (value : Bytes)
  | reservationSetActivate
  | floorRecompute (cause : Fin 8)
  | latencyWindowEnd (entry : Fin 48)
  | samplingBoundary
  | sampleClear (src : Src) (value : BitVec 8)
  | highWaterClear (src : Src) (value : BitVec 8)
  | combiningWindowExpiry (line : Nat)
  | basketFlushVisible (reqId : Nat)
  | create (src : Src) (c : SegCmd)
  | free (src : Src) (c : SegCmd)
  | modify (src : Src) (c : SegCmd)
  | move (src : Src) (c : SegCmd)
  | freedSlotCleared (index : Nat)
  | moveComplete (segment : Nat)
  | placementEvaluation
  | mapRebuildComplete
  | channelQueueEntry (stack : Fin 32) (pch : Fin 66)
  | issueHalfSlot (stack : Fin 32) (pch : Fin 66)
  | idleCloseTimeout (stack : Fin 32) (pch : Fin 66) (bank : Fin 64)
  | hammerEpochBoundary (q : Fin 4)
  | activationTokenRefill (stack : Fin 32) (pch : Fin 66) (bank : Fin 64)
  | refreshDue (stack : Fin 32) (pch : Fin 66) (bank : Fin 64)
  | readBurstReturn (stack : Fin 32) (pch : Fin 66) (noise : Bytes)
  | escalationComplete (stack : Fin 32) (pch : Fin 66)
  | missingBurstTimeout (stack : Fin 32) (pch : Fin 66)
  | caAlert (stack : Fin 32) (erring : Option (Fin 66 × Nat)) (clears : Bool)
  | temperatureReadout (stack : Fin 32) (first : TempFrame) (repeated : TempFrame)
  | restStopDue (stack : Fin 32) (pch : Fin 66)
  | restStop (stack : Fin 32) (pch : Fin 66)
  | restStopEnd (stack : Fin 32) (pch : Fin 66) (drift : Nat) (worstLane : Nat) (eyes : List (Nat × Nat))
  | divisionLowerHoldExpiry (stack : Fin 32)
  | descriptorStart (q : Fin 4) (slot : Nat)
  | hamperDescriptor (q : Fin 4) (slot : Nat) (index : Nat)
  | ramblerDescriptor (q : Fin 4) (slot : Nat) (index : Nat)
  | transcodeCopyDescriptor (q : Fin 4) (slot : Nat) (index : Nat)
  | blockCheckDescriptor (q : Fin 4) (slot : Nat) (index : Nat)
  | continueDescriptor (q : Fin 4) (slot : Nat)
  | endDescriptor (q : Fin 4) (slot : Nat)
  | bagMerge (q : Fin 4) (slot : Nat) (index : Nat) (bag : Nat)
  | producedWordUpdate (q : Fin 4) (slot : Nat) (index : Nat)
  | consumedWordPoll (q : Fin 4) (slot : Nat) (index : Nat)
  | descriptorTimeout (q : Fin 4) (slot : Nat) (index : Nat)
  | outingComplete (q : Fin 4) (slot : Nat)
  | scrubDefine (src : Src) (value : Bytes)
  | scrubStop (src : Src) (value : Bytes)
  | scrubRowUnit (pass : Fin 8) (stack : Fin 32) (ch : Fin 64)
  | scrubPassEnd (pass : Fin 8)
  | scrubRepeatStart (pass : Fin 8)
  | channelLost (stack : Fin 32) (ch : Fin 64) (condition : Fin 6)
  | channelRebuildComplete (stack : Fin 32) (ch : Fin 64)
  | laneSparingPause (stack : Fin 32) (pch : Fin 66) (errors : Nat) (eye : Nat)
  | channelSparing (stack : Fin 32) (ch : Fin 64)
  | channelSparingCopyUnit (stack : Fin 32)
  | channelSparingComplete (stack : Fin 32)
  | mapOut (stack : Fin 32) (ch : Fin 64)
  | mapOutComplete (stack : Fin 32) (ch : Fin 64)
  | spareLane (src : Src) (value : Bytes)
  | spareChannel (src : Src) (value : Bytes)
  | mapOutChannel (src : Src) (value : Bytes)
  | queueHardRowRepair (src : Src) (value : Bytes)
  | queueColumnRepair (src : Src) (value : Bytes)
  | cancelQueuedRepairs (src : Src) (value : Bytes)
  | ledgerWrite (programOk : Bool)
  | stackWearRecord
  | forecast
  | meterReport (die : Die) (core : Supply) (phyPll : Supply × Supply)
  | governorStep
  | flaskAllowanceEnded (stack : Fin 32)
  | junctionRead (temps : List Int)
  | supplyFault (die : Die) (ns : Nat)
  | shutdownInMode (src : Src) (value : BitVec 8)
  | shutdownImmediate (src : Src) (value : BitVec 8)
  | resume (src : Src) (value : BitVec 8)
  | resumed
  | frameReceived (f : Frame)
  | discover (src : Src)
  | serviceRead (src : Src) (index : BitVec 16) (sub : BitVec 8) (array : Bool)
  | serviceWrite (src : Src) (index : BitVec 16) (sub : BitVec 8) (value : Bytes)
  | describe (src : Src) (index : BitVec 16) (sub : BitVec 8)
  | transferBegin (src : Src) (write : Bool) (index : BitVec 16) (sub : BitVec 8) (length : Nat)
  | transferBlock (src : Src) (transfer : Nat) (offset : Nat) (data : Bytes)
  | transferEnd (src : Src) (transfer : Nat) (crc : BitVec 32)
  | transferAbort (src : Src) (transfer : Nat)
  | transferTimeout (transfer : Nat)
  | sessionOpen (src : Src) (role : BitVec 8)
  | sessionUnlock (src : Src) (code : Bytes)
  | sessionClose (src : Src)
  | sessionIdleTimeout (session : Fin 9)
  | noticeAcknowledge (src : Src) (sequence : BitVec 32)
  | inProgressResponse (src : Src)
  | transmitOpportunity
  | noticeResend (subscriber : Fin 8)
  | inBandChallenge (port : Fin 4) (r : Request)
  | inBandUnlock (port : Fin 4) (r : Request)
  | inBandRoleDrop (port : Fin 4) (r : Request)
  | settingsStoreReset (src : Src) (value : BitVec 8)
  | objectWrite (src : Src) (index : BitVec 16) (sub : BitVec 8) (value : Bytes)
  | quadrantReset (src : Src) (q : Fin 4) (ends : Bool)
  | quadrantResetAndHold (src : Src) (q : Fin 4) (ends : Bool)
  | quadrantReleaseHold (src : Src) (q : Fin 4)
  | stateCheckError (q : Fin 4) (ends : Bool)
  | quadrantResetTimeout (q : Fin 4)
  | portReset (src : Src) (port : PortId)
  | portResetAndHold (src : Src) (port : PortId)
  | portReleaseHold (src : Src) (port : PortId)
  | linkRetrain (port : PortId) (credits : Option Nat)
  | slateEnter (src : Src) (value : BitVec 8)
  | slateLeave (src : Src) (value : BitVec 8)
  | marginCheck (group : Fin 13) (bundle : Fin 16) (found : LaneEye)
  | bundleRetrain (group : Fin 13) (bundle : Fin 16)
  | bundleRetrainComplete (group : Fin 13) (bundle : Fin 16) (accepted : Bool)
  | stagingWrite (src : Src) (image : Bytes)
  | stagingCancel (src : Src) (value : BitVec 8)
  | imageCopy (readBackOk : Bool)
  | testStart (src : Src) (value : Bytes)
  | testStop (src : Src) (value : Bytes)
  | testEnd (test : Fin 16) (lanes : List LaneCount)
  | overflowClear (src : Src) (value : BitVec 8)
  | bandwidthWindow
  | tapInstructionLoad (code : BitVec 8)
  | extest
  | idcode
  | samplePreload
  | chainSelect
  | instruments (claim : Option Target)
  | bypass
  | linkTraining (port : PortId) (accepted : Bool) (credits : Nat)
  | plcaStatusChange (ok : Bool)
  | testLogicReset (held : Bool)
  | syncLoss (test : Fin 16) (lane : Fin 68) (mismatches : Nat)
  | restStopDeferralEnd (stack : Fin 32) (pch : Fin 66)
  deriving DecidableEq, Repr

end Sys2Proof
end

