-- ==== Sys2Proof/Config.lean ====
section
/-!
DEFINITION. What one unit fixes and the manual does not give, and the free values. A constant here has no body:
nothing can evaluate it, so a claim that uses it holds for every value of it. A free value that is drawn more than
once takes the draw number that `State.draw` counts.
-/
namespace Sys2Proof.Config

/-- Fused unit ID, object 0x1002:00 (R32). -/
opaque unitId : BitVec 64
/-- Fused hub stepping, object 0x1003:01 (R32). -/
opaque hubStepping : BitVec 16
/-- Hub capability word, object 0x1005:01 (R32, R33). -/
opaque hubWord : BitVec 32
/-- Fused 256-bit key of a role: 2 operator, 3 maintainer (R409). -/
opaque key : Nat → BitVec 256
/-- Plynek's manufacturer code in IDCODE (R487). -/
opaque manufacturer : BitVec 11
/-- The n-th challenge of the hub's random source (R410). -/
opaque challenge : Nat → BitVec 256
/-- Whether (key slot, signed bytes, r, s) verifies under the fixed public key of the slot (R462). -/
opaque signatureValid : Nat → Bytes → Nat → Nat → Bool
/-- Whether the built-in qualified list holds a stack vendor code at a stepping (R460). -/
opaque builtinQualified : BitVec 16 → Nat → Bool
/-- Built-in power coefficients of a vendor, by field: 0 to 4 energies in pJ, 5 to 7 background in W, 8 slope (R361). -/
opaque builtinPower : BitVec 16 → Nat → Rat
/-- Built-in thermal parameters of a stack: 0 tau in ms, 1 theta_s, 2 theta_n (R460). -/
opaque builtinThermal : Nat → Nat → Rat
/-- Built-in PHY starting points of a vendor: SW12, SW13, SW14 (R460). -/
opaque builtinPhy : BitVec 16 → Nat → BitVec 16
/-- The value training leaves in a settings word (stack, slot, word) that the manual does not state (R141). -/
opaque trainedWord : Nat → Nat → Nat → BitVec 16
/-- How a die's counter runs off 1 GHz, (die, draw); used within its reference's tolerance (R46, R47). -/
opaque rate : Nat → Nat → Nat
/-- Whether the hub's cache holds a touch line when it looks a request up: (request, line) (R73). -/
opaque lineCached : Nat → Nat → Bool
/-- Whether the hub's cache holds a touch line when its channel is declared lost: (draw, line) (R246). -/
opaque lineKept : Nat → Nat → Bool
/-- Duration drawn for an interval whose bound alone the manual gives (draw). -/
opaque duration : Nat → Nat
/-- Sort key drawn for an order the manual leaves open: (draw, item) (R276, R308). -/
opaque orderKey : Nat → Nat → Nat
/-- Speed index drawn at an update; used within 1,000 to 1,310 (R44). -/
opaque speed : Nat → Nat
/-- A free choice among the values a rule admits (draw). -/
opaque choice : Nat → Nat
/-- Natural logarithm, for the time to limit of R371: the manual states no rounding of it. -/
opaque ln : Rat → Rat
/-- The value of a byte no rule states (draw). -/
opaque byte : Nat → Byte

/-- Bits compared by a running pattern test, per mille of its bits per lane: (identifier, hub time) (R491). -/
opaque testProgress : Nat → Nat → Nat

/-- Bits an element takes where the manual states no result of an arithmetic step: (format code, operand, operand),
as for the sum of two opposite infinities (R274, R288). -/
opaque unstatedElement : Nat → Nat → Nat → Nat

end Sys2Proof.Config
end

