-- ==== Sys2Proof/Machine/Bits.lean ====
section
/-!
DEFINITION. Bit fields, byte order and small list operations shared by every part (R8, R9).
-/
namespace Sys2Proof.Machine

/-- Bits [msb:lsb] of a number (R8). -/
def bits (x msb lsb : Nat) : Nat := x / 2 ^ lsb % 2 ^ (msb + 1 - lsb)

/-- Bit [n] of a number (R8). -/
def bit (x n : Nat) : Bool := x / 2 ^ n % 2 == 1

/-- x with bit n set to v. -/
def setBit (x n : Nat) (v : Bool) : Nat :=
  if bit x n == v then x else if v then x + 2 ^ n else x - 2 ^ n

/-- 1 for true, 0 for false. -/
def b2n (b : Bool) : Nat := if b then 1 else 0

/-- The n bytes of a number, least significant first (R9). -/
def leBytes : Nat → Nat → Bytes
  | 0, _ => []
  | n + 1, x => BitVec.ofNat 8 x :: leBytes n (x / 256)

/-- The number whose bytes, least significant first, are given (R9). -/
def leNat : Bytes → Nat
  | [] => 0
  | b :: bs => b.toNat + 256 * leNat bs

/-- The n bytes of a number, most significant first. -/
def beBytes (n x : Nat) : Bytes := (leBytes n x).reverse

/-- The number whose bytes, most significant first, are given. -/
def beNat (bs : Bytes) : Nat := leNat bs.reverse

/-- n bytes from an offset; bytes past the end read as zero. -/
def slice (bs : Bytes) (off n : Nat) : Bytes :=
  let t := (bs.drop off).take n
  t ++ List.replicate (n - t.length) 0

/-- The little-endian field of n bytes at an offset. -/
def field (bs : Bytes) (off n : Nat) : Nat := leNat (slice bs off n)

/-- Every byte of a field is zero. -/
def zeros (bs : Bytes) (off n : Nat) : Bool := (slice bs off n).all (· == 0)

/-- bs padded with zero bytes to n. -/
def padTo (n : Nat) (bs : Bytes) : Bytes := bs ++ List.replicate (n - bs.length) 0

/-- x rounded up to a multiple of m. -/
def roundUp (x m : Nat) : Nat := (x + m - 1) / m * m

/-- ceil(x / m). -/
def ceilDiv (x m : Nat) : Nat := (x + m - 1) / m

/-- Element n of a list, or a default. -/
def nth {α : Type} (xs : List α) (n : Nat) (d : α) : α := xs.getD n d

/-- The list with element n changed by f. -/
def modNth {α : Type} (xs : List α) (n : Nat) (f : α → α) : List α := xs.modify n f

/-- The list with its first element that satisfies p removed. -/
def dropFirst {α : Type} (p : α → Bool) : List α → List α
  | [] => []
  | x :: xs => if p x then xs else x :: dropFirst p xs

/-- The value a key holds in a keyed list, or a default. -/
def look {κ α : Type} [DecidableEq κ] (d : α) (k : κ) : List (κ × α) → α
  | [] => d
  | (k', v) :: r => if k' = k then v else look d k r

/-- The keyed list in which k holds v; the entry goes when v is the default. -/
def put {κ α : Type} [DecidableEq κ] [DecidableEq α] (d : α) (k : κ) (v : α) (m : List (κ × α)) : List (κ × α) :=
  let r := m.filter (fun e => !decide (e.1 = k))
  if v = d then r else r ++ [(k, v)]

/-- Insert into a list of rising numbers, once. -/
def insertNat (n : Nat) : List Nat → List Nat
  | [] => [n]
  | x :: xs => if n < x then n :: x :: xs else if n = x then x :: xs else x :: insertNat n xs

/-- The least n at or above `at` with p n, trying at most fuel values. -/
def leastFrom (p : Nat → Bool) : Nat → Nat → Option Nat
  | 0, _ => none
  | fuel + 1, i => if p i then some i else leastFrom p fuel (i + 1)

/-- The greatest n below fuel with p n. -/
def greatestBelow (p : Nat → Bool) : Nat → Option Nat
  | 0 => none
  | n + 1 => if p n then some n else greatestBelow p n

/-- Fold a state through a list. -/
def forEach {σ α : Type} (xs : List α) (f : α → σ → σ) (s : σ) : σ := xs.foldl (fun s x => f x s) s

/-- An element that ranks first under `better`, the earlier on a tie. -/
def bestOf {α : Type} (better : α → α → Bool) : List α → Option α
  | [] => none
  | x :: xs => some (xs.foldl (fun b y => if better y b then y else b) x)

/-- Sort by a number, stable: the earlier of equals stays first. -/
def sortBy {α : Type} (f : α → Nat) : List α → List α
  | [] => []
  | x :: xs => ins x (sortBy f xs)
where
  ins (x : α) : List α → List α
    | [] => [x]
    | y :: ys => if f x ≤ f y then x :: y :: ys else y :: ins x ys

/-- Bytewise exclusive or of two strings of one length. -/
def xorBytes (a b : Bytes) : Bytes := List.zipWith (· ^^^ ·) a b

/-- Sum of a list of numbers. -/
def total (xs : List Nat) : Nat := xs.foldl (· + ·) 0

/-- A sum that stops at a ceiling. -/
def satAdd (max x y : Nat) : Nat := Nat.min max (x + y)

/-- The two's complement bytes of an I32 (R15). -/
def i32Bytes (x : Int) : Bytes := leBytes 4 (x % 2 ^ 32).toNat

/-- floor of a rational. -/
def ratFloor (x : Rat) : Int := x.num / (x.den : Int)

end Sys2Proof.Machine
end

