-- ==== Sys2Proof/Machine/Codec.lean ====
section
/-!
DEFINITION. The checks and codes of "Codes, Checksums and Scrubbing": the CRCs, the sector check, and the row's page
code over GF(2^12) with its decoder.
-/
namespace Sys2Proof.Machine

/-- One byte into a 16-bit CRC of the given polynomial, not reflected. -/
def crc16Step (poly crc : Nat) (b : Byte) : Nat :=
  (List.range 8).foldl (fun c _ => if bit c 15 then (c * 2 % 65536) ^^^ poly else c * 2 % 65536) (crc ^^^ (b.toNat * 256))

/-- A CRC-16, not reflected and without final XOR. -/
def crc16 (poly init : Nat) (bs : Bytes) : Nat := bs.foldl (crc16Step poly) init

/-- The flit's link check over bytes 0 to 261 (Table 4.1). -/
def linkCheck (bs : Bytes) : Nat := crc16 0x1021 0xFFFF bs

/-- One byte into the reflected CRC-32C register. -/
def crc32Step (crc : Nat) (b : Byte) : Nat :=
  (List.range 8).foldl (fun c _ => if c % 2 == 1 then (c / 2) ^^^ 0x82F63B78 else c / 2) (crc ^^^ b.toNat)

/-- CRC-32C (R237). -/
def crc32c (bs : Bytes) : Nat := (bs.foldl crc32Step 0xFFFFFFFF) ^^^ 0xFFFFFFFF

/-- The CRC of R239: initial value 0, no final XOR, over the bytes and then k zero bytes. -/
def crc0 (bs : Bytes) (k : Nat) : Nat := (List.range k).foldl (fun c _ => crc32Step c 0) (bs.foldl crc32Step 0)

/-- One stored slot: 32 data bytes, the tag word and the sector check (Table 8.2). -/
structure Slot where
  data  : Bytes := List.replicate 32 0
  tag   : Nat := 0
  check : Nat := 0
  deriving DecidableEq, Repr

/-- The address word (R217). -/
def addressWord (ch row bank slot : Nat) : Nat := slot + bank * 2 ^ 8 + row * 2 ^ 14 + ch * 2 ^ 26

/-- The sector check over address word, data and tag word (R216). -/
def sectorCheck (addr : Nat) (data : Bytes) (tag : Nat) : Nat :=
  crc16 0x8BB7 0 (leBytes 4 addr ++ data ++ leBytes 2 tag)

/-- A slot passes its check at its address (R216). -/
def Slot.passes (s : Slot) (addr : Nat) : Bool := sectorCheck addr s.data s.tag == s.check

/-- A slot carrying data and tag with a consistent check. -/
def mkSlot (addr : Nat) (data : Bytes) (tag : Nat) : Slot := ⟨data, tag, sectorCheck addr data tag⟩

/-- The tag word: poison, guard state, write epoch, writer code (Table 8.2, side band bits [31:16]). -/
def tagWord (poison : Bool) (guard epoch writer : Nat) : Nat :=
  b2n poison + guard * 2 + epoch * 8 + writer * 8192

/-- The poison bit of a tag word. -/
def tagPoison (t : Nat) : Bool := bit t 0
/-- Stripe Guard state of a data sector, or row strength of a parity slot. -/
def tagState (t : Nat) : Nat := bits t 2 1
/-- Write epoch of a tag word. -/
def tagEpoch (t : Nat) : Nat := bits t 12 3
/-- Writer code of a tag word. -/
def tagWriter (t : Nat) : Nat := bits t 15 13

/-- The 36 bytes of a slot as the burst carries them: data, then the side band, low byte first (R214, R215). -/
def Slot.bytes (s : Slot) : Bytes := s.data ++ leBytes 2 s.check ++ leBytes 2 s.tag

/-- The slot that 36 bytes hold. -/
def slotOf (bs : Bytes) : Slot := ⟨slice bs 0 32, field bs 34 2, field bs 32 2⟩

/-! ### GF(2^12) and the page code (R218 to R220) -/

/-- Multiplication by α in GF(2^12) on x^12 + x^6 + x^4 + x + 1. -/
def gfTimesAlpha (a : Nat) : Nat := if a < 2048 then a * 2 else (a * 2) ^^^ 0x1053

/-- Multiplication in GF(2^12). -/
def gfMul (a b : Nat) : Nat := go 12 a b 0
where
  go : Nat → Nat → Nat → Nat → Nat
    | 0, _, _, acc => acc
    | n + 1, a, b, acc => go n (gfTimesAlpha a) (b / 2) (if b % 2 == 1 then acc ^^^ a else acc)

/-- Power in GF(2^12), exponents below 2^12. -/
def gfPow (a e : Nat) : Nat := go 12 a e 1
where
  go : Nat → Nat → Nat → Nat → Nat
    | 0, _, _, acc => acc
    | n + 1, a, e, acc => go n (gfMul a a) (e / 2) (if e % 2 == 1 then gfMul acc a else acc)

/-- Inverse of a nonzero element. -/
def gfInv (a : Nat) : Nat := gfPow a 4094

/-- α^k. -/
def alpha (k : Nat) : Nat := gfPow 2 (k % 4095)

/-- Parity symbols p of a strength (Table 8.3). -/
def paritySymbols (s : Nat) : Nat := nth [42, 85, 128, 170] s 170
/-- Parity slots of a strength (Table 8.3). -/
def paritySlots (s : Nat) : Nat := 2 * (s + 1)
/-- Message symbols of a row (R220). -/
def messageSymbols : Nat := 2902
/-- Bytes of a row's message (R220). -/
def messageBytesLen : Nat := 4353

/-- Product of two polynomials, lowest coefficient first. -/
def polyMul (a b : List Nat) : List Nat :=
  match a with
  | [] => []
  | x :: xs => add (b.map (gfMul x)) (0 :: polyMul xs b)
where
  add : List Nat → List Nat → List Nat
    | [], ys => ys
    | xs, [] => xs
    | x :: xs, y :: ys => (x ^^^ y) :: add xs ys

/-- Value of a polynomial, lowest coefficient first. -/
def polyEval (a : List Nat) (x : Nat) : Nat := a.foldr (fun c acc => c ^^^ gfMul acc x) 0

/-- Generator polynomial of a strength, lowest coefficient first (R219). -/
def generator (p : Nat) : List Nat := (List.range p).foldl (fun g i => polyMul g [alpha i, 1]) [1]

/-- Symbols of 12 bits of a byte string, low bits first (R220). -/
def toSymbols (n : Nat) (bs : Bytes) : List Nat := let v := leNat bs; (List.range n).map fun j => v / 2 ^ (12 * j) % 4096

/-- The byte string that symbols of 12 bits fill (R220). -/
def ofSymbols (n : Nat) (syms : List Nat) : Bytes := leBytes n (syms.foldr (fun s acc => s + 4096 * acc) 0)

/-- r(x) = m(x) mod g(x), coefficient of x^(p-1-j) at place j (R220). -/
def remainder (p : Nat) (m : List Nat) : List Nat :=
  let g := ((generator p).take p).reverse
  m.foldl (fun reg x =>
    let fb := x ^^^ nth reg 0 0
    let sh := reg.drop 1 ++ [0]
    if fb = 0 then sh else List.zipWith (fun a c => a ^^^ gfMul fb c) sh g) (List.replicate p 0)

/-- The 4,353 message bytes of a row's 128 sectors (data, tag) in logical order (R220). -/
def messageBytes (sectors : List (Bytes × Nat)) : Bytes := sectors.flatMap (fun s => s.1 ++ leBytes 2 s.2) ++ [0]

/-- The parity bytes of a row of a strength, as its parity slots hold them (R220). -/
def pageParity (strength : Nat) (sectors : List (Bytes × Nat)) : Bytes :=
  let p := paritySymbols strength
  ofSymbols (32 * paritySlots strength) (remainder p (toSymbols messageSymbols (messageBytes sectors)))

/-- The parity contribution of a change of one sector: its old and new 34 message bytes (R230). -/
def parityDelta (strength sector : Nat) (old new : Bytes × Nat) : Bytes :=
  let d := xorBytes (old.1 ++ leBytes 2 old.2) (new.1 ++ leBytes 2 new.2)
  let p := paritySymbols strength
  ofSymbols (32 * paritySlots strength)
    (remainder p (toSymbols messageSymbols (List.replicate (34 * sector) 0 ++ d)))

/-! ### Decoding (R225) -/

/-- Syndromes of a codeword: its values at α^0 to α^(p-1). -/
def syndromes (p : Nat) (c : List Nat) : List Nat :=
  (List.range p).map fun i => let a := alpha i; c.foldl (fun acc x => gfMul acc a ^^^ x) 0

/-- Berlekamp-Massey with erasures: the locator polynomial and its degree, from syndromes and erasure locator. -/
def locator (p s : Nat) (syn era : List Nat) : List Nat × Nat :=
  let step := fun (st : List Nat × List Nat × Nat) (r : Nat) =>
    let (lam, b, l) := st
    let delta := (List.range (Nat.min lam.length r)).foldl
      (fun acc j => acc ^^^ gfMul (nth lam j 0) (nth syn (r - 1 - j) 0)) 0
    let xb := 0 :: b
    if delta = 0 then (lam, xb, l)
    else
      let t := polyMul.add lam (xb.map (gfMul delta))
      if 2 * l ≤ r + s - 1 then (t, lam.map (gfMul (gfInv delta)), r - l + s) else (t, xb, l)
  let (lam, _, l) := ((List.range (p - s)).map (· + s + 1)).foldl step (era, era, s)
  (lam, l)

/-- Derivative of a polynomial over a field of characteristic 2. -/
def derivative (a : List Nat) : List Nat :=
  (a.drop 1).zipIdx.map fun (c, i) => if i % 2 == 0 then c else 0

/-- The corrected codeword and the number of errors outside the erasures, or none (R225): errors alone with no
erasures given, errors and erasures otherwise. The result stands only when 2e + s ≤ p and every syndrome vanishes. -/
def rsDecode (p : Nat) (c : List Nat) (erased : List Nat) : Option (List Nat × Nat) :=
  let n := c.length
  let syn := syndromes p c
  if syn.all (· == 0) then some (c, 0)
  else if erased.length > p then none
  else
    let s := erased.length
    let era := erased.foldl (fun g j => polyMul g [1, alpha (n - 1 - j)]) [1]
    let (lam, l) := locator p s syn era
    let roots := (List.range n).filter fun j => polyEval lam (alpha (4095 - (n - 1 - j) % 4095)) == 0
    if roots.length ≠ l || 2 * (l - s) + s > p then none
    else
      let omega := (polyMul syn lam).take p
      let dl := derivative lam
      let fixed := roots.foldl (fun c j =>
        let x := alpha (n - 1 - j)
        let xi := gfInv x
        let e := gfMul x (gfMul (polyEval omega xi) (gfInv (polyEval dl xi)))
        c.modify j (· ^^^ e)) c
      if (syndromes p fixed).all (· == 0) then some (fixed, l - s) else none

/-- Codeword symbols that a logical sector's 34 message bytes cover. -/
def sectorSymbols (i : Nat) : List Nat :=
  let lo := 272 * i / 12
  (List.range ((272 * i + 271) / 12 + 1 - lo)).map (· + lo)

/-- Codeword symbols of parity slot k of a strength. -/
def paritySlotSymbols (strength k : Nat) : List Nat :=
  let lo := 256 * k / 12
  ((List.range ((256 * k + 255) / 12 + 1 - lo)).map (· + lo)).filterMap fun j =>
    if j < paritySymbols strength then some (messageSymbols + j) else none

end Sys2Proof.Machine
end

