-- ==== Sys2Proof/Machine/Float.lean ====
section
/-!
DEFINITION. The number formats of Table 9.4, conversion and rounding (R268 to R272), the per-element operations of
the atomics (R287, R288) and fp32 arithmetic of the engines (R274).
-/
namespace Sys2Proof.Machine

/-- What an element encodes: a NaN, an infinity, or a sign and an exact magnitude. -/
inductive FVal where
  | nan
  | inf (neg : Bool)
  | fin (neg : Bool) (mag : Rat)
  deriving DecidableEq, Repr

/-- 2^k. -/
def pow2 (k : Int) : Rat := if 0 ≤ k then ((2 ^ k.toNat : Nat) : Rat) else 1 / ((2 ^ (-k).toNat : Nat) : Rat)

/-- floor(log2 x) of a positive rational. -/
def floorLog2 (x : Rat) : Int :=
  let k : Int := (x.num.natAbs.log2 : Int) - (x.den.log2 : Int)
  if pow2 k ≤ x then k else k - 1

/-- A floating-point element format. `ieee` formats encode infinity and NaN in the top exponent; `maxCode` is the
largest finite magnitude code. -/
structure FloatFmt where
  e : Nat
  m : Nat
  bias : Int
  ieee : Bool
  maxCode : Nat
  deriving DecidableEq, Repr

/-- Element format of a code of Table 9.4, where it is floating-point. -/
def floatFmt : Nat → Option FloatFmt
  | 0x1 => some ⟨8, 23, 127, true, 0x7F7FFFFF⟩
  | 0x2 => some ⟨5, 10, 15, true, 0x7BFF⟩
  | 0x3 => some ⟨8, 7, 127, true, 0x7F7F⟩
  | 0x4 => some ⟨4, 3, 7, false, 0x7E⟩
  | 0x5 => some ⟨5, 2, 15, true, 0x7B⟩
  | 0x6 => some ⟨4, 3, 7, false, 0x7E⟩
  | 0x7 => some ⟨5, 2, 15, true, 0x7B⟩
  | 0x8 => some ⟨2, 3, 1, false, 0x1F⟩
  | 0x9 => some ⟨3, 2, 3, false, 0x1F⟩
  | 0xA => some ⟨2, 1, 1, false, 0x7⟩
  | _ => none

/-- Element bits of a code of Table 9.4; 0 where it has none. -/
def elemBits : Nat → Nat
  | 0x1 => 32 | 0x2 => 16 | 0x3 => 16 | 0x4 => 8 | 0x5 => 8 | 0x6 => 8 | 0x7 => 8
  | 0x8 => 6 | 0x9 => 6 | 0xA => 4 | 0xC => 8 | 0xD => 32 | 0xE => 64 | _ => 0

/-- A code with block scales (R268). -/
def isMx (f : Nat) : Bool := decide (0x6 ≤ f) && decide (f ≤ 0xA)

/-- emax of R271. -/
def mxEmax : Nat → Int
  | 0x6 => 8 | 0x7 => 15 | 0x8 => 2 | 0x9 => 4 | 0xA => 2 | _ => 0

/-- Quiet NaN of a destination (Table 9.5). -/
def quietNan : Nat → Nat
  | 0x1 => 0x7FC00000 | 0x2 => 0x7E00 | 0x3 => 0x7FC0 | 0x5 => 0x7E | 0x4 => 0x7F | _ => 0

/-- The value of an element's bits. The E4M3 NaN is S.1111.111; MXFP6 and MXFP4 elements have none (R267). -/
def decodeFloat (code : Nat) (f : FloatFmt) (x : Nat) : FVal :=
  let neg := bit x (f.e + f.m)
  let ex := bits x (f.e + f.m - 1) f.m
  let ma := x % 2 ^ f.m
  if f.ieee && ex == 2 ^ f.e - 1 then (if ma = 0 then .inf neg else .nan)
  else if (code == 0x4 || code == 0x6) && ex == 15 && ma == 7 then .nan
  else if ex = 0 then .fin neg (ma * pow2 (1 - f.bias - f.m))
  else .fin neg (((2 ^ f.m + ma : Nat) : Rat) * pow2 ((ex : Int) - f.bias - f.m))

/-- How a magnitude between two neighbours rounds: to nearest even, or by a draw u of 16 bits (R270, R272). -/
inductive RoundBy where
  | nearest
  | draw (u : Nat)
  deriving DecidableEq, Repr

/-- Round a scaled magnitude to a whole number. -/
def roundMag (by' : RoundBy) (x : Rat) : Nat :=
  let n := (ratFloor x).toNat
  let fr := x - n
  match by' with
  | .nearest => if fr > 1 / 2 || (fr = 1 / 2 && n % 2 == 1) then n + 1 else n
  | .draw u => if (ratFloor (fr * 65536)).toNat + u ≥ 65536 then n + 1 else n

/-- Unit of the last kept bit of a magnitude in a format, as an exponent of 2. -/
def ulpExp (f : FloatFmt) (mag : Rat) : Int := max (floorLog2 mag) (1 - f.bias) - f.m

/-- The magnitude is a value of the format's grid. -/
def onGrid (f : FloatFmt) (mag : Rat) : Bool := mag = 0 || decide ((mag / pow2 (ulpExp f mag)).den = 1)

/-- Magnitude code after rounding, which may pass the largest finite code. -/
def encodeMag (f : FloatFmt) (by' : RoundBy) (mag : Rat) : Nat :=
  if mag = 0 then 0
  else
    let q := ulpExp f mag
    let n := roundMag by' (mag / pow2 q)
    (q + f.m + f.bias).toNat * 2 ^ f.m + n - 2 ^ f.m

/-- The magnitude is a value of the format: on its grid and not past its largest finite magnitude. -/
def isExact (f : FloatFmt) (mag : Rat) : Bool := onGrid f mag && decide (encodeMag f .nearest mag ≤ f.maxCode)

/-- What happens past the largest finite magnitude. -/
inductive Overflow where
  | toInfinity
  | saturate
  | toNan
  deriving DecidableEq, Repr

/-- Bits of a value in a floating-point destination (R270, Table 9.5). -/
def encodeFloat (code : Nat) (f : FloatFmt) (by' : RoundBy) (ov : Overflow) : FVal → Nat
  | .nan => quietNan code
  | .inf neg =>
    let s := b2n neg * 2 ^ (f.e + f.m)
    if f.ieee then s + (2 ^ f.e - 1) * 2 ^ f.m
    else match ov with
      | .saturate => s + f.maxCode
      | _ => quietNan code
  | .fin neg mag =>
    let s := b2n neg * 2 ^ (f.e + f.m)
    let c := encodeMag f by' mag
    if c ≤ f.maxCode then s + c
    else match ov with
      | .toInfinity => if f.ieee then s + (2 ^ f.e - 1) * 2 ^ f.m else quietNan code
      | .saturate => s + f.maxCode
      | .toNan => quietNan code

/-- The value as a signed number of an integer element of b bits. -/
def signedVal (b x : Nat) : Int := if x < 2 ^ (b - 1) then (x : Int) else (x : Int) - 2 ^ b

/-- The rounding byte of a descriptor (R270). -/
structure Rounding where
  stochastic : Bool
  saturate   : Bool
  deriving DecidableEq, Repr

/-- Reads a rounding byte; none when a reserved bit is set. -/
def roundingOf (b : Nat) : Option Rounding := if b < 4 then some ⟨bit b 0, bit b 1⟩ else none

/-- One step of the xorshift generator (R272). -/
def xorshift (x : Nat) : Nat :=
  let x := (x ^^^ x * 2 ^ 13) % 2 ^ 32
  let x := x ^^^ x / 2 ^ 17
  (x ^^^ x * 2 ^ 5) % 2 ^ 32

/-- Round one value into a format, drawing only for an inexact magnitude (R272). -/
def narrowOne (code : Nat) (f : FloatFmt) (r : Rounding) (ov : Overflow) (rng : Nat) (v : FVal) : Nat × Nat :=
  match v with
  | .fin _ mag =>
    if r.stochastic && !isExact f mag then
      let g := xorshift rng
      (encodeFloat code f (.draw (bits g 31 16)) ov v, g)
    else (encodeFloat code f .nearest ov v, rng)
  | _ => (encodeFloat code f .nearest ov v, rng)

/-- Elements of b bits packed little-endian (R268). -/
def unpack (b n : Nat) (bs : Bytes) : List Nat := let v := leNat bs; (List.range n).map fun k => v / 2 ^ (k * b) % 2 ^ b

/-- The bytes of elements of b bits packed little-endian (R268). -/
def pack (b : Nat) (xs : List Nat) : Bytes :=
  leBytes (ceilDiv (b * xs.length) 8) (xs.foldr (fun x acc => x + 2 ^ b * acc) 0)

/-- Natural row bytes of E elements (R268). -/
def naturalRow (code e : Nat) : Nat := ceilDiv (elemBits code * e) 8 + if isMx code then e / 32 else 0

/-- Output row bytes (R268). -/
def outputRow (code e : Nat) : Nat := roundUp (naturalRow code e) 32

/-- Scale a value by a power of two. -/
def FVal.scale (k : Int) : FVal → FVal
  | .fin n m => .fin n (m * pow2 k)
  | v => v

/-- A row's elements, widened exactly (R270). -/
def widenRow (code e : Nat) (bs : Bytes) : List FVal :=
  let raw := unpack (elemBits code) e bs
  match floatFmt code with
  | none => raw.map fun x => let v := signedVal (elemBits code) x; .fin (decide (v < 0)) ((v.natAbs : Nat) : Rat)
  | some f =>
    if isMx code then
      let off := ceilDiv (elemBits code * e) 8
      raw.zipIdx.map fun (x, k) =>
        let sc := field bs (off + k / 32) 1
        if sc = 0xFF then .nan else (decodeFloat code f x).scale ((sc : Int) - 127)
    else raw.map (decodeFloat code f)

/-- Magnitude of a finite value. -/
def FVal.mag? : FVal → Option Rat
  | .fin _ m => some m
  | _ => none

/-- One MX block of 32 values: element codes, scale byte and generator (R271, Table 9.5). -/
def narrowBlock (code : Nat) (f : FloatFmt) (r : Rounding) (rng : Nat) (vs : List FVal) : List Nat × Nat × Nat :=
  if vs.any fun v => v.mag?.isNone then (vs.map fun _ => 0, 0xFF, rng)
  else
    let amax := vs.foldl (fun a v => max a (v.mag?.getD 0)) 0
    let x : Int := if amax = 0 then -127 else max (-127) (min 127 (floorLog2 amax - mxEmax code))
    let (cs, g) := vs.foldl (fun (acc : List Nat × Nat) v =>
      let (c, g) := narrowOne code f r .saturate acc.2 (v.scale (-x)); (acc.1 ++ [c], g)) ([], rng)
    (cs, (x + 127).toNat, g)

/-- Blocks of 32. -/
def chunks32 {α : Type} : Nat → List α → List (List α)
  | 0, _ => []
  | n + 1, xs => xs.take 32 :: chunks32 n (xs.drop 32)

/-- A row narrowed to a floating-point or MX destination: its output row bytes and the generator (R268, R270). -/
def narrowRow (code : Nat) (r : Rounding) (rng : Nat) (vs : List FVal) : Bytes × Nat :=
  match floatFmt code with
  | none => (List.replicate (outputRow code vs.length) 0, rng)
  | some f =>
    let size := outputRow code vs.length
    if isMx code then
      let (cs, scs, g) := (chunks32 (vs.length / 32) vs).foldl (fun (acc : List Nat × List Nat × Nat) b =>
        let (c, sc, g) := narrowBlock code f r acc.2.2 b; (acc.1 ++ c, acc.2.1 ++ [sc], g)) ([], [], rng)
      (padTo size (pack (elemBits code) cs ++ scs.map (BitVec.ofNat 8)), g)
    else
      let ov := if r.saturate then Overflow.saturate else if code = 0x4 then .toNan else .toInfinity
      let (cs, g) := vs.foldl (fun (acc : List Nat × Nat) v =>
        let (c, g) := narrowOne code f r ov acc.2 v; (acc.1 ++ [c], g)) ([], rng)
      (padTo size (pack (elemBits code) cs), g)

/-! ### Arithmetic -/

/-- Signed exact value of a finite element. -/
def FVal.rat : FVal → Rat
  | .fin n m => if n then -m else m
  | _ => 0

/-- A finite value from an exact rational; a zero takes the given sign. -/
def FVal.ofRat (zeroNeg : Bool) (x : Rat) : FVal :=
  if x = 0 then .fin zeroNeg 0 else .fin (decide (x < 0)) (if x < 0 then -x else x)

/-- The value is zero. -/
def FVal.isZero : FVal → Bool
  | .fin _ m => m = 0
  | _ => false

/-- The sign of a value. -/
def FVal.neg : FVal → Bool
  | .nan => false
  | .inf n => n
  | .fin n _ => n

/-- Exact sum; none where the manual states no result (opposite infinities). A zero sum is +0 unless both addends
carry a minus sign. PRESUMED (IEEE 754; notes/assumptions/12.md). -/
def FVal.add : FVal → FVal → Option FVal
  | .nan, _ => some .nan
  | _, .nan => some .nan
  | .inf a, .inf b => if a = b then some (.inf a) else none
  | .inf a, _ => some (.inf a)
  | _, .inf b => some (.inf b)
  | a, b => some (FVal.ofRat (a.neg && b.neg) (a.rat + b.rat))

/-- Exact product; none where the manual states no result (zero times infinity). -/
def FVal.mul : FVal → FVal → Option FVal
  | .nan, _ => some .nan
  | _, .nan => some .nan
  | .inf a, b => if b.isZero then none else some (.inf (a != b.neg))
  | a, .inf b => if a.isZero then none else some (.inf (a.neg != b))
  | .fin a x, .fin b y => some (.fin (a != b) (x * y))

/-- a ranks below b: -0 below +0 (R274, R288). Neither is a NaN. -/
def FVal.below : FVal → FVal → Bool
  | .inf n, b => n && b != .inf true
  | a, .inf n => !n && a != .inf false
  | a, b => a.rat < b.rat || (a.isZero && b.isZero && a.neg && !b.neg)

/-- The lesser or greater of two values, a NaN winning (R288). -/
def FVal.pick (greater : Bool) (a b : FVal) : FVal :=
  if a = .nan || b = .nan then .nan
  else if greater then (if a.below b then b else a) else (if b.below a then b else a)

/-- An atomic operation of Table 9.11. -/
inductive AtomOp where
  | add | min | max | umin | umax | and | or | xor | swap | cas
  deriving DecidableEq, Repr

/-- Operation of a code of Table 9.11. -/
def atomOp : Nat → Option AtomOp
  | 0 => some .add | 1 => some .min | 2 => some .max | 3 => some .umin | 4 => some .umax
  | 5 => some .and | 6 => some .or | 7 => some .xor | 8 => some .swap | 9 => some .cas | _ => none

/-- Formats an operation permits (Table 9.11). -/
def atomPermits (op : AtomOp) (code : Nat) : Bool :=
  let int := code == 0xC || code == 0xD || code == 0xE
  let fp := decide (1 ≤ code) && decide (code ≤ 5)
  match op with
  | .umin | .umax | .and | .or | .xor => int
  | _ => int || fp

/-- Overflow of a floating-point ADD: E4M3 gives ±448, the others ±infinity (R288). -/
def addOverflow (code : Nat) : Overflow := if code = 0x4 then .saturate else .toInfinity

/-- Sum of two element codes of a floating-point format, rounded once (R288). -/
def floatAdd (code : Nat) (f : FloatFmt) (m a : Nat) : Nat :=
  match (decodeFloat code f m).add (decodeFloat code f a) with
  | some v => encodeFloat code f .nearest (addOverflow code) v
  | none => Config.unstatedElement code m a % 2 ^ elemBits code

/-- One element of an atomic: memory m, operand a, and for CAS the compare c (Table 9.11, R288). -/
def atomElem (op : AtomOp) (code m a c : Nat) : Nat :=
  let b := elemBits code
  match op with
  | .add => match floatFmt code with
    | some f => floatAdd code f m a
    | none => (m + a) % 2 ^ b
  | .min => match floatFmt code with
    | some f => minmax code f false m a
    | none => if signedVal b a < signedVal b m then a else m
  | .max => match floatFmt code with
    | some f => minmax code f true m a
    | none => if signedVal b m < signedVal b a then a else m
  | .umin => Nat.min m a
  | .umax => Nat.max m a
  | .and => m &&& a
  | .or => m ||| a
  | .xor => m ^^^ a
  | .swap => a
  | .cas => if m = c then a else m
where
  /-- MIN and MAX of two element codes, the winner bit for bit. -/
  minmax (code : Nat) (f : FloatFmt) (greater : Bool) (m a : Nat) : Nat :=
    let vm := decodeFloat code f m
    let va := decodeFloat code f a
    if vm = .nan || va = .nan then quietNan code
    else if FVal.pick greater vm va = vm then m else a

/-- Elements of w bytes of a string. -/
def elements (w : Nat) (bs : Bytes) : List Nat := (List.range (bs.length / w)).map fun i => leNat (slice bs (i * w) w)

/-- The bytes of elements of w bytes. -/
def elementBytes (w : Nat) (xs : List Nat) : Bytes := xs.flatMap (leBytes w)

/-- The prior bytes after an atomic with operand data: for CAS the compares, then the swaps (R287). -/
def atomBytes (op : AtomOp) (code : Nat) (prior data : Bytes) : Bytes :=
  let w := elemBits code / 8
  let ms := elements w prior
  let n := prior.length
  let as' := elements w (if op = .cas then slice data n n else slice data 0 n)
  let cs := elements w (slice data 0 n)
  elementBytes w ((ms.zip (as'.zip cs)).map fun (m, a, c) => atomElem op code m a c)

/-! ### fp32 arithmetic of the engines (R274) -/

/-- fp32. -/
def fp32 : FloatFmt := ⟨8, 23, 127, true, 0x7F7FFFFF⟩

/-- A value rounded to fp32, nearest, ties to even. -/
def toF32 (v : FVal) : FVal := decodeFloat 1 fp32 (encodeFloat 1 fp32 .nearest .toInfinity v)

/-- fp32 bits of a value of fp32. -/
def f32Bits (v : FVal) : Nat := encodeFloat 1 fp32 .nearest .toInfinity v

/-- fp32 sum, rounded. -/
def f32Add (a b : FVal) : FVal :=
  match a.add b with
  | some v => toF32 v
  | none => decodeFloat 1 fp32 (Config.unstatedElement 1 (f32Bits a) (f32Bits b) % 2 ^ 32)

/-- fp32 product, rounded. -/
def f32Mul (a b : FVal) : FVal :=
  match a.mul b with
  | some v => toF32 v
  | none => decodeFloat 1 fp32 (Config.unstatedElement 1 (f32Bits a) (f32Bits b) % 2 ^ 32)

/-- fp32 quotient by a positive whole number, rounded (mean, R274). -/
def f32DivNat (a : FVal) (n : Nat) : FVal :=
  match a with
  | .fin s m => toF32 (.fin s (m / n))
  | v => v

/-- Value of an F32 field (R15). -/
def f32Rat (x : Nat) : Rat := (decodeFloat 1 fp32 x).rat

end Sys2Proof.Machine
end

