-- ==== Sys2Proof/Machine/Interleave.lean ====
section
/-!
DEFINITION. The variants (Table 1.5), the segment map entry (Table 3.1), physical slots (Table 3.3) and the interleave
(Table 3.4, R64, R65).
-/
namespace Sys2Proof.Machine

/-- The three part designations (R1, R28). -/
inductive Variant where
  | qz2048 | qz1536 | qz1024
  deriving DecidableEq, Repr

/-- Stacks enabled per quadrant (Table 1.5). -/
def Variant.perQuadrant : Variant → Nat
  | .qz2048 => 8 | .qz1536 => 6 | .qz1024 => 4
/-- Stack enable mask, object 0x1004:01. -/
def Variant.mask : Variant → Nat
  | .qz2048 => 0xFFFFFFFF | .qz1536 => 0x3F3F3F3F | .qz1024 => 0x0F0F0F0F
/-- Fused maximum pin rate in Mb/s. -/
def Variant.maxRate : Variant → Nat
  | .qz2048 => 8000 | .qz1536 => 7200 | .qz1024 => 6400
/-- Maximum power ceiling, W. -/
def Variant.ceiling : Variant → Nat
  | .qz2048 => 1150 | .qz1536 => 860 | .qz1024 => 600
/-- Default power envelope, W. -/
def Variant.envelope : Variant → Nat
  | .qz2048 => 1000 | .qz1536 => 750 | .qz1024 => 520
/-- Lowest accepted envelope, W (R363). -/
def Variant.lowEnvelope : Variant → Nat
  | .qz2048 => 400 | .qz1536 => 300 | .qz1024 => 210
/-- Foster reserve, segments. -/
def Variant.foster : Variant → Nat
  | .qz2048 => 8192 | .qz1536 => 6144 | .qz1024 => 4096
/-- Exported at first start, segments. -/
def Variant.exported : Variant → Nat
  | .qz2048 => 516096 | .qz1536 => 387072 | .qz1024 => 258048
/-- Data capacity in GiB, also the low half of the device type. -/
def Variant.gib : Variant → Nat
  | .qz2048 => 2048 | .qz1536 => 1536 | .qz1024 => 1024
/-- Device type, object 0x1000:00. -/
def Variant.deviceType (v : Variant) : Nat := 0x515A0000 + v.gib
/-- Part designation, ASCII. -/
def Variant.designation : Variant → String
  | .qz2048 => "QZ-2048" | .qz1536 => "QZ-1536" | .qz1024 => "QZ-1024"
/-- Variant bit of an image manifest (Table 15.1). -/
def Variant.bitNo : Variant → Nat
  | .qz2048 => 0 | .qz1536 => 1 | .qz1024 => 2
/-- The stack position is enabled (R28, R29). -/
def Variant.enables (v : Variant) (stack : Nat) : Bool := decide (stack < 32) && decide (stack % 8 < v.perQuadrant)
/-- The enabled stacks. -/
def Variant.stackList (v : Variant) : List Nat := (List.range 32).filter v.enables
/-- The active logical channels. -/
def Variant.channels (v : Variant) : List Nat := (List.range 2048).filter fun g => v.enables (g / 64)

/-! ### Segment map entry -/

/-- State of an entry (Table 3.1). -/
inductive SegState where
  | absent | live | moving
  deriving DecidableEq, Repr

/-- Interleave class (Table 3.1). -/
inductive Spread where
  | broad | affine | single
  deriving DecidableEq, Repr

/-- A physical slot (Table 3.3). -/
inductive Place where
  | broad (p : Nat)
  | affine (q g : Nat)
  | single (n h : Nat)
  deriving DecidableEq, Repr

/-- A segment map entry's fields. Strength is 0 to 3 for S1 to S4; replica is segment class 0b01. -/
structure Entry where
  state    : SegState := .absent
  phase    : Bool := false
  fostered : Bool := false
  strength : Nat := 0
  guarded  : Bool := false
  blockSum : Bool := false
  replica  : Bool := false
  fmt      : Nat := 0
  domain   : Nat := 0
  pinned   : Bool := false
  place    : Place := .broad 0
  deriving DecidableEq, Repr

/-- Placement field [50:32] of a slot. -/
def Place.code : Place → Nat
  | .broad p => p
  | .affine q g => q * 2 ^ 17 + g
  | .single n h => n * 2 ^ 14 + h

/-- Interleave class of a slot. -/
def Place.spread : Place → Spread
  | .broad _ => .broad
  | .affine _ _ => .affine
  | .single _ _ => .single

/-- Interleave class code. -/
def Spread.code : Spread → Nat
  | .broad => 0 | .affine => 1 | .single => 2

/-- The 64 bits of an entry (Table 3.1). -/
def Entry.word (e : Entry) : Nat :=
  (match e.state with | .absent => 0 | .live => 1 | .moving => 2) + b2n e.phase * 4 + b2n e.fostered * 8
  + e.place.spread.code * 2 ^ 4 + e.strength * 2 ^ 6 + b2n e.guarded * 2 ^ 8 + b2n e.blockSum * 2 ^ 9
  + b2n e.replica * 2 ^ 10 + e.fmt * 2 ^ 12 + e.domain * 2 ^ 16 + b2n e.pinned * 2 ^ 22 + e.place.code * 2 ^ 32

/-- The entry an image asks for, its placement holding only the quadrant or stack; none when a field of the image that
must be 0 is not, or an encoding is reserved (R494 step 1, Table 3.5). -/
def entryOfImage (x : Nat) : Option Entry :=
  let spread := bits x 5 4
  let q := bits x 50 49
  let n := bits x 50 46
  let fmt := bits x 15 12
  let placeOk := match spread with
    | 0 => bits x 50 32 == 0
    | 1 => bits x 48 32 == 0
    | 2 => bits x 45 32 == 0
    | _ => false
  if bits x 3 0 == 0 && placeOk && bits x 11 10 ≤ 1 && fmt ≠ 0xB && fmt ≠ 0xF && bits x 31 23 == 0 && bits x 63 51 == 0
  then some
    { strength := bits x 7 6, guarded := bit x 8, blockSum := bit x 9, replica := bits x 11 10 == 1, fmt := fmt,
      domain := bits x 21 16, pinned := bit x 22,
      place := match spread with | 0 => .broad 0 | 1 => .affine q 0 | _ => .single n 0 }
  else none

/-! ### Slots, frames and the hash -/

/-- Frames per channel of a slot group: first frame and count (Table 3.3). -/
def Place.frames (v : Variant) : Place → Nat × Nat
  | .broad p => match v with
    | .qz2048 => (p, 1) | .qz1536 => (4 * (p / 3), 4) | .qz1024 => (2 * p, 2)
  | .affine _ g => match v with
    | .qz2048 => (4 * g, 4) | .qz1536 => (16 * (g / 3), 16) | .qz1024 => (8 * g, 8)
  | .single _ h => (32 * h, 32)

/-- Slot numbers of a class: one past the highest (Table 3.3). -/
def slotCount (v : Variant) : Spread → Nat
  | .broad => match v with | .qz2048 => 516096 | .qz1536 => 387072 | .qz1024 => 258048
  | .affine => match v with | .qz2048 => 129024 | .qz1536 => 96768 | .qz1024 => 64512
  | .single => 16128

/-- The slot holds frames in a stack (Table 3.3). -/
def Place.inStack (v : Variant) (p : Place) (n : Nat) : Bool :=
  v.enables n && match p with
    | .broad _ => true
    | .affine q _ => n / 8 == q
    | .single s _ => n == s

/-- The slot holds frames in a quadrant. -/
def Place.inQuadrant (p : Place) (q : Nat) : Bool :=
  match p with
  | .broad _ => true
  | .affine k _ => k == q
  | .single n _ => n / 8 == q

/-- In QZ-1536, broad and affine slots share their triad's frames by position (R62). -/
def Place.sameTriad (v : Variant) (a b : Place) : Bool :=
  v == .qz1536 && match a, b with
    | .broad p, .broad p' => p / 3 == p' / 3 && p != p'
    | .affine q g, .affine q' g' => q == q' && g / 3 == g' / 3 && g != g'
    | _, _ => false

/-- Two slots cannot both be occupied: they share a frame of a channel (R62). -/
def Place.overlaps (v : Variant) (a b : Place) : Bool :=
  let (fa, ca) := a.frames v
  let (fb, cb) := b.frames v
  decide (fa < fb + cb) && decide (fb < fa + ca) && !a.sameTriad v b
  && (List.range 32).any fun n => a.inStack v n && b.inStack v n

/-- Where a granule lies: channel, frame, and granule within the frame (R64). -/
structure Granule where
  gch   : Nat
  frame : Nat
  e     : Nat
  deriving DecidableEq, Repr

/-- The interleave of Table 3.4: granule index G of a segment at a slot. -/
def interleave (v : Variant) (pl : Place) (G : Nat) : Granule :=
  let ch := fun (t : Nat) => bits G 5 0 ^^^ bits t 5 0 ^^^ bits t 11 6
  let mk := fun (n c d : Nat) => (⟨n * 64 + c, (pl.frames v).1 + d / 8, d % 8⟩ : Granule)
  match pl with
  | .single n h => mk n (ch h) (bits G 13 6)
  | .broad p => match v with
    | .qz2048 =>
      let q := bits G 7 6 ^^^ bits p 13 12 ^^^ bits G 12 11
      let u := bits G 10 8 ^^^ bits p 16 14 ^^^ (bits p 18 17 * 2 + bits G 13 13)
      mk (8 * q + u) (ch p) (bits G 13 11)
    | .qz1024 =>
      let q := bits G 7 6 ^^^ bits p 13 12 ^^^ bits G 11 10
      let u := bits G 9 8 ^^^ bits p 15 14 ^^^ bits G 13 12
      mk (8 * q + u) (ch p) (bits G 13 10)
    | .qz1536 =>
      let t := p / 3
      let q := bits G 7 6 ^^^ bits t 13 12
      let b := bits G 8 8 ^^^ bits t 14 14
      let m := 32 * (p % 3) + bits G 13 9
      mk (8 * q + 2 * (m % 3) + b) (ch t) (m / 3)
  | .affine q g => match v with
    | .qz2048 => mk (8 * q + (bits G 8 6 ^^^ bits g 14 12 ^^^ bits G 11 9)) (ch g) (bits G 13 9)
    | .qz1024 => mk (8 * q + (bits G 7 6 ^^^ bits g 13 12 ^^^ bits G 9 8)) (ch g) (bits G 13 8)
    | .qz1536 =>
      let t := g / 3
      let b := bits G 6 6 ^^^ bits t 12 12
      let m := 128 * (g % 3) + bits G 13 7
      mk (8 * q + 2 * (m % 3) + b) (ch t) (m / 3)

/-- Row, bank and sector of a channel-local data address (R65). -/
structure CellAt where
  bank   : Nat
  row    : Nat
  sector : Nat
  byte   : Nat
  deriving DecidableEq, Repr

/-- R65. -/
def cellAt (frame e byte : Nat) : CellAt :=
  let a := frame * 2048 + e * 256 + byte
  ⟨bits a 17 12 ^^^ bits a 23 18, bits a 29 18, bits a 11 5, bits a 4 0⟩

/-- The two frames of a row of a bank: the first of them (R337). -/
def frameOfRow (bank row : Nat) : Nat := 128 * row + 2 * (bank ^^^ row % 64)

/-- Frames of a channel (R61, Table 3.2). -/
def dataFrames : Nat := 516096
/-- First frame past the foster band. -/
def metaFrame : Nat := 524224
/-- Foster-band frames per channel. -/
def fosterPerChannel : Nat := 8128
/-- A row that holds a metadata frame is always S4 (R221). -/
def isMetaRow (bank row : Nat) : Bool := decide (metaFrame ≤ frameOfRow bank row)

/-- Fixed map of Slate mode: channel and frame of a local address (R455). -/
def fixedMap (a : Nat) : Granule :=
  ⟨(bits a 37 36 * 8 + bits a 35 33) * 64 + bits a 13 8, bits a 32 17, bits a 16 14⟩

/-- The quadrant of a channel. -/
def quadOf (gch : Nat) : Nat := gch / 512

end Sys2Proof.Machine
end

