-- ==== Sys2Proof/Machine/State.lean ====
section
/-!
DEFINITION. The state of the complex as plain data, what stops a step, and the state right after reset: the complex with
qz_rst_n low, before its first release (R26). Groups of state follow the manual's chapters. Register-like objects whose
value a host writes are held by index in `State.objs`; every other value an object shows is computed from the state below.
-/
namespace Sys2Proof.Machine

/-- No meaning of this model stops with a fault: the manual gives every command an effect. The type is closed. -/
inductive Fault where
  /-- Reserved: raised by no meaning. Safe: a stop proves nothing false. -/
  | none
  deriving DecidableEq, Repr

/-- Why a command has no meaning. -/
inductive Refusal where
  /-- Raised by an arm of `exec` whose command has no meaning in this model yet. Safe: the run stops. -/
  | notModelled (mnemonic : String)
  deriving DecidableEq, Repr

/-! ### Notices, journal and ledger (chapters 11 and 13) -/

/-- A notice body's content (Table 13.5); the sequence is that of the destination it waits for. -/
structure Notice where
  code     : Nat
  severity : Nat := 0
  stamp    : Nat := 0
  payload  : Bytes := []
  count    : Nat := 1
  merged   : Bool := false
  seq      : Nat := 0
  deriving DecidableEq, Repr

/-- A fault or critical body kept for its acknowledge (R418). -/
structure Kept where
  body    : Notice
  resends : Nat := 0
  sentAt  : Nat := 0
  deriving DecidableEq, Repr

/-- One service subscriber's side (R415 to R418): queue of 64, kept bodies, drops, bodies sent this second. -/
structure Subscriber where
  queue  : List Notice := []
  kept   : List Kept := []
  next   : Nat := 0
  drops  : Nat := 0
  unsaid : Nat := 0
  second : Nat := 0
  sent   : Nat := 0
  deriving DecidableEq, Repr

/-- A ledger or journal record in NOR (R350): ring sector, sequence, kind and the whole record's bytes. -/
structure Rec where
  sector : Nat
  seq    : Nat
  kind   : Nat
  bytes  : Bytes
  /-- Offset of its first byte in its sector. -/
  offset : Nat := 0
  deriving DecidableEq, Repr

/-- A ring region of NOR (R349, R350): good sectors minus those used, the sector and byte written next. -/
structure Ring where
  recs   : List Rec := []
  next   : Nat := 0
  sector : Nat := 0
  offset : Nat := 0
  /-- Bad sectors with the powered second at which each was marked. -/
  bad    : List (Nat × Nat) := []
  erases : Nat := 0
  /-- Sectors that hold records and are not erased, in ring order. -/
  used   : List Nat := []
  deriving DecidableEq, Repr

/-- An image region of NOR and its tag (R471, Table 15.5). -/
structure Region where
  state  : Nat := 0
  seq    : Nat := 0
  image  : Bytes := []
  digest : Bytes := List.replicate 48 0
  deriving DecidableEq, Repr

/-- A unit of the fuse map, the ledger or a test: channel slot, channel lane or die-to-die lane end (Table 11.2), with
its die 0 to 4. -/
structure Unit11 where
  die   : Nat
  entry : Nat
  deriving DecidableEq, Repr

/-- A soft or queued repair of a stack bank (R336 to R341): action as ledger kind 0x08. -/
structure Repair where
  stack  : Nat
  pch    : Nat
  bank   : Nat
  action : Nat
  addr   : Nat
  deriving DecidableEq, Repr

/-- The serial NOR and its writer (R348 to R354, R424, R471). -/
structure Nor where
  present   : Bool := true
  ledger    : Ring := {}
  journal   : Ring := {}
  /-- Records due to be written: true for the ledger, kind, body, time stamp of the event. -/
  waiting   : List (Bool × Nat × Bytes × Bytes) := []
  jSecond   : Nat := 0
  jCount    : Nat := 0
  jDropped  : Nat := 0
  jUnsaid   : Nat := 0
  /-- The directory's two halves as they stand in NOR, and the erase counts of the regions before the rings (R349). -/
  halves    : List Bytes := []
  erased    : List Nat := [0, 0, 0, 0, 0]
  /-- Ledger records of the forecast window, whether or not their sectors are erased since (R356). -/
  history   : List Rec := []
  /-- Settings store: current records by object key, records written in the ring, good free sectors, bad sectors. -/
  settings  : List (Nat × Nat) := []
  written   : Nat := 0
  free      : Nat := 16
  storeBad  : Nat := 0
  shadows   : List (Nat × List Nat) := []
  slotA     : Region := {}
  slotB     : Region := {}
  staging   : Region := {}
  /-- Value of 0x1220 and 0x1221 as last persisted (R53). -/
  cycles    : Nat := 0
  powered   : Nat := 0
  /-- Powered hours at which wear and forecasts were last written; objects 0x5430; notices 0x5050 sent: resource, scope and
  the hour (R353, R356). -/
  wearHour  : Nat := 0
  foreHour  : Nat := 0
  forecasts : List Bytes := []
  foreSaid  : List ((Nat × Nat) × Nat) := []
  deriving DecidableEq, Repr

/-! ### Identity and time (chapters 1 and 2) -/

/-- Values of Table 1.7 that are neither fused nor derived. -/
structure Ident where
  nodeId   : Nat := 0
  medStep  : List Nat := [0, 0, 0, 0]
  medWord  : List Nat := [0, 0, 0, 0]
  stackId  : List Nat := List.replicate 32 0
  deriving DecidableEq, Repr

/-- A snapshot in progress (R55): hub time at issue, and each quadrant's time then, none where it is not captured. -/
structure Snapshot where
  issued  : Nat
  times   : List (Option Nat)
  deriving DecidableEq, Repr

/-- Counters and dates (R45 to R55). -/
structure Clocks where
  hub      : Nat := 0
  quad     : List Nat := [0, 0, 0, 0]
  /-- What each quadrant's counter has run beyond its count, in millionths of a nanosecond. -/
  phase    : List Int := [0, 0, 0, 0]
  /-- Reference lost, hub then MED0 to MED3 (R47). -/
  lost     : List Bool := [false, false, false, false, false]
  running  : Option Snapshot := none
  /-- 0x1203:02 to 0x1203:0A. -/
  snap     : List Nat := List.replicate 9 0
  date     : Nat := 0
  dateAt   : Nat := 0
  /-- 0x1211:00. -/
  dateSet  : Nat := 0
  /-- Lifetime powered seconds and power cycles at this release (R53). -/
  base     : Nat := 0
  cycles   : Nat := 0
  deriving DecidableEq, Repr

/-! ### Segments (chapter 3) -/

/-- Both copies of a segment's entry (R58, R79); the Ivory copy's phase chooses the current one. -/
structure Seg where
  ivory : Entry := {}
  sable : Entry := {}
  deriving DecidableEq, Repr

/-- A running move (R79): cause 1 host, 2 autonomous, 3 R77. -/
structure Move where
  seg    : Nat
  cause  : Nat
  source : Place
  target : Entry
  cursor : Nat := 0
  /-- The request of ENG that copies the granule at the cursor. -/
  busy   : Option Nat := none
  deriving DecidableEq, Repr

/-- A foster record (R75): channel record or frame record; during a map-out copy, frames below done are served. -/
structure Foster where
  channel : Bool
  src     : Nat
  first   : Nat
  count   : Nat
  dst     : Nat
  dstFirst : Nat
  /-- None when active; during a map-out, the frames of the run already copied. -/
  copied  : Option Nat := none
  deriving DecidableEq, Repr

/-- A slot on its way back to the allocator (R74, R244): its place and whether a retire pass precedes. -/
structure Freed where
  place   : Place
  retire  : Bool := false
  seg     : Nat := 0
  /-- Requests that looked the segment up before the Free. -/
  waits   : List Nat := []
  /-- The slot's entry, and the entry that the flip of a move put in its place. -/
  entry   : Entry := {}
  next    : Option Entry := none
  deriving DecidableEq, Repr

/-- A Stripe Guard parity set (R241): parity slot and members by position 1 to 15. -/
structure GuardSet where
  num     : Nat
  parity  : Place
  members : List (Nat × Place) := []
  /-- Slot kind and scope members must share. -/
  scope   : Place
  deriving DecidableEq, Repr

/-- The segment map and what moves below it. -/
structure SegMap where
  segs    : List (Nat × Seg) := []
  moves   : List Move := []
  moved   : Nat := 0
  foster  : List Foster := []
  freed   : List Freed := []
  guards  : List GuardSet := []
  /-- Autonomous placement: samples per segment and compute port, requests seen per port, last move, period, and the
  parameters in force for the running period (R81). -/
  samples : List (Nat × List Nat) := []
  seen    : List Nat := [0, 0, 0, 0]
  movedAt : List (Nat × Nat) := []
  period  : Nat := 0
  params  : List Nat := []
  /-- Qualifying segments whose moves wait while 16 run, with their quadrants, in order, and how many may still start in
  this period (R81). -/
  queued  : List (Nat × Nat) := []
  starts  : Nat := 0
  /-- Rebuild running: entries flipped so far (R82). -/
  rebuild : Option Nat := none
  /-- Entries changed by each pass that begins while another runs, in order. -/
  later   : List Nat := []
  passes  : Nat := 0
  /-- Channels mapped out since first start, in order: their count is m of R77. -/
  mapped  : List Nat := []
  low     : Bool := false
  /-- Retired frames that found no destination: channel and frame (R78, R337). -/
  gone    : List (Nat × Nat) := []
  /-- Touch lines whose bits have changed and whose write has not been sent: gch × 512 + line (R153). -/
  touchDue : List Nat := []
  sharers : List (Nat × Nat) := []
  deriving DecidableEq, Repr

/-! ### Requests and ports (chapter 4) -/

/-- Where a part of a request stands on its way (01 "How a request travels"). -/
inductive Stage where
  /-- At the port front end or its regulator. -/
  | hub
  /-- In a root lane's queue. -/
  | root
  /-- Past the root: on the link, in a quadrant or channel arbiter. -/
  | tree
  /-- In the channel's queues. -/
  | queue
  /-- Past its visibility point, or its data read. -/
  | done
  deriving DecidableEq, Repr

/-- One part of a request (R96): granule position, bytes, result. -/
structure Part where
  n         : Nat
  gch       : Nat
  frame     : Nat
  e         : Nat
  off       : Nat
  len       : Nat
  /-- Slot that serves, as stack × 66 + pch. -/
  slot      : Nat := 0
  stage     : Stage := .hub
  data      : Bytes := []
  /-- Sectors still to return. -/
  left      : Nat := 0
  poison    : Nat := 0
  corrected : Bool := false
  /-- A read forwarded touch-unknown: its touch line has not come yet (R73). -/
  unknown   : Bool := false
  gen       : Nat := 0
  /-- Entry of the further slot that this part of a write goes to, while its segment moves (R79). -/
  copy      : Option Entry := none
  sent      : Bool := false
  deriving DecidableEq, Repr

/-- What a request does at its channels. -/
inductive Op where
  | read | write | zero | poison | atomic | atomicFetch | fence | fullFence | declare
  | outing | fill | release | combined | combinedFetch | flush
  deriving DecidableEq, Repr

/-- A Basket line (R305 to R308). -/
structure Line where
  addr     : Nat
  atomic   : Option (Nat × Nat) := none
  opened   : Nat
  window   : Nat
  cap      : Nat
  /-- Store mode: bytes and valid mask. Atomic mode: held operands, one per element touched. -/
  data     : Bytes := List.replicate 64 0
  mask     : Nat := 0
  held     : List (Nat × FVal × Nat) := []
  reqs     : List Nat := []
  represented : Nat := 0
  group    : Nat := 0
  deriving DecidableEq, Repr

/-- A request held by the tag tracker (R97), or one of ENG or of Basket. Ports 0 to 3 CP, 4 FP, 5 ENG. -/
structure Req where
  id       : Nat
  port     : Nat
  op       : Op
  r        : Request
  bytes    : Nat := 0
  entry    : Nat := 0
  cls      : Nat := 0
  charge   : Nat := 0
  seg      : Nat := 0
  cur      : Entry := {}
  parts    : List Part := []
  /-- Held before regulation: behind a full fence, behind earlier writes (Outing start). -/
  held     : Bool := false
  released : Bool := false
  queuedAt : Option Nat := none
  /-- Hub time its response left, or the final status once known. -/
  status   : Option Nat := none
  /-- Members of its locked sequence: request identifiers in port order. -/
  locked   : List Nat := []
  /-- Home of an outing's work or of the descriptor that issued it: quadrant, outing slot. -/
  owner    : Option (Nat × Nat) := none
  /-- Requests that Basket merged into this flush, with their byte ranges. -/
  merged   : List (Nat × Nat × Nat) := []
  basket   : Bool := false
  /-- The line a Basket flush carries (R308). -/
  line     : Option Line := none
  /-- XOR entries and invalidations its response still waits for. -/
  debts    : Nat := 0
  collective : Bool := false
  /-- Flits of the request whose credits its release returns (R188). -/
  flits    : List Nat := []
  discard  : Bool := false
  /-- The invalidation that must leave before a visible write of ENG completes (R315). -/
  behind   : Option Nat := none
  deriving DecidableEq, Repr

/-- A response waiting for credit (R99): header fields and data. -/
structure Resp where
  kind   : Nat
  tag    : Nat
  status : Nat := 0
  part   : Nat := 0
  final  : Bool := true
  corrected : Bool := false
  far    : Bool := false
  poison : Nat := 0
  data   : Bytes := []
  /-- Request it answers, and the requests of which it is the last response. -/
  req    : Option Nat := none
  opcode : Nat := 0
  sectors : Nat := 0
  /-- Number of the invalidation it carries (notice 0x8040), and of the one that must leave before it (R315, R318). -/
  mark   : Option Nat := none
  behind : Option Nat := none
  /-- Place in its port's order and buffer group of a request that was rejected (R105). -/
  order  : Option (Nat × Nat) := none
  deriving DecidableEq, Repr

/-- A locked sequence being assembled (R109 to R113): members with the status each already has. -/
structure Assembly where
  since   : Nat
  members : List (Nat × Option Nat) := []
  failed  : Bool := false
  /-- Header of its first member, whatever became of it. -/
  first   : Option Request := none
  deriving DecidableEq, Repr

/-- A sweep marker of a path (R106): quadrant, old generation, whether it has arrived, and the writes of the generation that
were not acknowledged at the reroute, as request and buffer group (R108). -/
structure Sweep where
  quad    : Nat
  gen     : Nat
  arrived : Bool := false
  writes  : List (Nat × Nat) := []
  deriving DecidableEq, Repr

/-- A port CP0 to CP3 or FP: link layer, tags, responses, notices, quiet. -/
structure Port where
  /-- Dictionary requests that wait for an earlier one of the port: opcode, request, and what the command says of the reset
  that a write starts (R122). -/
  dict     : List (Nat × Request × Bool) := []
  /-- Idle flits that left last, with their bundles, and failed replays of the sequence expected (R87, R89). -/
  idle     : List (Nat × Bytes) := []
  fails    : Nat := 0
  up       : Bool := false
  trained  : Bool := false
  retrain  : Bool := false
  failures : Nat := 0
  quiet    : Bool := false
  /-- Chatter hold: most level changes seen in 1 µs, and the level last sampled. -/
  chatter  : Option Nat := none
  /-- A reset of the port runs; held by value 2 (R441). -/
  inReset  : Bool := false
  hold     : Bool := false
  cause    : Nat := 0
  expect   : Nat := 0
  sendSeq  : Nat := 0
  acked    : Nat := 0
  discarding : Bool := false
  /-- Credits the client holds per bundle: request channel and management channel; credits owed back. -/
  reqCr    : List Nat := List.replicate 16 0
  mgmtCr   : List Nat := List.replicate 16 0
  oweA     : List Nat := List.replicate 16 0
  oweB     : List Nat := List.replicate 16 0
  /-- Response credits per bundle the client advertised when the link trained. -/
  advertised : Nat := 0
  /-- Response credits the complex holds per bundle. -/
  respCr   : List Nat := List.replicate 16 0
  /-- Sent flits not yet acknowledged, by sequence and bundle, with times replayed; sequences due to go again as credits allow,
  and the bundle that carried the flit sent last (R87, R89). -/
  window   : List (Nat × Nat × Bytes × Nat) := []
  again    : List Nat := []
  lastBundle : Nat := 15
  /-- Header slot headers whose data has not arrived, as opcode and request; slots of data still due. -/
  pend     : List (Nat × Request × Nat × List Nat) := []
  wantReplay : Bool := false
  /-- Flits received ahead of the expected sequence: sequence, bundle, flit. -/
  early    : List (Nat × Nat × Bytes) := []
  /-- Requests delivered by the link and not yet taken, with their opcode. -/
  inbox    : List (Nat × Request × List Nat) := []
  /-- Accepted flits whose credit is not yet returned: number, bundle, management channel, requests still held (R188). -/
  flits    : List (Nat × Nat × Bool × Nat) := []
  nextFlit : Nat := 0
  tags     : List Nat := []
  resps    : List Resp := []
  assembly : Option Assembly := none
  notices  : List Notice := []
  noticeSeq : Nat := 0
  dropped  : Nat := 0
  unsaid   : Nat := 0
  lastErr  : Bytes := List.replicate 32 0
  collective : Nat := 0
  role     : Nat := 2
  challenge : Option (Bytes × Nat) := none
  /-- Path generations per quadrant, and sweeps unacknowledged, the oldest first. -/
  gens     : List Nat := [0, 0, 0, 0]
  sweeps   : List Sweep := []
  deriving DecidableEq, Repr

/-! ### Channels (chapters 5 and 8) -/

/-- What a sector entry of a channel queue does. -/
inductive Act where
  | read
  /-- The read half of an atomic (R289). -/
  | fetch
  /-- The read of a touch line for a touch-unknown read (R73). -/
  | touch
  | write
  /-- Applied as the stored value XOR the entry (R235). -/
  | xor
  deriving DecidableEq, Repr

/-- One sector entry of a read or write queue (R145), by bank, row and logical slot. -/
structure Sect where
  act      : Act
  bank     : Nat
  row      : Nat
  slot     : Nat
  seq      : Nat := 0
  data     : Bytes := List.replicate 32 0
  /-- Byte mask of data. -/
  mask     : Nat := 2 ^ 32 - 1
  /-- The poison bit a whole-sector write stores, or that an XOR entry flips. -/
  poison   : Bool := false
  guard    : Nat := 0
  writer   : Nat := 6
  epoch    : Nat := 0
  strength : Nat := 0
  cls      : Nat := 0
  req      : Option (Nat × Nat) := none
  /-- The stored value once read, corrected where it failed. -/
  old      : Option (Bytes × Nat) := none
  /-- The column command of its read has issued. -/
  asked    : Bool := false
  deriving DecidableEq, Repr

/-- A column command and why it is issued. -/
inductive Col where
  /-- Read of a slot for a queued entry, by arrival sequence. -/
  | rd (slot : Nat) (seq : Nat)
  /-- Read of a slot by a unit. -/
  | fetch (slot : Nat)
  /-- Write of a slot by a unit. -/
  | wr (slot : Nat)
  deriving DecidableEq, Repr

/-- Units that own their bank while their commands issue. -/
inductive UnitKind where
  /-- Row initialisation (R153). -/
  | init
  /-- Row escalation (R224). -/
  | escalation
  /-- A write without an accumulator: parity read, sector and parity written (R232), also on the narrow path (R154). -/
  | fallback
  /-- Load of a parity accumulator (R231). -/
  | load
  /-- A locked sequence (R151). -/
  | locked
  /-- A full-row unit of a drain (R234). -/
  | fullRow
  /-- Parity slots written from an accumulator before its row closes (R153). -/
  | flush
  /-- A raise of the row's strength (R221). -/
  | raise
  /-- The writes of a row that a rebuild, a map-out or a repair wrote as a full-row unit (R234). -/
  | written
  /-- The read of a stripe's member for a reconstruction (R175, R246). -/
  | member
  /-- A row unit of a scrub pass, and one of a channel-sparing copy, at input 3 (R175, R251, R344). -/
  | scrub
  | copy
  deriving DecidableEq, Repr

/-- A unit of a channel controller. -/
structure ChanUnit where
  kind    : UnitKind
  bank    : Nat
  row     : Nat
  cmds    : List Col := []
  /-- Its first command has issued. -/
  begun   : Bool := false
  /-- Its writes have begun. -/
  stored  : Bool := false
  /-- It is on the narrow path: its last command precharges the bank (R154). -/
  narrow  : Bool := false
  /-- Slots read so far, and reads issued. -/
  got     : List (Nat × Slot) := []
  asked   : Nat := 0
  /-- Entries it serves, by arrival sequence. -/
  waiting : List Nat := []
  /-- Class of R149, service class and sequence it ranks with. -/
  rank    : Nat := 6
  svc     : Nat := 0
  seq     : Nat := 0
  /-- Carrier of the locked sequence. -/
  req     : Option Nat := none
  deriving DecidableEq, Repr

/-- A bank (R137, R156, R160 to R163): times are slot numbers of the stack-timing counter. -/
structure Bank where
  open_   : Option Nat := none
  actAt   : Option Nat := none
  /-- No command to the bank before this slot. -/
  readyAt : Nat := 0
  /-- Earliest slot of PRE. -/
  preAt   : Nat := 0
  lastCol : Nat := 0
  hits    : Nat := 0
  owed    : Int := 0
  /-- Slot of the last accrual of R156, and quadrant time of the last token of R162. -/
  refAt   : Nat := 0
  tokAt   : Nat := 0
  /-- The open row is due for closing (R152, idle close). -/
  due     : Bool := false
  tracker : List (Nat × Nat) := []
  tokens  : Nat := 12144
  /-- Rows whose NRF is pending, with the port code and domain of the request whose ACT called for it (R160, R163). -/
  nrfDue  : List (Nat × Nat × Nat) := []
  nrfs    : List (Nat × Nat) := []
  /-- Offender rows with the quadrant time of their last ACT; the whole bank spaced (R163). -/
  spaced  : Bool := false
  lastAct : Nat := 0
  deriving DecidableEq, Repr

/-- A parity accumulator (R231): the parity bytes of one open row. -/
structure Accum where
  bank     : Nat
  row      : Nat
  strength : Nat
  parity   : Bytes
  loaded   : Bool := false
  dirty    : Bool := false
  deriving DecidableEq, Repr

/-- A burst read and not yet returned: slot read, what it was stored as, the command behind it. -/
structure Burst where
  bank : Nat
  row  : Nat
  slot : Nat
  raw  : Slot
  why  : Col
  /-- Slot by which its last beat is at the PHY. -/
  back : Nat
  deriving DecidableEq, Repr

/-- A word sent to a stack (R134): half-slot, row or column half, word, write data, and the rows it closed, by bank. -/
structure Sent where
  half   : Nat
  column : Bool
  word   : Nat
  data   : Bytes := []
  closed : List (Nat × Nat) := []
  deriving DecidableEq, Repr

/-- A channel controller of one slot. -/
structure Chan where
  reads    : List Sect := []
  writes   : List Sect := []
  next     : Nat := 0
  draining : Bool := false
  /-- Slot number of the stack-timing counter and the half-slot that comes next: true is the column half. -/
  slot     : Nat := 0
  column   : Bool := false
  banks    : List (Nat × Bank) := []
  /-- Recent activations: slot, weight, layer. -/
  acts     : List (Nat × Nat × Nat) := []
  lastCol  : Option Nat := none
  lastRd   : Option Nat := none
  lastWr   : Option Nat := none
  quietTo  : Nat := 0
  /-- Settings words due to be written (SWW). -/
  sww      : List (Nat × Nat) := []
  /-- Slot from which refreshes of its banks count. -/
  refBase  : Nat := 0
  units    : List ChanUnit := []
  accums   : List Accum := []
  bursts   : List Burst := []
  selfRefresh : Bool := false
  inRest   : Bool := false
  /-- A pattern test of the slot has ended: its rest stop is taken at the next token (R484). -/
  owesRest : Bool := false
  /-- Rest-stop interval in µs (R164), quadrant time of the last one, high drifts in a row. -/
  interval : Nat := 16000
  lastRest : Nat := 0
  highRun  : Nat := 0
  /-- Words and data of the last 512 half-slots (R134). -/
  replay   : List Sent := []
  /-- The stack's side of the slot: half-slot at which SW30 was last cleared, and SW31 [15:8] while SW31 [0] is set. -/
  cleared  : Nat := 0
  caError  : Option Nat := none
  /-- Quadrant times of replays and of missing bursts in the last second. -/
  replays  : List Nat := []
  caNotice : Option Nat := none
  misses   : List Nat := []
  /-- Attributed bit errors per lane: lane and quadrant time. -/
  laneErrs : List (Nat × Nat) := []
  dueLanes : List (Nat × Nat) := []
  sectors  : List (Nat × Nat × Nat × Nat) := []
  corrected : Nat := 0
  uncorrAt : List (Nat × Nat × Nat) := []
  offenders : List (Nat × Nat × Nat) := []
  wearHour : Nat := 0
  /-- What repair commands ask for the slot: 2 channel sparing, 3 map-out, 5 both (R343, R345). -/
  wanted   : Nat := 0
  /-- Notice 0x5012 has been sent. -/
  exhausted : Bool := false
  deriving DecidableEq, Repr

/-- A stack: settings words, temperature, token, throttle (R140 to R168). -/
structure Stack where
  /-- SW00 to SW05 as read, or none. -/
  words    : List Nat := []
  qualified : Bool := false
  /-- rst_n released. -/
  running  : Bool := false
  /-- Channel-scope words, keyed by slot × 32 + word. -/
  sw       : List (Nat × Nat) := []
  /-- Physical slot of each logical channel (R326); 255 when mapped out. -/
  table    : List Nat := List.range 64
  /-- Spare slots that are neither used nor retired. -/
  spares   : List Nat := [64, 65]
  step     : Nat := 1
  hot      : Bool := false
  /-- Length in ms of the row-hammer epoch in force (R160). -/
  epoch    : Nat := 32
  temp     : Int := 0
  failed   : Nat := 0
  cool     : Nat := 0
  caReplays : Nat := 0
  token    : Option Nat := none
  asks     : List Nat := []
  lastSlot : Nat := 65
  /-- Rest stops performed (object 0x3050:02). -/
  rests    : Nat := 0
  /-- Quadrant time from which rest-stop intervals of its slots count. -/
  base     : Nat := 0
  /-- Millisecond of quadrant time of the last scheduled readout (R143). -/
  readMs   : Nat := 0
  /-- The last request frame the complex sent on the sideband, bit by bit (R142). -/
  sideband : List Bool := []
  deferFrom : Nat := 0
  /-- Spare rows and columns free where they differ from 48 and 2: (slot × 64 + bank, rows, columns). -/
  rows     : List (Nat × Nat × Nat) := []
  /-- Wear: peak, ms above 85 °C and 95 °C, corrected, uncorrectable, CA replays (Table 11.11). -/
  peak     : Int := 0
  ms85     : Nat := 0
  ms95     : Nat := 0
  wearCorr : Nat := 0
  wearUncorr : Nat := 0
  wearCa   : Nat := 0
  badLanes : List (Nat × Nat) := []
  deriving DecidableEq, Repr

/-- A channel-sparing copy (R344), a rebuild (R246), or a map-out (R345) of a logical channel. -/
structure Rehome where
  kind    : Nat
  gch     : Nat
  source  : Nat
  dest    : Option Nat
  cursor  : Nat := 0
  /-- Rows rebuilt ahead of the cursor, because a request needed them (R246). -/
  ahead   : List Nat := []
  cause   : Nat := 0
  rebuilt : Nat := 0
  poisoned : Nat := 0
  frames  : Nat := 0
  /-- Sectors that the rebuild took from their stripes: row and logical sector (R335). -/
  made    : List (Nat × Nat) := []
  /-- Request of the frame of a map-out that is under copy. -/
  busy    : Option Nat := none
  /-- Runs of frames (first, count) that a map-out had copied when the channel was lost. -/
  kept    : List (Nat × Nat) := []
  deriving DecidableEq, Repr

/-! ### Arbiters (chapter 6) -/

/-- An internal operation on a row or slot at input 1 or 3 of a channel arbiter (Table 6.3), which the controller runs once it is
granted: an escalation, the read of a stripe's member, a scrub row unit with its pass as the slot, or a copy unit. -/
structure Job where
  kind    : UnitKind
  bank    : Nat
  row     : Nat
  slot    : Nat := 0
  /-- Entries that wait for an escalation. -/
  waiting : List Nat := []
  /-- Quadrant time and arrival sequence of its request (R344). -/
  since   : Nat := 0
  seq     : Nat := 0
  deriving DecidableEq, Repr

/-- A unit of work in the tree (Table 6.1). Level 0 root, 1 quadrant, 2 channel, 3 granted at its channel. -/
structure TUnit where
  id     : Nat
  level  : Nat
  arb    : Nat
  input  : Nat
  /-- Parts carried: request and part number. -/
  parts  : List (Nat × Nat)
  /-- Sector entries of internal work (inputs 1 to 5). -/
  sects  : List Sect := []
  job    : Option Job := none
  /-- Entry of the further slot that the entries of an atomic or a locked sequence go to, while its segment moves (R79). -/
  mirror : Option Entry := none
  slot   : Nat := 0
  gch    : Nat := 0
  score  : Nat := 0
  seq    : Nat := 0
  locked : Bool := false
  write  : Bool := false
  gen    : Nat := 0
  port   : Nat := 5
  /-- Path quadrant, and entry input at the quadrant arbiter. -/
  quad   : Nat := 0
  entry  : Nat := 0
  deriving DecidableEq, Repr

/-- An arbiter's own state: next arrival sequence and ticket holder. -/
structure Arbiter where
  next   : Nat := 0
  ticket : Option Nat := none
  deriving DecidableEq, Repr

/-- The arbiter tree: arbiters keyed 0 to 63 root, 64 to 95 quadrant, 96 on channel. -/
structure Tree where
  units  : List TUnit := []
  arbs   : List (Nat × Arbiter) := []
  nextId : Nat := 0
  high   : List Nat := List.replicate 12 0
  masked : List Nat := []
  deriving DecidableEq, Repr

/-! ### Regulation (chapter 7) -/

/-- A regulation entry (R188 to R194, R204, R209, R210). -/
structure RegEntry where
  queue    : List Nat := []
  br       : Rat := 0
  bt       : Rat := 0
  /-- Start of the window that the balances belong to. -/
  win      : Nat := 0
  /-- The head passed its entry's conditions and waits for a Basket line or a sequencer. -/
  stuck    : Bool := false
  /-- Hub time at which the head was last examined (R191). -/
  seen     : Nat := 0
  v        : Rat := 0
  rsv      : Nat := 0
  eff      : Nat := 0
  cap      : Nat := 0
  burst    : Nat := 0
  scope    : Nat := 0x0F
  priority : Nat := 0
  credit   : Bool := false
  limit    : Nat := 0
  excess   : Nat := 0
  worst    : Nat := 0
  winWorst : Nat := 0
  winExcess : Nat := 0
  depth    : Nat := 0
  depthMax : Nat := 0
  delay    : Nat := 0
  delayMax : Nat := 0
  /-- Largest delay, sum and number of the running sampling period. -/
  delayPeak : Nat := 0
  delaySum : Nat := 0
  delayN   : Nat := 0
  deriving DecidableEq, Repr

/-- A gate list (Table 7.3): guard band and entries of duration and open mask. -/
structure GateList where
  guard   : Nat := 0
  entries : List (Nat × Nat) := []
  raw     : Bytes := List.replicate 8 0
  deriving DecidableEq, Repr

/-- An urgency pair of a compute port (R195 to R197). -/
structure Urgency where
  level   : Nat := 0
  since   : Nat := 0
  demoted : Bool := false
  chatter : Bool := false
  worst   : Nat := 0
  deriving DecidableEq, Repr

/-- A written reservation set awaiting its instant (R205). -/
structure ReservationSet where
  w       : Nat
  at_     : Nat
  records : List (Nat × RegEntry)
  deriving DecidableEq, Repr

/-- The regulators. -/
structure Regs where
  w        : Nat := 1000
  /-- Last window boundary handled, and the start of the windows of the present W. -/
  window   : Nat := 0
  entries  : List RegEntry := List.replicate 48 {}
  pending  : Option ReservationSet := none
  result   : Nat := 0
  /-- Effective reservations computed and waiting for the next boundary, with the cause. -/
  rescaled : Option (Nat × List Nat) := none
  urgency  : List Urgency := List.replicate 32 {}
  fpUrg    : List Nat := List.replicate 8 1
  engUrg   : List Nat := [1, 1, 1, 1, 0, 1]
  gates    : List GateList := List.replicate 5 {}
  gateNext : List (Option (GateList × Nat)) := List.replicate 5 none
  period   : Nat := 10000
  sampled  : Nat := 0
  latWin   : List Nat := List.replicate 48 0
  deriving DecidableEq, Repr

/-! ### Protection (chapter 8) -/

/-- A scrub pass (R249 to R253), its summary counts and what each channel has done. -/
structure Pass where
  options : Nat
  scope   : Nat
  value   : Nat
  duration : Nat
  rep     : Nat
  running : Bool := true
  start   : Nat := 0
  epoch   : Nat := 0
  /-- Channels of the scope with the cursor (bank × 4,096 + row) and the quadrant time of the last unit. -/
  todo    : List (Nat × Nat × Option Nat) := []
  done    : Nat := 0
  size    : Nat := 0
  ended   : Bool := false
  outcome : Nat := 0
  /-- Rows fetched, untouched, corrected, symbols, uncorrectable, rewritten, reconstructed, poisoned, retired,
  mismatches, census, skipped channels, covered channels. -/
  counts  : List Nat := List.replicate 13 0
  worst   : Nat × Nat × Nat × Nat := (0, 0, 0, 0)
  deriving DecidableEq, Repr

/-- The codec's hub-side state. -/
structure Codec where
  passes    : List (Nat × Pass) := []
  result    : Nat := 0
  summaries : List Bytes := []
  lost      : List Nat := []
  short     : List (Nat × Nat × Nat) := []
  deriving DecidableEq, Repr

/-! ### Engines (chapter 9) -/

/-- What an engine read gives: bytes, the sectors (local address / 32) that were poisoned or lost, its error. -/
structure EngRead where
  bytes   : Bytes := []
  bad     : List Nat := []
  err     : Nat := 0
  deriving DecidableEq, Repr

/-- A read that a sequencer has issued and still holds: the descriptor's chain index, what it is for, its range, the request
that carries it, and what came. -/
structure Fetch where
  idx  : Nat
  key  : Nat
  addr : Nat
  len  : Nat
  req  : Nat
  got  : Option EngRead := none
  deriving DecidableEq, Repr

/-- A write that a descriptor has still to issue: regulation entry, address, first stream byte, data, poison, and the format
tag its segment must carry. -/
structure Due where
  entry  : Nat
  addr   : Nat
  stream : Nat
  data   : Bytes
  poison : Bool := false
  fmt    : Option Nat := none
  deriving DecidableEq, Repr

/-- A bag in flight (R275): its indices with their weights once read, whether its partials are made, quadrants' counts and fp32
partials, poison. -/
structure Bag where
  index    : Nat
  ix       : Option (List (Nat × Option FVal)) := none
  ready    : Bool := false
  partials : List (Nat × Nat × List FVal) := []
  count    : Nat := 0
  poisoned : Bool := false
  deriving DecidableEq, Repr

/-- A token of a walk that is read ahead: its number, source row, and its output bytes once converted, with their poison. -/
structure Token where
  number : Nat
  src    : Nat
  len    : Nat
  out    : Option (Bytes × Bool) := none
  deriving DecidableEq, Repr

/-- A Rambler walk (R278 to R282): page list entry and token taken next, tokens taken, stream bytes issued, last P written, last C
read. -/
structure Walk where
  entry    : Nat := 0
  token    : Nat := 0
  taken    : Nat := 0
  stream   : Nat := 0
  produced : Nat := 0
  consumed : Nat := 0
  /-- Quadrant time of the last read of C, whether one is on its way, and whether the walk waits for C. -/
  polledAt : Nat := 0
  polling  : Bool := false
  blocked  : Bool := false
  begun    : Bool := false
  /-- Nothing is left to write but P. -/
  finished : Bool := false
  /-- Tokens read ahead of the ring, in order. -/
  ahead    : List Token := []
  /-- Bytes of the token at the ring that are not issued yet, and whether they go poisoned. -/
  rest     : Bytes := []
  poison   : Bool := false
  /-- No further token is taken: the error that stopped the walk. -/
  stop     : Nat := 0
  deriving DecidableEq, Repr

/-- A descriptor active in an outing: chain index, bytes, the limits in force at its start, where its operation stands. -/
structure Active where
  index    : Nat
  bytes    : Bytes
  /-- Objects 0x4810 and 0x4811 at its start, ms (R293, R296). -/
  timeout  : Nat := 10
  ringWait : Nat := 100
  /-- Quadrant time of the last engine request completed. -/
  progress : Nat := 0
  /-- Format tag of its source operand, once taken (R269). -/
  fmt      : Option Nat := none
  bags     : List Bag := []
  nextBag  : Nat := 0
  walk     : Option Walk := none
  row      : Nat := 0
  /-- Rows of a Transcode copy that are read and not yet converted. -/
  rows     : List Nat := []
  /-- Writes still to issue, and writes not yet visible: request and first stream byte. -/
  due      : List Due := []
  writes   : List (Nat × Nat) := []
  error    : Nat := 0
  ended    : Bool := false
  /-- xorshift generators of the four quadrants and the hub merge unit (R272). -/
  rng      : List Nat := [0, 0, 0, 0, 0]
  deriving DecidableEq, Repr

/-- An outing held by a sequencer (R258 to R265). -/
structure Outing where
  req      : Nat
  port     : Nat
  tag      : Nat
  domain   : Nat
  collective : Bool := false
  /-- Descriptors of the present block, the next one to start, operative descriptors started, Continues followed. -/
  block    : List Bytes := []
  pc       : Nat := 0
  started  : Nat := 0
  continues : Nat := 0
  active   : List Active := []
  chainEnd : Bool := false
  stopped  : Bool := false
  outcome  : Nat := 0
  firstErr : Nat := 0
  firstIdx : Nat := 0xFFFFFFFF
  ended    : Nat := 0
  poisoned : Nat := 0
  mismatch : Nat := 0
  failed   : Nat := 0
  read     : Nat := 0
  written  : Nat := 0
  corrected : Bool := false
  silent   : Bool := false
  fetches  : List Fetch := []
  deriving DecidableEq, Repr

/-- The sequencers of Q0 to Q3 and the totals of Table 9.16. -/
structure Engines where
  /-- Outings by quadrant and slot 0 to 255. -/
  outings  : List ((Nat × Nat) × Outing) := []
  totals   : List Nat := [0, 0, 0]
  lastFail : Bytes := List.replicate 64 0
  deriving DecidableEq, Repr

/-! ### Fabric (chapter 10) -/

/-- Basket and the misdirection and full notices' clocks. -/
structure Fabric where
  lines      : List Line := []
  /-- Requests merged, flushes, forced flushes, represented, invalidations sent. -/
  totals     : List Nat := [0, 0, 0, 0, 0]
  misdirected : Nat := 0
  misdirAt   : Option Nat := none
  fullAt     : Option Nat := none
  /-- Cause of the sharers reset notice FP sends first when its link is up again. -/
  resetCause : Option Nat := none
  /-- Number of the whole-segment invalidation that the segment command being executed has sent (R318). -/
  commandMark : Option Nat := none
  deriving DecidableEq, Repr

/-! ### Links, quadrants, start-up (chapter 14) -/

/-- A link group (R443 to R447): bundles live, in retrain and dropped, spare lanes used, due lanes, last retrains. -/
structure LinkGroup where
  live    : Nat := 0
  retrain : Nat := 0
  /-- Bundles that exist in the group. -/
  size    : Nat := 16
  /-- Spare lanes used, for each bundle and direction: entry 2 × bundle + direction. -/
  spares  : List Nat := List.replicate 32 0
  due     : List Nat := []
  /-- The lane end that makes a bundle due: bundle, far die, direction, lane (R334, R443). -/
  dueEnds : List (Nat × Bool × Nat × Nat) := []
  /-- Bundles due because a sequence failed 8 times, for the repeated failure of R444. -/
  failing : List Nat := []
  lastRetrain : List (Nat × Nat) := []
  /-- Bad lane ends: spare lanes in use over both directions. -/
  inUse   : Nat := 0
  dropped : Nat := 0
  deriving DecidableEq, Repr

/-- State of a quadrant (object 0x7010). -/
inductive QState where
  | starting | normal | held | slate | offline
  deriving DecidableEq, Repr

/-- A quadrant. -/
structure Quad where
  st       : QState := .starting
  hold     : Bool := false
  slate    : Nat := 0
  offCause : Nat := 0
  /-- Hub time a reset began and its cause; reset waiting at step 6. -/
  resetAt  : Option Nat := none
  atStep6  : Bool := false
  resetDone : Option Nat := none
  stateCheck : Bool := false
  /-- Holdover since the loss of its reference (R450). -/
  lostAt   : Option Nat := none
  /-- Causes of reroutes that wait for a sweep acknowledgement (R107). -/
  reroutes : List Nat := []
  /-- Written object values as they stood when it was held for reset or entered Slate mode: those it applies until it
  returns to service (R422). -/
  applied  : Option (List (Nat × Nat)) := none
  /-- Row-hammer epoch boundaries handled, in units of 16 ms (R160). -/
  epochs   : Nat := 0
  /-- NRFs issued since release (object 0x3040:03). -/
  nrfs     : Nat := 0
  /-- Offender notices: second of quadrant time, notices sent in it, offenders since release (R163). -/
  offenders : Nat × Nat × Nat := (0, 0, 0)
  deriving DecidableEq, Repr

/-- Complex-wide start-up and recovery state. -/
structure Startup where
  state    : Nat := 0
  times    : List Nat := [0, 0, 0, 0]
  result   : Bytes := List.replicate 28 0
  /-- Faults recovered, longest recovery. -/
  faults   : Nat := 0
  longest  : Nat := 0
  /-- What the held start still has to do: environment read at release, and the value of 0x7050 that held it. -/
  env      : Option StartEnv := none
  held     : Nat := 0
  /-- Counts of Table 14.8 so far: stack lanes spared, die-to-die lanes spared, units retired, channels moved, channels
  mapped out, bundles dropped. -/
  tally    : List Nat := [0, 0, 0, 0, 0, 0]
  disagreements : List (Nat × Nat × Bool × Bool) := List.replicate 5 (0, 0, false, false)
  retired  : List Unit11 := []
  repairs  : List Repair := []
  /-- Object 0x5031:00. -/
  repairResult : Nat := 0
  /-- Hard repair in progress at this start. -/
  hard     : List Repair := []
  detours  : Nat := 0
  deriving DecidableEq, Repr

/-! ### Power (chapter 12) -/

/-- A stack's power and heat: means of the last ten periods, newest first; the counts and quadrant time of its last report;
the thermal model; levels; the Flask allowance (R360 to R381). -/
structure Heat where
  power    : List Rat := []
  cmd      : List Rat := []
  /-- Counts and division step of the latest report. -/
  counts   : List Nat := [0, 0, 0, 0, 0]
  step     : Nat := 1
  period   : Nat := 0
  est      : Rat := 0
  amb      : Rat := 0
  thermal  : Nat := 0
  junctionMin : Nat := 0
  /-- Level at which the stack runs. -/
  running  : Nat := 0
  lastLower : Option Nat := none
  /-- Hub time since which the value lies low enough for a lower thermal level. -/
  lowSince : Option Nat := none
  bigErr   : Nat := 0
  smallErr : Nat := 0
  diverged : Bool := false
  /-- Grant time of a running Flask allowance; taken, and refusal said, this thermal episode. -/
  flask    : Option Nat := none
  taken    : Bool := false
  refused  : Bool := false
  /-- Steps in a row at which cause 5 of R382 held. -/
  cause5   : Nat := 0
  deriving DecidableEq, Repr

/-- Governor, meters, junctions and shutdown. -/
structure Power where
  heat     : List Heat := List.replicate 32 {}
  /-- Last ten periods of each die's power and of its PHY supply, W, newest first; time of its last report. -/
  die      : List (List Rat) := [[], [], [], [], []]
  phy      : List (List Rat) := [[], [], [], [], []]
  dieAt    : List Nat := [0, 0, 0, 0, 0]
  /-- Mean currents of vdd_core, vdd_phy and vdd_pll in each die's latest report, mA. -/
  currents : List (List Nat) := List.replicate 5 [0, 0, 0]
  phyReady : List Rat := [0, 0, 0, 0, 0]
  /-- mJ. -/
  energy   : Rat := 0
  level    : Nat := 0
  changed  : Nat := 0
  limitAt  : Option Nat := none
  /-- Envelope and thresholds in force: W, °C. -/
  envelope : Nat := 0
  thresholds : Nat × Nat := (95, 105)
  stepAt   : Nat := 0
  junction : List Int := [0, 0, 0, 0, 0]
  junctionAt : Nat := 0
  hot      : List Bool := [false, false, false, false, false]
  belowSince : List (Option Nat) := [none, none, none, none, none]
  flaskTotals : List Nat := [0, 0, 0]
  /-- Collective requests served in the last 1 ms: port, hub time, bytes, stack positions. -/
  served   : List (Nat × Nat × Nat × List Nat) := []
  /-- Object 0x6033, when every stack became cool enough to resume, when the resume was written. -/
  shutdown : Nat := 0
  coolSince : Option Nat := none
  resumeAt : Nat := 0
  deriving DecidableEq, Repr

/-! ### Service link (chapter 13) -/

/-- A service session 1 to 8 (R408). -/
structure Session where
  mac       : Nat
  role      : Nat := 1
  wanted    : Nat := 1
  challenge : Option (Bytes × Nat) := none
  lastFrame : Nat := 0
  deriving DecidableEq, Repr

/-- A transfer (R404 to R406). -/
structure Transfer where
  session : Nat
  write   : Bool
  index   : Nat
  sub     : Nat
  length  : Nat
  data    : Bytes := []
  last    : Option Nat := none
  touched : Nat := 0
  deriving DecidableEq, Repr

/-- A response kept for a source address (R401); no bytes while the request still runs. -/
structure Answer where
  mac     : Nat
  session : Nat
  txn     : Nat
  mtype   : Nat
  status  : Nat
  payload : Bytes := []
  running : Bool := false
  /-- Hub time of its request, while it runs. -/
  since   : Nat := 0
  /-- The invalidation that must leave the hub before it does (R318). -/
  behind  : Option Nat := none
  deriving DecidableEq, Repr

/-- Per-requester windows and results (R84, R169, R187, R240, R322, R358). -/
structure Windows where
  seg     : Nat := 0
  result  : Nat := 0
  chan    : Nat := 0
  arb     : Nat := 0
  blocks  : Nat := 0
  sharer  : Nat := 0
  slot    : Nat := 0
  journal : Nat := 0
  deriving DecidableEq, Repr

/-- The service port. -/
structure Service where
  mac      : Nat := 0
  plcaOk   : Bool := false
  counts   : List Nat := List.replicate 6 0
  sessions : List (Nat × Session) := []
  transfers : List (Nat × Transfer) := []
  inbox    : List Frame := []
  kept     : List Answer := []
  /-- Responses waiting for a transmit opportunity. -/
  out      : List Answer := []
  lastNotice : Bool := false
  failures : Nat := 0
  /-- Failed unlocks by source with their hub time, and lockouts by source with their end. -/
  fails    : List (Bytes × Nat) := []
  lockouts : List (Bytes × Nat) := []
  subs     : List Subscriber := List.replicate 8 {}
  /-- Notice frames sent: the transaction of the next one. The frame sent last: destination and Ethernet payload. -/
  frames   : Nat := 0
  wire     : Nat × Bytes := (0, [])
  deriving DecidableEq, Repr

/-! ### Images and test (chapters 15 and 16) -/

/-- The values an image in force supplies (Table 15.3). -/
structure Image where
  source    : Nat := 0
  version   : Nat := 0
  security  : Nat := 0
  format    : Nat := 0
  digest    : Bytes := List.replicate 48 0
  defaults  : List (Nat × Nat) := []
  powerSet  : Nat := 0
  power     : List (Nat × List Rat) := []
  thermal   : List (List Rat) := []
  qualified : List (Nat × Nat) := []
  hasQualified : Bool := false
  phy       : List (Nat × List Nat) := []
  rate      : Option Nat := none
  skipped   : Nat := 0
  attempts  : List Nat := [0xFF, 0xFF, 0xFF]
  result    : Nat := 0
  copy      : Nat := 0
  retried   : Bool := false
  /-- Staging writes that wait for the copy to end (R464). -/
  waiting   : List (Src × Bytes) := []
  deriving DecidableEq, Repr

/-- A running pattern test (Table 16.3). -/
structure Test where
  cmd     : Bytes
  target  : Target
  start   : Nat
  margin  : Bool := false
  syncs   : List (Nat × Nat) := []
  stop    : Option Nat := none
  deriving DecidableEq, Repr

/-- Pattern tests and the test access port. -/
structure TestPort where
  tests    : List (Nat × Test) := []
  results  : List (Nat × Bytes) := []
  result   : Nat := 0
  /-- Instruction register, whether the controller is held in Test-Logic-Reset, the register selected. -/
  ir       : Nat := 0x01
  reset    : Bool := true
  /-- Data register between TDI and TDO: 0 bypass, 1 IDCODE, 2 boundary, 3 chain, 4 instruments; outputs driven. -/
  dr       : Nat := 1
  extest   : Bool := false
  boundary : List Bool := []
  claims   : List Target := []
  accesses : Nat := 0
  bypassed : Nat := 0
  unsaid   : Nat := 0
  saidAt   : Option Nat := none
  deriving DecidableEq, Repr

/-- Counters (R474): values of 48 bits by object key, keys whose overflow bit is set, bandwidth windows (R478). -/
structure Counters where
  counts   : List (Nat × Nat) := []
  ovf      : List Nat := []
  /-- Window length in force, last boundary, counts at it; whether the window that runs yields a result. -/
  w        : Nat := 1000
  last     : Nat := 0
  base     : List Nat := List.replicate 12 0
  valid    : Bool := true
  shown    : List Nat := List.replicate 12 0
  deriving DecidableEq, Repr

/-! ### The whole -/

/-- The state of the complex. -/
structure State where
  /-- Commands waiting, the oldest first: the model's queue, not the manual's. -/
  pending  : List Instr := []
  variant  : Variant := .qz2048
  /-- qz_rst_n is high. -/
  released : Bool := false
  ident    : Ident := {}
  clk      : Clocks := {}
  nor      : Nor := {}
  /-- Written values of RW and RWS objects by key index × 256 + subindex. -/
  objs     : List (Nat × Nat) := []
  win      : List Windows := List.replicate 13 {}
  map      : SegMap := {}
  ports    : List Port := List.replicate 5 {}
  /-- ENG's path generations and sweeps, kept as a sixth requester. -/
  eng      : Port := {}
  reqs     : List Req := []
  nextReq  : Nat := 0
  reg      : Regs := {}
  tree     : Tree := {}
  chans    : List (Nat × Chan) := []
  stk      : List Stack := List.replicate 32 {}
  /-- Stored bytes of the stacks; see Ops for the address. -/
  mem      : List Host.Cell := []
  /-- Rows whose touch bit is set: gch × 2^18 + bank × 4,096 + row, rising (R71). -/
  touch    : List Nat := []
  rehomes  : List Rehome := []
  codec    : Codec := {}
  engines  : Engines := {}
  fabric   : Fabric := {}
  links    : List LinkGroup := List.replicate 13 {}
  quads    : List Quad := List.replicate 4 {}
  start    : Startup := {}
  power    : Power := {}
  svc      : Service := {}
  image    : Image := {}
  test     : TestPort := {}
  cnt      : Counters := {}
  /-- Draws of free values so far: the model's own field. -/
  draw     : Nat := 0
  deriving DecidableEq, Repr

/-- The complex with qz_rst_n low, as it stands before its first release. -/
def State.reset : State := {}

end Sys2Proof.Machine
end

