-- ==== Sys2Proof/Machine/Dict.lean ====
section
/-!
DEFINITION. The object dictionary: one row per object or run of entries of the manual's object tables (R14 to R16), with
type and access coded as in Table 13.7, size in bytes, role, default and the range a write admits.
-/
namespace Sys2Proof.Machine

/-- A row of an object table. -/
structure ObjRow where
  index  : Nat
  first  : Nat
  last   : Nat
  type   : Nat
  size   : Nat
  access : Nat
  role   : Nat
  dflt   : Nat
  min    : Nat
  max    : Nat
  deriving DecidableEq, Repr

/-- Objects of chapter 01. -/
def objects01a : List ObjRow :=
  [ ⟨0x1000, 0, 0, 3, 4, 0, 1, 0, 0, 4294967295⟩,
    ⟨0x1001, 0, 0, 7, 16, 0, 1, 0, 0, 0⟩,
    ⟨0x1002, 0, 0, 4, 8, 0, 1, 0, 0, 2 ^ 64 - 1⟩,
    ⟨0x1003, 0, 0, 1, 1, 0, 1, 5, 0, 255⟩,
    ⟨0x1003, 1, 1, 2, 2, 0, 1, 0, 0, 65535⟩,
    ⟨0x1003, 2, 5, 2, 2, 0, 1, 0, 0, 65535⟩,
    ⟨0x1004, 0, 0, 1, 1, 0, 1, 6, 0, 255⟩,
    ⟨0x1004, 1, 1, 3, 4, 0, 1, 0, 0, 4294967295⟩,
    ⟨0x1004, 2, 2, 2, 2, 0, 1, 8000, 0, 65535⟩,
    ⟨0x1004, 3, 3, 2, 2, 0, 1, 1150, 0, 65535⟩,
    ⟨0x1004, 4, 4, 2, 2, 0, 1, 1000, 0, 65535⟩,
    ⟨0x1004, 5, 5, 3, 4, 0, 1, 8192, 0, 4294967295⟩,
    ⟨0x1004, 6, 6, 3, 4, 0, 1, 516096, 0, 4294967295⟩,
    ⟨0x1005, 0, 0, 1, 1, 0, 1, 5, 0, 255⟩,
    ⟨0x1005, 1, 1, 3, 4, 0, 1, 0, 0, 4294967295⟩,
    ⟨0x1005, 2, 5, 3, 4, 0, 1, 0, 0, 4294967295⟩,
    ⟨0x1006, 0, 0, 1, 1, 0, 1, 4, 0, 255⟩,
    ⟨0x1006, 1, 4, 3, 4, 0, 1, 0, 0, 4294967295⟩,
    ⟨0x1007, 0, 0, 3, 4, 0, 1, 0, 0, 4294967295⟩,
    ⟨0x1010, 0, 0, 1, 1, 0, 1, 32, 0, 255⟩,
    ⟨0x1010, 1, 32, 3, 4, 0, 1, 0, 0, 4294967295⟩,
    ⟨0x10FF, 0, 0, 2, 2, 0, 1, 256, 0, 65535⟩ ]

/-- Objects of chapter 02. -/
def objects02a : List ObjRow :=
  [ ⟨0x1200, 0, 0, 4, 8, 0, 1, 0, 0, 2 ^ 64 - 1⟩,
    ⟨0x1201, 0, 0, 1, 1, 0, 1, 4, 0, 255⟩,
    ⟨0x1201, 1, 4, 4, 8, 0, 1, 0, 0, 2 ^ 64 - 1⟩,
    ⟨0x1202, 0, 0, 3, 4, 0, 1, 0, 0, 4294967295⟩,
    ⟨0x1203, 0, 0, 1, 1, 0, 1, 10, 0, 255⟩,
    ⟨0x1203, 1, 1, 1, 1, 2, 2, 0, 0, 255⟩,
    ⟨0x1203, 2, 2, 4, 8, 0, 1, 0, 0, 2 ^ 64 - 1⟩,
    ⟨0x1203, 3, 6, 4, 8, 0, 1, 0, 0, 2 ^ 64 - 1⟩,
    ⟨0x1203, 7, 10, 3, 4, 0, 1, 0, 0, 4294967295⟩,
    ⟨0x1210, 0, 0, 4, 8, 1, 2, 0, 0, 2 ^ 64 - 1⟩,
    ⟨0x1211, 0, 0, 4, 8, 0, 1, 0, 0, 2 ^ 64 - 1⟩,
    ⟨0x1220, 0, 0, 3, 4, 0, 1, 0, 0, 4294967295⟩,
    ⟨0x1221, 0, 0, 3, 4, 0, 1, 0, 0, 4294967295⟩,
    ⟨0x1230, 0, 0, 2, 2, 0, 1, 1000, 0, 65535⟩ ]

/-- Objects of chapter 03. -/
def objects03a : List ObjRow :=
  [ ⟨0x2000, 0, 0, 2, 2, 0, 1, 256, 0, 65535⟩,
    ⟨0x2001, 0, 0, 1, 1, 0, 1, 6, 0, 255⟩,
    ⟨0x2001, 1, 1, 3, 4, 0, 1, 0, 0, 4294967295⟩,
    ⟨0x2001, 2, 2, 3, 4, 0, 1, 0, 0, 4294967295⟩,
    ⟨0x2001, 3, 3, 3, 4, 0, 1, 0, 0, 4294967295⟩,
    ⟨0x2001, 4, 4, 2, 2, 0, 1, 0, 0, 65535⟩,
    ⟨0x2001, 5, 5, 3, 4, 0, 1, 8128, 0, 4294967295⟩,
    ⟨0x2001, 6, 6, 2, 2, 0, 1, 0, 0, 65535⟩,
    ⟨0x2010, 0, 0, 8, 16, 2, 2, 0, 0, 0⟩,
    ⟨0x2013, 0, 0, 3, 4, 0, 1, 0, 0, 4294967295⟩,
    ⟨0x2011, 0, 0, 3, 4, 1, 1, 0, 0, 524287⟩,
    ⟨0x2012, 0, 0, 1, 1, 0, 1, 64, 0, 255⟩,
    ⟨0x2012, 1, 64, 4, 8, 0, 1, 0, 0, 2 ^ 64 - 1⟩,
    ⟨0x2020, 0, 0, 1, 1, 4, 2, 0, 0, 1⟩,
    ⟨0x2021, 0, 0, 1, 1, 0, 1, 4, 0, 255⟩,
    ⟨0x2021, 1, 1, 1, 1, 4, 2, 75, 51, 100⟩,
    ⟨0x2021, 2, 2, 2, 2, 4, 2, 256, 16, 65535⟩,
    ⟨0x2021, 3, 3, 2, 2, 4, 2, 1000, 100, 60000⟩,
    ⟨0x2021, 4, 4, 2, 2, 4, 2, 60, 1, 3600⟩,
    ⟨0x2022, 0, 0, 1, 1, 0, 1, 0, 0, 255⟩,
    ⟨0x2023, 0, 0, 3, 4, 0, 1, 0, 0, 4294967295⟩,
    ⟨0x2030, 0, 0, 3, 4, 0, 1, 0, 0, 4294967295⟩,
    ⟨0x2031, 0, 0, 3, 4, 0, 1, 0, 0, 4294967295⟩,
    ⟨0x2040, 0, 0, 3, 4, 0, 1, 0, 0, 4294967295⟩ ]

/-- Objects of chapter 04. -/
def objects04a : List ObjRow :=
  [ ⟨0x2400, 0, 0, 2, 2, 0, 1, 256, 0, 65535⟩,
    ⟨0x2410, 0, 0, 1, 1, 0, 1, 5, 0, 255⟩,
    ⟨0x2410, 1, 5, 4, 8, 1, 2, 1, 0, 2 ^ 64 - 1⟩,
    ⟨0x2411, 0, 0, 1, 1, 0, 1, 5, 0, 255⟩,
    ⟨0x2411, 1, 5, 4, 8, 1, 2, 1, 0, 2 ^ 64 - 1⟩,
    ⟨0x2420, 0, 0, 1, 1, 0, 1, 5, 0, 255⟩,
    ⟨0x2420, 1, 5, 3, 4, 0, 1, 0, 0, 4294967295⟩,
    ⟨0x2430, 0, 0, 1, 1, 0, 1, 4, 0, 255⟩,
    ⟨0x2430, 1, 4, 1, 1, 4, 3, 1, 0, 1⟩,
    ⟨0x2440, 0, 0, 1, 1, 0, 1, 5, 0, 255⟩,
    ⟨0x2440, 1, 5, 3, 4, 0, 1, 0, 0, 4294967295⟩,
    ⟨0x2441, 0, 0, 1, 1, 0, 1, 6, 0, 255⟩,
    ⟨0x2441, 1, 6, 2, 2, 0, 1, 0, 0, 65535⟩,
    ⟨0x2450, 0, 0, 1, 1, 0, 1, 5, 0, 255⟩,
    ⟨0x2450, 1, 5, 8, 32, 0, 1, 0, 0, 0⟩,
    ⟨0x2460, 0, 0, 1, 1, 0, 1, 4, 0, 255⟩,
    ⟨0x2460, 1, 4, 3, 4, 0, 1, 0, 0, 4294967295⟩,
    ⟨0x2461, 0, 0, 1, 1, 0, 1, 5, 0, 255⟩,
    ⟨0x2461, 1, 5, 4, 8, 0, 1, 0, 0, 2 ^ 64 - 1⟩ ]

/-- Objects of chapter 05. -/
def objects05a : List ObjRow :=
  [ ⟨0x3000, 0, 0, 2, 2, 0, 1, 256, 0, 65535⟩,
    ⟨0x3001, 0, 0, 2, 2, 0, 1, 8000, 0, 65535⟩,
    ⟨0x3002, 0, 0, 1, 1, 0, 1, 32, 0, 255⟩,
    ⟨0x3002, 1, 32, 1, 1, 0, 1, 1, 0, 255⟩,
    ⟨0x3010, 0, 0, 1, 1, 1, 2, 0, 0, 1⟩,
    ⟨0x3011, 0, 0, 2, 2, 1, 2, 200, 20, 2000⟩,
    ⟨0x3012, 0, 0, 1, 1, 1, 2, 32, 4, 64⟩,
    ⟨0x3020, 0, 0, 1, 1, 0, 1, 2, 0, 255⟩,
    ⟨0x3020, 1, 1, 2, 2, 1, 2, 192, 64, 240⟩,
    ⟨0x3020, 2, 2, 2, 2, 1, 2, 64, 0, 208⟩,
    ⟨0x3030, 0, 0, 3, 4, 0, 1, 0, 0, 4294967295⟩,
    ⟨0x3031, 0, 0, 1, 1, 0, 1, 32, 0, 255⟩,
    ⟨0x3031, 1, 32, 5, 4, 0, 1, 0, 0, 4294967295⟩,
    ⟨0x3040, 0, 0, 1, 1, 0, 1, 4, 0, 255⟩,
    ⟨0x3040, 1, 1, 2, 2, 0, 1, 1024, 0, 65535⟩,
    ⟨0x3040, 2, 2, 2, 2, 0, 1, 256, 0, 65535⟩,
    ⟨0x3040, 3, 3, 4, 8, 0, 1, 0, 0, 2 ^ 64 - 1⟩,
    ⟨0x3040, 4, 4, 3, 4, 0, 1, 0, 0, 4294967295⟩,
    ⟨0x3050, 0, 0, 1, 1, 0, 1, 3, 0, 255⟩,
    ⟨0x3050, 1, 1, 2, 2, 4, 2, 256, 16, 1024⟩,
    ⟨0x3050, 2, 2, 4, 8, 0, 1, 0, 0, 2 ^ 64 - 1⟩,
    ⟨0x3050, 3, 3, 2, 2, 0, 1, 0, 0, 65535⟩,
    ⟨0x3060, 0, 0, 1, 1, 0, 1, 32, 0, 255⟩,
    ⟨0x3060, 1, 32, 3, 4, 0, 1, 0, 0, 4294967295⟩,
    ⟨0x3070, 0, 0, 2, 2, 1, 1, 0, 0, 2047⟩,
    ⟨0x3071, 0, 0, 1, 1, 0, 1, 64, 0, 255⟩,
    ⟨0x3071, 1, 64, 3, 4, 0, 1, 0, 0, 4294967295⟩ ]

/-- Objects of chapter 06. -/
def objects06a : List ObjRow :=
  [ ⟨0x3400, 0, 0, 2, 2, 0, 1, 256, 0, 65535⟩,
    ⟨0x3401, 0, 0, 1, 1, 0, 1, 3, 0, 255⟩,
    ⟨0x3401, 1, 1, 1, 1, 0, 1, 48, 0, 255⟩,
    ⟨0x3401, 2, 2, 1, 1, 0, 1, 24, 0, 255⟩,
    ⟨0x3401, 3, 3, 1, 1, 0, 1, 6, 0, 255⟩,
    ⟨0x3402, 0, 0, 2, 2, 0, 1, 156, 0, 65535⟩,
    ⟨0x3410, 0, 0, 1, 1, 0, 1, 12, 0, 255⟩,
    ⟨0x3410, 1, 4, 1, 1, 0, 1, 0, 0, 255⟩,
    ⟨0x3410, 5, 8, 1, 1, 0, 1, 0, 0, 255⟩,
    ⟨0x3410, 9, 12, 1, 1, 0, 1, 0, 0, 255⟩,
    ⟨0x3411, 0, 0, 1, 1, 2, 2, 0, 0, 255⟩,
    ⟨0x3412, 0, 0, 4, 8, 0, 1, 0, 0, 2 ^ 64 - 1⟩,
    ⟨0x3413, 0, 0, 2, 2, 0, 1, 0, 0, 65535⟩,
    ⟨0x3420, 0, 0, 2, 2, 1, 1, 0, 0, 2047⟩,
    ⟨0x3421, 0, 0, 1, 1, 0, 1, 64, 0, 255⟩,
    ⟨0x3421, 1, 64, 3, 4, 0, 1, 448, 0, 4294967295⟩ ]

/-- Objects of chapter 07. -/
def objects07a : List ObjRow :=
  [ ⟨0x3800, 0, 0, 2, 2, 0, 1, 256, 0, 65535⟩,
    ⟨0x3801, 0, 0, 3, 4, 0, 1, 1000, 0, 4294967295⟩,
    ⟨0x3810, 0, 0, 8, 752, 2, 2, 0, 0, 0⟩,
    ⟨0x3811, 0, 0, 1, 1, 0, 1, 48, 0, 255⟩,
    ⟨0x3811, 1, 48, 3, 4, 0, 1, 0, 0, 4294967295⟩,
    ⟨0x3812, 0, 0, 1, 1, 0, 1, 48, 0, 255⟩,
    ⟨0x3812, 1, 48, 3, 4, 0, 1, 0, 0, 4294967295⟩,
    ⟨0x3813, 0, 0, 3, 4, 0, 1, 0, 0, 4294967295⟩,
    ⟨0x3820, 0, 0, 1, 1, 0, 1, 9, 0, 255⟩,
    ⟨0x3820, 1, 4, 3, 4, 0, 1, 0, 0, 4294967295⟩,
    ⟨0x3820, 5, 9, 3, 4, 0, 1, 14400000, 0, 4294967295⟩,
    ⟨0x3821, 0, 0, 1, 1, 0, 1, 4, 0, 255⟩,
    ⟨0x3821, 1, 4, 3, 4, 0, 1, 0, 0, 4294967295⟩,
    ⟨0x3830, 0, 0, 1, 1, 0, 1, 8, 0, 255⟩,
    ⟨0x3830, 1, 8, 1, 1, 1, 2, 1, 0, 2⟩,
    ⟨0x3831, 0, 0, 1, 1, 0, 1, 6, 0, 255⟩,
    ⟨0x3831, 1, 6, 1, 1, 1, 2, 1, 0, 2⟩,
    ⟨0x3832, 0, 0, 1, 1, 0, 1, 4, 0, 255⟩,
    ⟨0x3832, 1, 4, 3, 4, 0, 1, 0, 0, 4294967295⟩,
    ⟨0x3840, 0, 0, 1, 1, 0, 1, 5, 0, 255⟩,
    ⟨0x3840, 1, 5, 8, 520, 1, 2, 0, 0, 0⟩,
    ⟨0x3841, 0, 0, 1, 1, 0, 1, 5, 0, 255⟩,
    ⟨0x3841, 1, 5, 3, 4, 0, 1, 0, 0, 4294967295⟩,
    ⟨0x3850, 0, 0, 1, 1, 0, 1, 48, 0, 255⟩,
    ⟨0x3850, 1, 48, 3, 4, 1, 2, 0, 0, 4294967295⟩,
    ⟨0x3851, 0, 0, 1, 1, 0, 1, 48, 0, 255⟩,
    ⟨0x3851, 1, 48, 3, 4, 0, 1, 0, 0, 4294967295⟩,
    ⟨0x3852, 0, 0, 1, 1, 0, 1, 48, 0, 255⟩,
    ⟨0x3852, 1, 48, 3, 4, 0, 1, 0, 0, 4294967295⟩,
    ⟨0x3860, 0, 0, 3, 4, 1, 2, 10000, 1000, 10000000⟩,
    ⟨0x3861, 0, 0, 1, 1, 0, 1, 48, 0, 255⟩,
    ⟨0x3861, 1, 48, 2, 2, 0, 1, 0, 0, 65535⟩,
    ⟨0x3862, 0, 0, 1, 1, 0, 1, 48, 0, 255⟩,
    ⟨0x3862, 1, 48, 2, 2, 0, 1, 0, 0, 65535⟩,
    ⟨0x3863, 0, 0, 1, 1, 0, 1, 48, 0, 255⟩,
    ⟨0x3863, 1, 48, 3, 4, 0, 1, 0, 0, 4294967295⟩,
    ⟨0x3864, 0, 0, 1, 1, 0, 1, 48, 0, 255⟩,
    ⟨0x3864, 1, 48, 3, 4, 0, 1, 0, 0, 4294967295⟩,
    ⟨0x3865, 0, 0, 1, 1, 2, 2, 0, 0, 255⟩ ]

/-- Objects of chapter 08. -/
def objects08a : List ObjRow :=
  [ ⟨0x4000, 0, 0, 2, 2, 0, 1, 256, 0, 65535⟩,
    ⟨0x4010, 0, 0, 2, 2, 1, 2, 0, 0, 1023⟩,
    ⟨0x4020, 0, 0, 8, 32, 2, 2, 0, 0, 0⟩,
    ⟨0x4021, 0, 0, 3, 4, 0, 1, 0, 0, 4294967295⟩,
    ⟨0x4022, 0, 0, 1, 1, 0, 1, 8, 0, 255⟩,
    ⟨0x4022, 1, 8, 3, 4, 0, 1, 0, 0, 4294967295⟩,
    ⟨0x4023, 0, 0, 1, 1, 0, 1, 8, 0, 255⟩,
    ⟨0x4023, 1, 8, 8, 96, 0, 1, 0, 0, 0⟩,
    ⟨0x4030, 0, 0, 3, 4, 1, 1, 0, 0, 524287⟩,
    ⟨0x4031, 0, 0, 8, 256, 0, 1, 0, 0, 0⟩,
    ⟨0x4040, 0, 0, 1, 1, 0, 1, 2, 0, 255⟩,
    ⟨0x4040, 1, 1, 3, 4, 0, 1, 0, 0, 4294967295⟩,
    ⟨0x4040, 2, 2, 2, 2, 0, 1, 0, 0, 65535⟩,
    ⟨0x4041, 0, 0, 1, 1, 0, 1, 0, 0, 255⟩,
    ⟨0x4041, 1, 64, 3, 4, 0, 1, 0, 0, 4294967295⟩,
    ⟨0x4050, 0, 0, 1, 1, 0, 1, 4, 0, 255⟩,
    ⟨0x4050, 1, 4, 3, 4, 0, 1, 0, 0, 4294967295⟩,
    ⟨0x4051, 0, 0, 3, 4, 0, 1, 0, 0, 4294967295⟩ ]

/-- Objects of chapter 09. -/
def objects09a : List ObjRow :=
  [ ⟨0x4800, 0, 0, 2, 2, 0, 1, 256, 0, 65535⟩,
    ⟨0x4801, 0, 0, 1, 1, 0, 1, 7, 0, 255⟩,
    ⟨0x4801, 1, 1, 2, 2, 0, 1, 256, 0, 65535⟩,
    ⟨0x4801, 2, 2, 1, 1, 0, 1, 4, 0, 255⟩,
    ⟨0x4801, 3, 3, 1, 1, 0, 1, 64, 0, 255⟩,
    ⟨0x4801, 4, 4, 2, 2, 0, 1, 256, 0, 65535⟩,
    ⟨0x4801, 5, 5, 2, 2, 0, 1, 512, 0, 65535⟩,
    ⟨0x4801, 6, 6, 3, 4, 0, 1, 4194304, 0, 4294967295⟩,
    ⟨0x4801, 7, 7, 2, 2, 0, 1, 16384, 0, 65535⟩,
    ⟨0x4810, 0, 0, 2, 2, 1, 2, 10, 1, 1000⟩,
    ⟨0x4811, 0, 0, 2, 2, 1, 2, 100, 1, 10000⟩,
    ⟨0x4812, 0, 0, 1, 1, 4, 3, 15, 0, 15⟩,
    ⟨0x4820, 0, 0, 1, 1, 0, 1, 4, 0, 255⟩,
    ⟨0x4820, 1, 4, 3, 4, 0, 1, 0, 0, 4294967295⟩,
    ⟨0x4821, 0, 0, 2, 2, 0, 1, 0, 0, 65535⟩,
    ⟨0x4830, 0, 0, 1, 1, 0, 1, 3, 0, 255⟩,
    ⟨0x4830, 1, 1, 4, 8, 0, 1, 0, 0, 2 ^ 64 - 1⟩,
    ⟨0x4830, 2, 2, 4, 8, 0, 1, 0, 0, 2 ^ 64 - 1⟩,
    ⟨0x4830, 3, 3, 4, 8, 0, 1, 0, 0, 2 ^ 64 - 1⟩,
    ⟨0x4840, 0, 0, 8, 64, 0, 1, 0, 0, 0⟩ ]

/-- Objects of chapter 10. -/
def objects10a : List ObjRow :=
  [ ⟨0x4C00, 0, 0, 2, 2, 0, 1, 256, 0, 65535⟩,
    ⟨0x4C10, 0, 0, 1, 1, 4, 3, 0, 0, 255⟩,
    ⟨0x4C20, 0, 0, 3, 4, 1, 2, 500, 0, 10000⟩,
    ⟨0x4C21, 0, 0, 2, 2, 1, 2, 4096, 1, 4096⟩,
    ⟨0x4C22, 0, 0, 3, 4, 0, 1, 0, 0, 4294967295⟩,
    ⟨0x4C23, 0, 0, 1, 1, 0, 1, 4, 0, 255⟩,
    ⟨0x4C23, 1, 1, 4, 8, 0, 1, 0, 0, 2 ^ 64 - 1⟩,
    ⟨0x4C23, 2, 2, 4, 8, 0, 1, 0, 0, 2 ^ 64 - 1⟩,
    ⟨0x4C23, 3, 3, 4, 8, 0, 1, 0, 0, 2 ^ 64 - 1⟩,
    ⟨0x4C23, 4, 4, 4, 8, 0, 1, 0, 0, 2 ^ 64 - 1⟩,
    ⟨0x4C30, 0, 0, 3, 4, 1, 1, 0, 0, 524287⟩,
    ⟨0x4C31, 0, 0, 1, 1, 0, 1, 64, 0, 255⟩,
    ⟨0x4C31, 1, 64, 4, 8, 0, 1, 0, 0, 2 ^ 64 - 1⟩,
    ⟨0x4C32, 0, 0, 3, 4, 0, 1, 0, 0, 4294967295⟩,
    ⟨0x4C33, 0, 0, 4, 8, 0, 1, 0, 0, 2 ^ 64 - 1⟩ ]

/-- Objects of chapter 11. -/
def objects11a : List ObjRow :=
  [ ⟨0x5000, 0, 0, 2, 2, 0, 1, 256, 0, 65535⟩,
    ⟨0x5001, 0, 0, 1, 1, 4, 3, 31, 0, 31⟩,
    ⟨0x5002, 0, 0, 1, 1, 4, 3, 0, 0, 1⟩,
    ⟨0x5010, 0, 0, 1, 1, 0, 1, 6, 0, 255⟩,
    ⟨0x5010, 1, 1, 2, 2, 4, 3, 16, 1, 1024⟩,
    ⟨0x5010, 2, 2, 1, 1, 4, 3, 20, 8, 40⟩,
    ⟨0x5010, 3, 3, 3, 4, 4, 3, 1000, 10, 1000000⟩,
    ⟨0x5010, 4, 4, 1, 1, 4, 3, 48, 16, 64⟩,
    ⟨0x5010, 5, 5, 1, 1, 4, 3, 4, 1, 64⟩,
    ⟨0x5010, 6, 6, 2, 2, 4, 3, 2000, 100, 60000⟩,
    ⟨0x5011, 0, 0, 3, 4, 4, 2, 8760, 720, 87600⟩,
    ⟨0x5020, 0, 0, 1, 1, 0, 1, 32, 0, 255⟩,
    ⟨0x5020, 1, 32, 3, 4, 0, 1, 0, 0, 4294967295⟩,
    ⟨0x5021, 0, 0, 2, 2, 1, 1, 0, 0, 2047⟩,
    ⟨0x5022, 0, 0, 1, 1, 0, 1, 64, 0, 255⟩,
    ⟨0x5022, 1, 64, 3, 4, 0, 1, 0, 0, 4294967295⟩,
    ⟨0x5030, 0, 0, 8, 16, 2, 3, 0, 0, 0⟩,
    ⟨0x5031, 0, 0, 3, 4, 0, 1, 0, 0, 4294967295⟩,
    ⟨0x5032, 0, 0, 3, 4, 0, 1, 0, 0, 4294967295⟩,
    ⟨0x5033, 0, 0, 3, 4, 0, 1, 0, 0, 4294967295⟩,
    ⟨0x5040, 0, 0, 1, 1, 0, 1, 5, 0, 255⟩,
    ⟨0x5040, 1, 5, 3, 4, 0, 1, 0, 0, 4294967295⟩,
    ⟨0x5041, 0, 0, 3, 4, 0, 1, 0, 0, 4294967295⟩,
    ⟨0x5400, 0, 0, 2, 2, 0, 1, 256, 0, 65535⟩,
    ⟨0x5401, 0, 0, 1, 1, 0, 1, 6, 0, 255⟩,
    ⟨0x5401, 1, 1, 3, 4, 0, 1, 0, 0, 4294967295⟩,
    ⟨0x5401, 2, 2, 3, 4, 0, 1, 4194304, 0, 4294967295⟩,
    ⟨0x5401, 3, 3, 3, 4, 0, 1, 0, 0, 4294967295⟩,
    ⟨0x5401, 4, 4, 3, 4, 0, 1, 0, 0, 4294967295⟩,
    ⟨0x5401, 5, 5, 3, 4, 0, 1, 0, 0, 4294967295⟩,
    ⟨0x5401, 6, 6, 2, 2, 0, 1, 0, 0, 65535⟩,
    ⟨0x5410, 0, 0, 1, 1, 4, 3, 1, 0, 3⟩,
    ⟨0x5411, 0, 0, 3, 4, 0, 1, 0, 0, 4294967295⟩,
    ⟨0x5420, 0, 0, 3, 4, 1, 1, 0, 0, 4294967295⟩,
    ⟨0x5421, 0, 0, 8, 4096, 0, 1, 0, 0, 0⟩,
    ⟨0x5430, 0, 0, 1, 1, 0, 1, 6, 0, 255⟩,
    ⟨0x5430, 1, 6, 8, 16, 0, 1, 0, 0, 0⟩,
    ⟨0x5440, 0, 0, 1, 1, 0, 1, 32, 0, 255⟩,
    ⟨0x5440, 1, 32, 8, 32, 0, 1, 0, 0, 0⟩ ]

/-- Objects of chapter 12. -/
def objects12a : List ObjRow :=
  [ ⟨0x6000, 0, 0, 2, 2, 0, 1, 256, 0, 65535⟩,
    ⟨0x6001, 0, 0, 2, 2, 4, 2, 0, 0, 65535⟩,
    ⟨0x6002, 0, 0, 3, 4, 0, 1, 0, 0, 4294967295⟩,
    ⟨0x6003, 0, 0, 1, 1, 0, 1, 32, 0, 255⟩,
    ⟨0x6003, 1, 32, 3, 4, 0, 1, 0, 0, 4294967295⟩,
    ⟨0x6004, 0, 0, 1, 1, 0, 1, 5, 0, 255⟩,
    ⟨0x6004, 1, 5, 3, 4, 0, 1, 0, 0, 4294967295⟩,
    ⟨0x6005, 0, 0, 4, 8, 0, 1, 0, 0, 2 ^ 64 - 1⟩,
    ⟨0x6006, 0, 0, 2, 2, 0, 1, 0, 0, 65535⟩,
    ⟨0x6010, 0, 0, 1, 1, 0, 1, 2, 0, 255⟩,
    ⟨0x6010, 1, 1, 1, 1, 4, 3, 95, 80, 100⟩,
    ⟨0x6010, 2, 2, 1, 1, 4, 3, 105, 100, 110⟩,
    ⟨0x6011, 0, 0, 1, 1, 0, 1, 0, 0, 255⟩,
    ⟨0x6012, 0, 0, 1, 1, 0, 1, 32, 0, 255⟩,
    ⟨0x6012, 1, 32, 2, 2, 0, 1, 0, 0, 65535⟩,
    ⟨0x6013, 0, 0, 1, 1, 0, 1, 32, 0, 255⟩,
    ⟨0x6013, 1, 32, 5, 4, 0, 1, 0, 0, 4294967295⟩,
    ⟨0x6014, 0, 0, 1, 1, 0, 1, 32, 0, 255⟩,
    ⟨0x6014, 1, 32, 3, 4, 0, 1, 4294967295, 0, 4294967295⟩,
    ⟨0x6015, 0, 0, 1, 1, 0, 1, 5, 0, 255⟩,
    ⟨0x6015, 1, 5, 5, 4, 0, 1, 0, 0, 4294967295⟩,
    ⟨0x6020, 0, 0, 1, 1, 4, 2, 1, 0, 1⟩,
    ⟨0x6021, 0, 0, 1, 1, 0, 1, 3, 0, 255⟩,
    ⟨0x6021, 1, 1, 3, 4, 0, 1, 0, 0, 4294967295⟩,
    ⟨0x6021, 2, 2, 3, 4, 0, 1, 0, 0, 4294967295⟩,
    ⟨0x6021, 3, 3, 3, 4, 0, 1, 0, 0, 4294967295⟩,
    ⟨0x6030, 0, 0, 1, 1, 4, 3, 0, 0, 1⟩,
    ⟨0x6031, 0, 0, 1, 1, 2, 3, 0, 0, 255⟩,
    ⟨0x6032, 0, 0, 1, 1, 2, 3, 0, 0, 255⟩,
    ⟨0x6033, 0, 0, 1, 1, 0, 1, 0, 0, 255⟩ ]

/-- Objects of chapter 13. -/
def objects13a : List ObjRow :=
  [ ⟨0x1100, 0, 0, 2, 2, 0, 1, 256, 0, 65535⟩,
    ⟨0x1101, 0, 0, 1, 1, 0, 1, 4, 0, 255⟩,
    ⟨0x1101, 1, 1, 1, 1, 0, 1, 0, 0, 255⟩,
    ⟨0x1101, 2, 2, 1, 1, 4, 3, 16, 2, 16⟩,
    ⟨0x1101, 3, 3, 1, 1, 4, 3, 32, 16, 255⟩,
    ⟨0x1101, 4, 4, 1, 1, 0, 1, 0, 0, 255⟩,
    ⟨0x1102, 0, 0, 1, 1, 0, 1, 2, 0, 255⟩,
    ⟨0x1102, 1, 1, 4, 8, 0, 1, 0, 0, 2 ^ 64 - 1⟩,
    ⟨0x1102, 2, 2, 4, 8, 4, 3, 0, 0, 2 ^ 64 - 1⟩,
    ⟨0x1104, 0, 0, 1, 1, 0, 1, 6, 0, 255⟩,
    ⟨0x1104, 1, 1, 3, 4, 0, 1, 0, 0, 4294967295⟩,
    ⟨0x1104, 2, 2, 3, 4, 0, 1, 0, 0, 4294967295⟩,
    ⟨0x1104, 3, 3, 3, 4, 0, 1, 0, 0, 4294967295⟩,
    ⟨0x1104, 4, 4, 3, 4, 0, 1, 0, 0, 4294967295⟩,
    ⟨0x1104, 5, 5, 3, 4, 0, 1, 0, 0, 4294967295⟩,
    ⟨0x1104, 6, 6, 3, 4, 0, 1, 0, 0, 4294967295⟩,
    ⟨0x1110, 0, 0, 1, 1, 0, 1, 8, 0, 255⟩,
    ⟨0x1110, 1, 8, 4, 8, 0, 1, 0, 0, 2 ^ 64 - 1⟩,
    ⟨0x1111, 0, 0, 2, 2, 4, 3, 60, 10, 3600⟩,
    ⟨0x1112, 0, 0, 3, 4, 0, 1, 0, 0, 4294967295⟩,
    ⟨0x1120, 0, 0, 1, 1, 0, 1, 4, 0, 255⟩,
    ⟨0x1120, 1, 4, 1, 1, 0, 1, 2, 0, 255⟩,
    ⟨0x1121, 0, 0, 1, 1, 0, 1, 4, 0, 255⟩,
    ⟨0x1121, 1, 4, 1, 1, 4, 3, 2, 1, 3⟩,
    ⟨0x1122, 0, 0, 8, 32, 0, 1, 0, 0, 0⟩,
    ⟨0x1123, 0, 0, 8, 33, 2, 1, 0, 0, 0⟩,
    ⟨0x1124, 0, 0, 1, 1, 2, 1, 0, 0, 255⟩,
    ⟨0x1130, 0, 0, 1, 1, 0, 1, 8, 0, 255⟩,
    ⟨0x1130, 1, 8, 8, 16, 4, 2, 0, 0, 0⟩,
    ⟨0x1131, 0, 0, 1, 1, 0, 1, 4, 0, 255⟩,
    ⟨0x1131, 1, 4, 3, 4, 1, 1, 0, 0, 4294967295⟩,
    ⟨0x1132, 0, 0, 1, 1, 0, 1, 8, 0, 255⟩,
    ⟨0x1132, 1, 8, 3, 4, 0, 1, 0, 0, 4294967295⟩,
    ⟨0x1133, 0, 0, 2, 2, 4, 2, 200, 10, 1000⟩,
    ⟨0x1140, 0, 0, 1, 1, 2, 3, 0, 0, 255⟩,
    ⟨0x1141, 0, 0, 3, 4, 0, 1, 0, 0, 4294967295⟩ ]

/-- Objects of chapter 14. -/
def objects14a : List ObjRow :=
  [ ⟨0x7000, 0, 0, 2, 2, 0, 1, 256, 0, 65535⟩,
    ⟨0x7001, 0, 0, 1, 1, 0, 1, 0, 0, 255⟩,
    ⟨0x7002, 0, 0, 1, 1, 0, 1, 4, 0, 255⟩,
    ⟨0x7002, 1, 4, 3, 4, 0, 1, 0, 0, 4294967295⟩,
    ⟨0x7003, 0, 0, 8, 28, 0, 1, 0, 0, 0⟩,
    ⟨0x7010, 0, 0, 1, 1, 0, 1, 4, 0, 255⟩,
    ⟨0x7010, 1, 4, 3, 4, 0, 1, 0, 0, 4294967295⟩,
    ⟨0x7020, 0, 0, 1, 1, 0, 1, 4, 0, 255⟩,
    ⟨0x7020, 1, 4, 1, 1, 2, 3, 0, 0, 255⟩,
    ⟨0x7021, 0, 0, 1, 1, 0, 1, 5, 0, 255⟩,
    ⟨0x7021, 1, 5, 1, 1, 2, 3, 0, 0, 255⟩,
    ⟨0x7022, 0, 0, 1, 1, 2, 3, 0, 0, 255⟩,
    ⟨0x7030, 0, 0, 1, 1, 0, 1, 13, 0, 255⟩,
    ⟨0x7030, 1, 13, 3, 4, 0, 1, 0, 0, 4294967295⟩,
    ⟨0x7031, 0, 0, 1, 1, 0, 1, 13, 0, 255⟩,
    ⟨0x7031, 1, 13, 2, 2, 0, 1, 0, 0, 65535⟩,
    ⟨0x7032, 0, 0, 1, 1, 0, 1, 0, 0, 255⟩,
    ⟨0x7040, 0, 0, 1, 1, 0, 1, 2, 0, 255⟩,
    ⟨0x7040, 1, 1, 1, 1, 4, 3, 16, 8, 32⟩,
    ⟨0x7040, 2, 2, 2, 2, 4, 3, 100, 10, 10000⟩,
    ⟨0x7050, 0, 0, 1, 1, 4, 3, 0, 0, 2⟩,
    ⟨0x7060, 0, 0, 1, 1, 0, 1, 2, 0, 255⟩,
    ⟨0x7060, 1, 1, 3, 4, 0, 1, 0, 0, 4294967295⟩,
    ⟨0x7060, 2, 2, 3, 4, 0, 1, 0, 0, 4294967295⟩ ]

/-- Objects of chapter 15. -/
def objects15a : List ObjRow :=
  [ ⟨0x7800, 0, 0, 2, 2, 0, 1, 256, 0, 65535⟩,
    ⟨0x7801, 0, 0, 2, 2, 0, 1, 256, 0, 65535⟩,
    ⟨0x7810, 0, 0, 1, 1, 0, 1, 5, 0, 255⟩,
    ⟨0x7810, 1, 1, 1, 1, 0, 1, 0, 0, 255⟩,
    ⟨0x7810, 2, 2, 3, 4, 0, 1, 0, 0, 4294967295⟩,
    ⟨0x7810, 3, 3, 2, 2, 0, 1, 0, 0, 65535⟩,
    ⟨0x7810, 4, 4, 2, 2, 0, 1, 0, 0, 65535⟩,
    ⟨0x7810, 5, 5, 8, 48, 0, 1, 0, 0, 0⟩,
    ⟨0x7811, 0, 0, 1, 1, 0, 1, 3, 0, 255⟩,
    ⟨0x7811, 1, 3, 4, 8, 0, 1, 0, 0, 2 ^ 64 - 1⟩,
    ⟨0x7812, 0, 0, 2, 2, 0, 1, 0, 0, 65535⟩,
    ⟨0x7820, 0, 0, 8, 1048576, 2, 3, 0, 0, 0⟩,
    ⟨0x7821, 0, 0, 3, 4, 0, 1, 0, 0, 4294967295⟩,
    ⟨0x7822, 0, 0, 1, 1, 2, 3, 0, 0, 255⟩,
    ⟨0x7823, 0, 0, 1, 1, 0, 1, 0, 0, 255⟩,
    ⟨0x7830, 0, 0, 1, 1, 0, 1, 3, 0, 255⟩,
    ⟨0x7830, 1, 3, 3, 4, 0, 1, 255, 0, 4294967295⟩ ]

/-- Objects of chapter 16. -/
def objects16a : List ObjRow :=
  [ ⟨0x8000, 0, 0, 2, 2, 0, 1, 256, 0, 65535⟩,
    ⟨0x8001, 0, 0, 1, 1, 0, 1, 0, 0, 255⟩,
    ⟨0x8002, 0, 0, 1, 1, 2, 2, 0, 0, 255⟩,
    ⟨0x8003, 0, 0, 1, 1, 0, 1, 4, 0, 255⟩,
    ⟨0x8003, 1, 4, 1, 1, 4, 3, 0, 0, 255⟩,
    ⟨0x8010, 0, 0, 3, 4, 1, 2, 1000, 10, 1000000⟩,
    ⟨0x8011, 0, 0, 1, 1, 0, 1, 6, 0, 255⟩,
    ⟨0x8011, 1, 6, 3, 4, 0, 1, 0, 0, 4294967295⟩,
    ⟨0x8012, 0, 0, 1, 1, 0, 1, 6, 0, 255⟩,
    ⟨0x8012, 1, 6, 3, 4, 0, 1, 0, 0, 4294967295⟩,
    ⟨0x8100, 0, 0, 1, 1, 0, 1, 6, 0, 255⟩,
    ⟨0x8100, 1, 6, 4, 8, 0, 1, 0, 0, 2 ^ 64 - 1⟩,
    ⟨0x8101, 0, 0, 1, 1, 0, 1, 6, 0, 255⟩,
    ⟨0x8101, 1, 6, 4, 8, 0, 1, 0, 0, 2 ^ 64 - 1⟩,
    ⟨0x8102, 0, 0, 1, 1, 0, 1, 6, 0, 255⟩,
    ⟨0x8102, 1, 6, 4, 8, 0, 1, 0, 0, 2 ^ 64 - 1⟩,
    ⟨0x8103, 0, 0, 1, 1, 0, 1, 6, 0, 255⟩,
    ⟨0x8103, 1, 6, 4, 8, 0, 1, 0, 0, 2 ^ 64 - 1⟩,
    ⟨0x8104, 0, 0, 1, 1, 0, 1, 6, 0, 255⟩,
    ⟨0x8104, 1, 6, 4, 8, 0, 1, 0, 0, 2 ^ 64 - 1⟩,
    ⟨0x8200, 0, 0, 1, 1, 0, 1, 48, 0, 255⟩,
    ⟨0x8200, 1, 48, 4, 8, 0, 1, 0, 0, 2 ^ 64 - 1⟩,
    ⟨0x8201, 0, 0, 1, 1, 0, 1, 48, 0, 255⟩,
    ⟨0x8201, 1, 48, 4, 8, 0, 1, 0, 0, 2 ^ 64 - 1⟩,
    ⟨0x8300, 0, 0, 1, 1, 0, 1, 12, 0, 255⟩,
    ⟨0x8300, 1, 12, 4, 8, 0, 1, 0, 0, 2 ^ 64 - 1⟩,
    ⟨0x8301, 0, 0, 1, 1, 0, 1, 12, 0, 255⟩,
    ⟨0x8301, 1, 12, 4, 8, 0, 1, 0, 0, 2 ^ 64 - 1⟩,
    ⟨0x8302, 0, 0, 1, 1, 0, 1, 12, 0, 255⟩,
    ⟨0x8302, 1, 12, 4, 8, 0, 1, 0, 0, 2 ^ 64 - 1⟩,
    ⟨0x8400, 0, 0, 1, 1, 0, 1, 32, 0, 255⟩,
    ⟨0x8400, 1, 32, 4, 8, 0, 1, 0, 0, 2 ^ 64 - 1⟩,
    ⟨0x8401, 0, 0, 1, 1, 0, 1, 32, 0, 255⟩,
    ⟨0x8401, 1, 32, 4, 8, 0, 1, 0, 0, 2 ^ 64 - 1⟩,
    ⟨0x8402, 0, 0, 1, 1, 0, 1, 32, 0, 255⟩,
    ⟨0x8402, 1, 32, 4, 8, 0, 1, 0, 0, 2 ^ 64 - 1⟩,
    ⟨0x8403, 0, 0, 1, 1, 0, 1, 32, 0, 255⟩,
    ⟨0x8403, 1, 32, 4, 8, 0, 1, 0, 0, 2 ^ 64 - 1⟩,
    ⟨0x8404, 0, 0, 1, 1, 0, 1, 32, 0, 255⟩,
    ⟨0x8404, 1, 32, 4, 8, 0, 1, 0, 0, 2 ^ 64 - 1⟩ ]

/-- Objects of chapter 16. -/
def objects16b : List ObjRow :=
  [ ⟨0x8405, 0, 0, 1, 1, 0, 1, 32, 0, 255⟩,
    ⟨0x8405, 1, 32, 4, 8, 0, 1, 0, 0, 2 ^ 64 - 1⟩,
    ⟨0x8500, 0, 0, 1, 1, 0, 1, 4, 0, 255⟩,
    ⟨0x8500, 1, 4, 4, 8, 0, 1, 0, 0, 2 ^ 64 - 1⟩,
    ⟨0x8501, 0, 0, 1, 1, 0, 1, 4, 0, 255⟩,
    ⟨0x8501, 1, 4, 4, 8, 0, 1, 0, 0, 2 ^ 64 - 1⟩,
    ⟨0x8502, 0, 0, 1, 1, 0, 1, 4, 0, 255⟩,
    ⟨0x8502, 1, 4, 4, 8, 0, 1, 0, 0, 2 ^ 64 - 1⟩,
    ⟨0x8503, 0, 0, 1, 1, 0, 1, 4, 0, 255⟩,
    ⟨0x8503, 1, 4, 4, 8, 0, 1, 0, 0, 2 ^ 64 - 1⟩,
    ⟨0x8504, 0, 0, 1, 1, 0, 1, 4, 0, 255⟩,
    ⟨0x8504, 1, 4, 4, 8, 0, 1, 0, 0, 2 ^ 64 - 1⟩,
    ⟨0x8600, 0, 0, 1, 1, 0, 1, 4, 0, 255⟩,
    ⟨0x8600, 1, 4, 4, 8, 0, 1, 0, 0, 2 ^ 64 - 1⟩,
    ⟨0x8601, 0, 0, 1, 1, 0, 1, 4, 0, 255⟩,
    ⟨0x8601, 1, 4, 4, 8, 0, 1, 0, 0, 2 ^ 64 - 1⟩,
    ⟨0x8700, 0, 0, 1, 1, 0, 1, 4, 0, 255⟩,
    ⟨0x8700, 1, 4, 4, 8, 0, 1, 0, 0, 2 ^ 64 - 1⟩,
    ⟨0x8800, 0, 0, 1, 1, 0, 1, 13, 0, 255⟩,
    ⟨0x8800, 1, 13, 4, 8, 0, 1, 0, 0, 2 ^ 64 - 1⟩,
    ⟨0x8801, 0, 0, 1, 1, 0, 1, 13, 0, 255⟩,
    ⟨0x8801, 1, 13, 4, 8, 0, 1, 0, 0, 2 ^ 64 - 1⟩,
    ⟨0x8802, 0, 0, 1, 1, 0, 1, 13, 0, 255⟩,
    ⟨0x8802, 1, 13, 4, 8, 0, 1, 0, 0, 2 ^ 64 - 1⟩,
    ⟨0x9000, 0, 0, 2, 2, 0, 1, 256, 0, 65535⟩,
    ⟨0x9001, 0, 0, 3, 4, 0, 1, 0, 0, 4294967295⟩,
    ⟨0x9010, 0, 0, 8, 32, 2, 3, 0, 0, 0⟩,
    ⟨0x9011, 0, 0, 3, 4, 0, 1, 0, 0, 4294967295⟩,
    ⟨0x9012, 0, 0, 1, 1, 0, 1, 16, 0, 255⟩,
    ⟨0x9012, 1, 16, 3, 4, 0, 1, 0, 0, 4294967295⟩,
    ⟨0x9013, 0, 0, 1, 1, 0, 1, 16, 0, 255⟩,
    ⟨0x9013, 1, 16, 8, 1104, 0, 1, 0, 0, 0⟩,
    ⟨0x9020, 0, 0, 1, 1, 1, 3, 0, 0, 1⟩,
    ⟨0x9021, 0, 0, 3, 4, 0, 1, 0, 0, 4294967295⟩,
    ⟨0x9022, 0, 0, 3, 4, 0, 1, 0, 0, 4294967295⟩ ]

/-- Every object of the dictionary. -/
def dictionary : List ObjRow :=
  objects01a ++ objects02a ++ objects03a ++ objects04a ++ objects05a ++ objects06a ++ objects07a ++ objects08a ++ objects09a ++ objects10a ++ objects11a ++ objects12a ++ objects13a ++ objects14a ++ objects15a ++ objects16a ++ objects16b

/-- The row that defines an object; none when index or subindex is undefined (R419). -/
def objRow (index sub : Nat) : Option ObjRow :=
  dictionary.find? fun r => r.index == index && decide (r.first ≤ sub) && decide (sub ≤ r.last)

/-- Key of an object's value. -/
def objKey (index sub : Nat) : Nat := index * 256 + sub

end Sys2Proof.Machine
end

