-- ==== Sys2Proof/Machine/Sha.lean ====
section
/-!
DEFINITION. SHA-256 and SHA-384 (FIPS 180-4) and HMAC-SHA-256, which R410 and R462 name. The round constants are
computed from their definition, the fractional bits of roots of primes. PRESUMED: the algorithms are the standards',
not this manual's (notes/assumptions/11.md).
-/
namespace Sys2Proof.Machine

/-- Largest r below 2^fuel with r^k ≤ x. -/
def kthRoot (k x : Nat) : Nat → Nat → Nat
  | 0, r => r
  | n + 1, r => kthRoot k x n (if (r + 2 ^ n) ^ k ≤ x then r + 2 ^ n else r)

/-- The first 80 primes. -/
def shaPrimes : List Nat :=
  ((List.range 410).filter fun n => decide (n ≥ 2) && (List.range 21).all fun d => d < 2 || d ≥ n || n % d ≠ 0).take 80

/-- First 64 fractional bits of the cube root of the t-th prime: SHA-512 family constants. -/
def shaK : List Nat := shaPrimes.map fun p => kthRoot 3 (p * 2 ^ 192) 70 0 % 2 ^ 64

/-- First 64 fractional bits of the square root of a prime. -/
def shaH (p : Nat) : Nat := kthRoot 2 (p * 2 ^ 128) 72 0 % 2 ^ 64

/-- The word size and rotations of one member of the family. -/
structure ShaParams where
  w      : Nat
  rounds : Nat
  s0 : Nat × Nat × Nat
  s1 : Nat × Nat × Nat
  m0 : Nat × Nat × Nat
  m1 : Nat × Nat × Nat
  k  : List Nat
  h  : List Nat

/-- Rotate right in w bits. -/
def rotr (w x n : Nat) : Nat := x / 2 ^ n + x % 2 ^ n * 2 ^ (w - n)

/-- The two big sigma functions. -/
def shaBig (p : ShaParams) (r : Nat × Nat × Nat) (x : Nat) : Nat :=
  rotr p.w x r.1 ^^^ rotr p.w x r.2.1 ^^^ rotr p.w x r.2.2

/-- The two small sigma functions: the last is a shift. -/
def shaSmall (p : ShaParams) (r : Nat × Nat × Nat) (x : Nat) : Nat :=
  rotr p.w x r.1 ^^^ rotr p.w x r.2.1 ^^^ x / 2 ^ r.2.2

/-- Message schedule, newest word first. -/
def shaSchedule (p : ShaParams) : Nat → List Nat → List Nat
  | 0, ws => ws
  | n + 1, ws =>
    let x := shaSmall p p.m1 (nth ws 1 0) + nth ws 6 0 + shaSmall p p.m0 (nth ws 14 0) + nth ws 15 0
    shaSchedule p n (x % 2 ^ p.w :: ws)

/-- One block into the hash value. -/
def shaBlock (p : ShaParams) (h : List Nat) (block : Bytes) : List Nat :=
  let n := p.w / 8
  let ws0 := (List.range 16).map fun i => beNat (slice block (n * i) n)
  let ws := (shaSchedule p (p.rounds - 16) ws0.reverse).reverse
  let m := 2 ^ p.w
  let step := fun (v : List Nat) (wk : Nat × Nat) =>
    match v with
    | [a, b, c, d, e, f, g, hh] =>
      let t1 := hh + shaBig p p.s1 e + ((e &&& f) ^^^ ((m - 1 - e) &&& g)) + wk.1 + wk.2
      let t2 := shaBig p p.s0 a + ((a &&& b) ^^^ (a &&& c) ^^^ (b &&& c))
      [(t1 + t2) % m, a, b, c, (d + t1) % m, e, f, g]
    | _ => v
  List.zipWith (fun x y => (x + y) % m) h ((ws.zip p.k).foldl step h)

/-- The digest of a message, n bytes of it. -/
def shaDigest (p : ShaParams) (n : Nat) (msg : Bytes) : Bytes :=
  let bl := 2 * p.w
  let len := msg.length
  let pad := (2 * bl - (len + 1 + p.w / 4) % bl) % bl
  let full := msg ++ [0x80] ++ List.replicate pad 0 ++ beBytes (p.w / 4) (8 * len)
  let h := (List.range (full.length / bl)).foldl (fun h i => shaBlock p h (slice full (bl * i) bl)) p.h
  (h.flatMap fun x => beBytes (p.w / 8) x).take n

/-- SHA-256. -/
def sha256 : Bytes → Bytes :=
  shaDigest { w := 32, rounds := 64, s0 := (2, 13, 22), s1 := (6, 11, 25), m0 := (7, 18, 3), m1 := (17, 19, 10),
              k := (shaK.take 64).map (· / 2 ^ 32), h := (shaPrimes.take 8).map fun p => shaH p / 2 ^ 32 } 32

/-- SHA-384. -/
def sha384 : Bytes → Bytes :=
  shaDigest { w := 64, rounds := 80, s0 := (28, 34, 39), s1 := (14, 18, 41), m0 := (1, 8, 7), m1 := (19, 61, 6),
              k := shaK, h := ((shaPrimes.drop 8).take 8).map shaH } 48

/-- HMAC-SHA-256 with a key of 32 bytes (R410). -/
def hmacSha256 (key msg : Bytes) : Bytes :=
  let k := padTo 64 key
  sha256 (k.map (· ^^^ 0x5C) ++ sha256 (k.map (· ^^^ 0x36) ++ msg))

end Sys2Proof.Machine
end

