-- ==== Sys2Proof/Machine/Ops.lean ====
section
/-!
DEFINITION. The named operations over the state that every family shares: updates of one part of the state, objects,
time stamps, counters, notices and the journal, requests and responses, and the bytes the stacks store.
-/
namespace Sys2Proof.Machine

/-- What a command answers. -/
abbrev Answered := Host.Outcome State Fault Refusal

/-! ### Updates of one part of the state -/

def State.onIdent (s : State) (f : Ident → Ident) : State := { s with ident := f s.ident }
def State.onClk (s : State) (f : Clocks → Clocks) : State := { s with clk := f s.clk }
def State.onNor (s : State) (f : Nor → Nor) : State := { s with nor := f s.nor }
def State.onObjs (s : State) (f : List (Nat × Nat) → List (Nat × Nat)) : State := { s with objs := f s.objs }
def State.onWin (s : State) (f : List Windows → List Windows) : State := { s with win := f s.win }
def State.onMap (s : State) (f : SegMap → SegMap) : State := { s with map := f s.map }
def State.onPorts (s : State) (f : List Port → List Port) : State := { s with ports := f s.ports }
def State.onEng (s : State) (f : Port → Port) : State := { s with eng := f s.eng }
def State.onReqs (s : State) (f : List Req → List Req) : State := { s with reqs := f s.reqs }
def State.onReg (s : State) (f : Regs → Regs) : State := { s with reg := f s.reg }
def State.onTree (s : State) (f : Tree → Tree) : State := { s with tree := f s.tree }
def State.onChans (s : State) (f : List (Nat × Chan) → List (Nat × Chan)) : State := { s with chans := f s.chans }
def State.onStk (s : State) (f : List Stack → List Stack) : State := { s with stk := f s.stk }
def State.onMem (s : State) (f : List Host.Cell → List Host.Cell) : State := { s with mem := f s.mem }
def State.onTouch (s : State) (f : List Nat → List Nat) : State := { s with touch := f s.touch }
def State.onRehomes (s : State) (f : List Rehome → List Rehome) : State := { s with rehomes := f s.rehomes }
def State.onCodec (s : State) (f : Codec → Codec) : State := { s with codec := f s.codec }
def State.onEngines (s : State) (f : Engines → Engines) : State := { s with engines := f s.engines }
def State.onFabric (s : State) (f : Fabric → Fabric) : State := { s with fabric := f s.fabric }
def State.onLinks (s : State) (f : List LinkGroup → List LinkGroup) : State := { s with links := f s.links }
def State.onQuads (s : State) (f : List Quad → List Quad) : State := { s with quads := f s.quads }
def State.onStart (s : State) (f : Startup → Startup) : State := { s with start := f s.start }
def State.onPower (s : State) (f : Power → Power) : State := { s with power := f s.power }
def State.onSvc (s : State) (f : Service → Service) : State := { s with svc := f s.svc }
def State.onImage (s : State) (f : Image → Image) : State := { s with image := f s.image }
def State.onTest (s : State) (f : TestPort → TestPort) : State := { s with test := f s.test }
def State.onCnt (s : State) (f : Counters → Counters) : State := { s with cnt := f s.cnt }

/-- The next free value's draw number, counted off. -/
def State.drawn (s : State) : State := { s with draw := s.draw + 1 }

/-- A free value of at most n, drawn. -/
def drawUpTo (n : Nat) (s : State) : Nat × State := (Config.duration s.draw % (n + 1), s.drawn)

/-- A recovery has ended: counted, and the longest kept (object 0x7060). -/
def countRecovery (ns : Nat) (s : State) : State :=
  s.onStart fun t => { t with faults := (t.faults + 1) % 2 ^ 32, longest := Nat.max t.longest ns }

/-- A single fault of Table 14.6 is recovered; the delay it caused lies within its bound. -/
def recovered (bound : Nat) (s : State) : State := let (d, s) := drawUpTo bound s; countRecovery d s

/-- One port's record; requester 5 is ENG's. -/
def portAt (s : State) (p : Nat) : Port := if p < 5 then nth s.ports p {} else s.eng
/-- Change one port's record. -/
def updPort (p : Nat) (f : Port → Port) (s : State) : State :=
  if p < 5 then s.onPorts (modNth · p f) else s.onEng f

def quadAt (s : State) (q : Nat) : Quad := nth s.quads q {}
def updQuad (q : Nat) (f : Quad → Quad) (s : State) : State := s.onQuads (modNth · q f)
def stackAt (s : State) (n : Nat) : Stack := nth s.stk n {}
def updStack (n : Nat) (f : Stack → Stack) (s : State) : State := s.onStk (modNth · n f)
def heatAt (s : State) (n : Nat) : Heat := nth s.power.heat n {}
def updHeat (n : Nat) (f : Heat → Heat) (s : State) : State := s.onPower fun p => { p with heat := modNth p.heat n f }
def linkAt (s : State) (g : Nat) : LinkGroup := nth s.links g {}
def updLink (g : Nat) (f : LinkGroup → LinkGroup) (s : State) : State := s.onLinks (modNth · g f)
def entryAt (s : State) (e : Nat) : RegEntry := nth s.reg.entries e {}
def updEntry (e : Nat) (f : RegEntry → RegEntry) (s : State) : State :=
  s.onReg fun r => { r with entries := modNth r.entries e f }

/-- Channel controller of slot number stack × 66 + pch. -/
def chanAt (s : State) (c : Nat) : Chan := look {} c s.chans
/-- Change one channel controller. -/
def updChan (c : Nat) (f : Chan → Chan) (s : State) : State :=
  s.onChans fun m => put {} c (f (look {} c m)) m
def bankAt (c : Chan) (b : Nat) : Bank := look {} b c.banks
/-- Change one bank of a controller. -/
def updBank (b : Nat) (f : Bank → Bank) (c : Chan) : Chan := { c with banks := put {} b (f (look {} b c.banks)) c.banks }

/-- Number of a slot's controller. -/
def slotNo (stack pch : Nat) : Nat := stack * 66 + pch
/-- Stack of a controller. -/
def stackOf (slot : Nat) : Nat := slot / 66
/-- Quadrant of a controller. -/
def quadOfSlot (slot : Nat) : Nat := slot / 528

/-! ### Time and stamps -/

/-- Hub stamp (R50). -/
def hubStamp (s : State) : Nat := s.clk.hub % 2 ^ 61
/-- Quadrant time of Qq. -/
def quadTime (s : State) (q : Nat) : Nat := nth s.clk.quad q 0
/-- Quadrant stamp (R50). -/
def quadStamp (s : State) (q : Nat) : Nat := quadTime s q % 2 ^ 61 + (4 + q) * 2 ^ 61
/-- Stamp of the counter of a die. -/
def dieStamp (s : State) : Die → Nat
  | .hub => hubStamp s
  | .med q => quadStamp s q
/-- Die code of notices 0x7020 and 0x6012. -/
def dieCode : Die → Nat
  | .hub => 0x40
  | .med q => 0x41 + q
/-- Index of a die: hub 0, MEDk k + 1. -/
def dieNo : Die → Nat
  | .hub => 0
  | .med q => q + 1
/-- Host date as read (R52). -/
def dateNow (s : State) : Nat :=
  if s.clk.date = 0 then 0 else (s.clk.date + (s.clk.hub - s.clk.dateAt) / 1000000) % 2 ^ 64
/-- Lifetime powered seconds as read (R53). -/
def poweredNow (s : State) : Nat := s.clk.base + s.clk.hub / 1000000000
/-- Journal time stamp (Table 2.6). -/
def journalStamp (s : State) : Bytes :=
  leBytes 4 s.clk.cycles ++ leBytes 4 (poweredNow s) ++ leBytes 8 (hubStamp s) ++ leBytes 8 (dateNow s)
/-- Hub time in whole milliseconds. -/
def hubMs (s : State) : Nat := s.clk.hub / 1000000

/-- Parts per million by which a die's counter may run off 1 GHz: 50 from its reference, 5 % once that is lost (R46,
R47). -/
def rateBound (s : State) (die : Nat) : Nat := if nth s.clk.lost die false then 50000 else 50
/-- A die's present deviation, ppm: free within its bound. -/
def rateOf (s : State) (die : Nat) : Int :=
  (Config.rate die s.draw % (2 * rateBound s die + 1) : Nat) - (rateBound s die : Int)
/-- What a quadrant's counter has to show for a stretch of hub time, in millionths of a nanosecond. -/
def counterRun (s : State) (ns q : Nat) : Int := nth s.clk.phase q 0 + (ns : Int) * (1000000 + rateOf s (q + 1) - rateOf s 0)

/-- Hub time passes; each quadrant counter advances by as much, but for the two counters' deviations (R45 to R47). -/
def pass (ns : Nat) (s : State) : State :=
  (s.onClk fun c => { c with
    hub := c.hub + ns
    quad := c.quad.zipIdx.map fun x => x.1 + (counterRun s ns x.2 / 1000000).toNat
    phase := (List.range 4).map fun q => counterRun s ns q % 1000000 }).drawn

/-! ### Objects -/

/-- Default of an RW or RWS object: the image in force, else the Default column (R423). -/
def objDefault (s : State) (index sub : Nat) : Nat :=
  match s.image.defaults.find? (·.1 == objKey index sub) with
  | some e => e.2
  | none =>
    if index = 0x6001 then s.variant.envelope
    else if index = 0x3831 && sub = 5 then 0
    else match objRow index sub with
      | some r => r.dflt
      | none => 0

/-- Value of an RW or RWS scalar object. -/
def objGet (s : State) (index sub : Nat) : Nat :=
  match s.objs.find? (·.1 == objKey index sub) with
  | some e => e.2
  | none => objDefault s index sub

/-- Value of an RW or RWS object that a quadrant applies: while it is held for reset or in Slate mode, the one that stood when
it left service (R422). -/
def quadObj (s : State) (q index sub : Nat) : Nat :=
  match (quadAt s q).applied with
  | none => objGet s index sub
  | some m => match m.find? (·.1 == objKey index sub) with
    | some e => e.2
    | none => objDefault s index sub

/-- Value of an RW or RWS object that the controller and the PHY of a slot apply (R422). -/
def slotObj (s : State) (c index sub : Nat) : Nat := quadObj s (quadOfSlot c) index sub
/-- Write epoch of R236 that a channel's quadrant applies. -/
def writeEpoch (s : State) (gch : Nat) : Nat := quadObj s (gch / 512) 0x4010 0

/-- Set the value of an RW or RWS scalar object. -/
def objSet (index sub v : Nat) (s : State) : State :=
  s.onObjs fun m => (objKey index sub, v) :: m.filter (fun e => e.1 != objKey index sub)

/-- Pin rate in force, Mb/s (R128, R460). -/
def pinRate (s : State) : Nat := s.image.rate.getD s.variant.maxRate

/-- The AND of two capability words: bits [23:14] count as absent, and bit [9] falls with bit [8] (R34). -/
def meetWords (a b : Nat) : Nat :=
  let w := (a &&& b) % 2 ^ 14 + bits (a &&& b) 31 24 * 2 ^ 24
  if bit w 8 then w else setBit w 9 false

/-- Fused unit ID; never 0 (Table 1.7). -/
def fusedId : Nat := Nat.max 1 Config.unitId.toNat
/-- Hub capability word as a number. -/
def hubWord : Nat := Config.hubWord.toNat
def quadCaps (s : State) (q : Nat) : Nat := meetWords hubWord (nth s.ident.medWord q 0)
/-- Complex effective capability: over the hub and every MED whose quadrant is not in Slate mode (R32). -/
def complexCaps (s : State) : Nat :=
  if s.ident.medWord.all (· == 0) then 0
  else (List.range 4).foldl (fun w q => if (quadAt s q).st = .slate then w else meetWords w (nth s.ident.medWord q 0)) (meetWords hubWord hubWord)

/-! ### Counters (R474) -/

/-- Read and write sector counts of the six port entries. -/
def Counters.sectors (c : Counters) : List Nat :=
  [0x8101, 0x8102].flatMap fun x => (List.range 6).map fun i => look 0 (objKey x (i + 1)) c.counts

/-- The boundary of a window of w µs that follows a time. -/
def nextEdge (w last : Nat) : Nat := (last / (w * 1000) + 1) * (w * 1000)

/-- The boundaries of the bandwidth windows in force that hub time has reached (R49, R478): twelve values together. What has been
counted lies in the first of these windows, and the others are empty. -/
def Counters.passWindows (hub : Nat) (c : Counters) : Counters :=
  let n := hub / (c.w * 1000) - c.last / (c.w * 1000)
  let bw := List.zipWith (fun a b => (a + 2 ^ 48 - b) % 2 ^ 48 * 32 / c.w) c.sectors c.base
  if n = 0 then c
  else { c with last := hub / (c.w * 1000) * (c.w * 1000), base := c.sectors, valid := true,
                shown := if 2 ≤ n then bw.map fun _ => 0 else if c.valid then bw else c.shown }

/-- The boundaries of the bandwidth windows that hub time has reached. A change of the window comes in force at the first boundary
of its length, and the window that begins there has no result. -/
def Counters.endWindow (hub asked : Nat) (c : Counters) : Counters :=
  let new := nextEdge asked c.last
  if asked = c.w || decide (hub < new) then c.passWindows hub
  else
    let c := c.passWindows (new - 1)
    ({ c with w := asked, last := new, base := c.sectors, valid := false } : Counters).passWindows hub

/-- Count n events of a counter. A sector counts in the bandwidth window that hub time lies in (R49). -/
def bump (index sub n : Nat) (s : State) : State :=
  if n = 0 then s else
  let asked := objGet s 0x8010 0
  s.onCnt fun c =>
    let c := if index = 0x8101 || index = 0x8102 then c.endWindow s.clk.hub asked else c
    let k := objKey index sub
    let v := look 0 k c.counts + n
    { c with counts := put 0 k (v % 2 ^ 48) c.counts,
             ovf := if v < 2 ^ 48 then c.ovf else insertNat k c.ovf }

/-- Count of a counter. -/
def counted (s : State) (index sub : Nat) : Nat := look 0 (objKey index sub) s.cnt.counts

/-! ### Journal and ledger (R350 to R353) -/

/-- Hand a ledger record to the writer. -/
def ledger (kind : Nat) (body : Bytes) (s : State) : State :=
  if s.nor.present then s.onNor fun n => { n with waiting := n.waiting ++ [(true, kind, body, journalStamp s)] } else s

/-- Journal an event: at most 64 entries per second of hub time, the rest dropped and counted (R352). -/
def journal (kind : Nat) (body : Bytes) (s : State) : State :=
  if !s.nor.present then s else
  let sec := s.clk.hub / 1000000000
  let n := s.nor
  let used := if n.jSecond = sec then n.jCount else 0
  let more := if n.jUnsaid = 0 then 1 else 2
  if 64 < used + more then
    s.onNor fun n => { n with jSecond := sec, jCount := used, jDropped := (n.jDropped + 1) % 2 ^ 32, jUnsaid := n.jUnsaid + 1 }
  else
    let pre := if n.jUnsaid = 0 then [] else [(false, 0x86, leBytes 4 n.jUnsaid, journalStamp s)]
    s.onNor fun n => { n with jSecond := sec, jCount := used + more, jUnsaid := 0,
                              waiting := n.waiting ++ pre ++ [(false, kind, body, journalStamp s)] }

/-! ### Notices (R413 to R418) -/

/-- The queue with a notice coalesced into an unsent one of its code, severity and first payload bytes (R416). -/
def coalesce (n : Notice) (q : List Notice) : Option (List Notice) :=
  let key := fun (m : Notice) => (m.payload.take 8)
  let same := fun (m : Notice) => m.code == n.code && m.severity == n.severity && key m == key n
  if n.severity < 2 && q.any same then
    match q.findIdx? same with
    | none => none
    | some i => some (q.modify i fun m =>
        { m with stamp := n.stamp, payload := n.payload, count := Nat.min 65535 (m.count + n.count), merged := true })
  else none

/-- A notice put in a queue of a size; false when it or another was dropped (R124, R415). -/
def enqueue (cap : Nat) (n : Notice) (q : List Notice) : List Notice × Bool :=
  if q.length < cap then (q ++ [n], true)
  else if n.severity < 2 then (q, false)
  else if q.any (·.severity < 2) then (dropFirst (·.severity < 2) q ++ [n], false)
  else (q, false)

/-- A service subscription's fields (R426): MAC, area mask, least severity, acknowledge required. -/
def subscription (s : State) (i : Nat) : Nat × Nat × Nat × Bool :=
  let bs := leBytes 16 (objGet s 0x1130 (i + 1))
  (beNat (slice bs 0 6), field bs 8 2, field bs 10 1, bit (field bs 11 1) 0)

/-- A subscriber's side once a notice has come to its queue (R415 to R417). -/
def Subscriber.take (n : Notice) (d : Subscriber) : Subscriber :=
  match coalesce n d.queue with
  | some q => { d with queue := q }
  | none =>
    let (q, ok) := enqueue 64 { n with seq := d.next } d.queue
    let came := q != d.queue
    { d with queue := q, next := if came then (d.next + 1) % 2 ^ 32 else d.next,
             drops := if ok then d.drops else (d.drops + 1) % 2 ^ 32, unsaid := if ok then d.unsaid else d.unsaid + 1 }

/-- Queue a notice for a service subscriber. -/
def subQueue (i : Nat) (n : Notice) (s : State) : State :=
  s.onSvc fun v => { v with subs := modNth v.subs i (Subscriber.take n) }

/-- A compute port's side once a notice has come to its queue (R124). -/
def Port.take (n : Notice) (d : Port) : Port :=
  match coalesce n d.notices with
  | some q => { d with notices := q }
  | none =>
    let (q, ok) := enqueue 256 { n with seq := d.noticeSeq } d.notices
    let came := q != d.notices
    { d with notices := q, noticeSeq := if came then (d.noticeSeq + 1) % 2 ^ 32 else d.noticeSeq,
             dropped := if ok then d.dropped else (d.dropped + 1) % 2 ^ 32, unsaid := if ok then d.unsaid else d.unsaid + 1 }

/-- Queue a notice for a compute port. -/
def portQueue (p : Nat) (n : Notice) (s : State) : State := updPort p (Port.take n) s

/-- Whether a service subscriber's subscription names a notice (R414). -/
def subWants (s : State) (i : Nat) (n : Notice) : Bool :=
  let (mac, mask, least, _) := subscription s i
  mac != 0 && bit mask (n.code / 4096) && decide (least ≤ n.severity)

/-- Whether a compute port's subscription names a notice. -/
def portWants (s : State) (p : Nat) (n : Notice) : Bool :=
  let v := objGet s 0x1131 (p + 1)
  bit v (n.code / 4096) && decide (bits v 17 16 ≤ n.severity)

/-- A notice at or above object 0x5410:00 is journalled (R352). -/
def journalNotice (n : Notice) (s : State) : State :=
  if objGet s 0x5410 0 ≤ n.severity then
    journal 0x80 (leBytes 2 n.code ++ leBytes 1 n.severity ++ [0] ++ leBytes 8 n.stamp ++ n.payload) s
  else s

/-- A region of NOR before the rings has been erased once more: 1 shadow, 2 slot A, 3 slot B, 4 staging area (R349). -/
def countErase (region : Nat) (s : State) : State := s.onNor fun n => { n with erased := modNth n.erased region (· + 1) }

/-- A notice enters the queues of its destinations and the journal (R414, R352). `skip` names a destination it is not
for: 0x01 to 0x08 a subscriber (R418). -/
def raiseBut (skip : Nat) (n : Notice) (s : State) : State :=
  let s := forEach (List.range 8) (fun i s => if i + 1 ≠ skip && subWants s i n then subQueue i n s else s) s
  let s := forEach (List.range 4) (fun p s => if portWants s p n then portQueue p n s else s) s
  journalNotice n s

/-- Raise a notice on a die. -/
def notify (die : Die) (code severity : Nat) (payload : Bytes) (s : State) : State :=
  raiseBut 0 { code := code, severity := severity, stamp := dieStamp s die, payload := payload } s

/-- The body of a notice (Table 13.5). -/
def noticeBody (n : Notice) (resend : Bool) : Bytes :=
  leBytes 2 n.code ++ leBytes 1 n.severity ++ leBytes 1 (b2n n.merged + 2 * b2n resend) ++ leBytes 4 n.seq
  ++ leBytes 8 n.stamp ++ leBytes 2 n.payload.length ++ leBytes 2 n.count ++ n.payload

/-! ### Requests and responses -/

def reqAt (s : State) (id : Nat) : Option Req := s.reqs.find? (·.id == id)
/-- Change one request. -/
def updReq (id : Nat) (f : Req → Req) (s : State) : State :=
  s.onReqs fun l => l.map fun r => if r.id = id then f r else r
/-- Change one part of a request. -/
def updPart (id n : Nat) (f : Part → Part) (s : State) : State :=
  updReq id (fun r => { r with parts := r.parts.map fun p => if p.n = n then f p else p }) s
/-- Track a new request. -/
def addReq (r : Req) (s : State) : State := { s with reqs := s.reqs ++ [{ r with id := s.nextReq }], nextReq := s.nextReq + 1 }
/-- Forget a request. -/
def dropReq (id : Nat) (s : State) : State := s.onReqs (·.filter fun r => r.id != id)

/-- A response header (Table 4.5). -/
def respHeader (r : Resp) : Nat :=
  r.kind + r.tag * 2 ^ 4 + r.status * 2 ^ 20 + r.part * 2 ^ 28 + b2n r.final * 2 ^ 32 + b2n r.corrected * 2 ^ 33
  + b2n r.far * 2 ^ 34 + r.poison * 2 ^ 36 + r.data.length * 2 ^ 44

/-- A request header (Table 4.2). -/
def reqHeader (opcode : Nat) (r : Request) : Nat :=
  opcode + r.tag.toNat * 2 ^ 8 + r.domain.toNat * 2 ^ 24 + r.lenCode.toNat * 2 ^ 32 + b2n r.lock * 2 ^ 36
  + b2n r.lockEnd * 2 ^ 37 + b2n r.collective * 2 ^ 38 + r.group.val * 2 ^ 40 + r.addr.toNat * 2 ^ 48
  + r.package.toNat * 2 ^ 96 + r.opField.toNat * 2 ^ 104

/-- A port's client-facing side sends nothing: it is quiet or in reset (R118, R441). -/
def Port.mute (d : Port) : Bool := d.quiet || d.inReset

/-- Free a tag (R97). -/
def freeTag (p tag : Nat) (s : State) : State := updPort p (fun d => { d with tags := dropFirst (· == tag) d.tags }) s

/-- Bytes of a collective request of a port have been served. -/
def serveCollective (p bytes : Nat) (places : List Nat) (s : State) : State :=
  let now := s.clk.hub
  (updPort p (fun d => { d with collective := d.collective - bytes }) s).onPower fun w => { w with
    served := w.served.filter (fun e => decide (now < e.2.1 + 1000000)) ++ [(p, now, bytes, places)] }

/-- A collective request that was executed is served, whether or not its response leaves (R115). -/
def serveRequest (q : Req) (r : Resp) (s : State) : State :=
  if q.collective && q.bytes ≠ 0 && r.status = 0 && q.parts ≠ [] then
    serveCollective q.port q.bytes (((q.parts.filter (·.copy.isNone)).map fun x => x.gch / 64).eraseDups) s
  else s

/-- A response that carries final has left, or has been discarded: its request and its tag are over (R97, R118). -/
def endResponse (p : Nat) (r : Resp) (s : State) : State :=
  if r.final && r.kind ≠ 8 then
    freeTag p r.tag (match r.req.bind (reqAt s) with
      | some q => dropReq q.id (serveRequest q r s)
      | none => s)
  else s

/-- Queue a response on a port; a quiet or resetting port discards it (R118, R42). -/
def respond (p : Nat) (r : Resp) (s : State) : State :=
  if p ≥ 5 then s
  else if (portAt s p).mute then endResponse p r s
  else updPort p (fun d => { d with resps := d.resps ++ [r] }) s

/-- Keep a port's last error (Table 4.9). -/
def lastError (p status opcode : Nat) (r : Request) (s : State) : State :=
  let body := leBytes 1 status ++ List.replicate 7 0 ++ leBytes 8 (hubStamp s) ++ leBytes 16 (reqHeader opcode r)
  updPort p (fun d => { d with lastErr := body }) s

/-- Answer a request rejected before execution with one Error response (R100). A full fence waits for it as for any request of the
request channel (R105). -/
def reject (p status opcode : Nat) (r : Request) (s : State) : State :=
  let s := lastError p status opcode r s
  respond p { kind := 3, tag := r.tag.toNat, status := status, opcode := opcode,
              order := if r.mgmt then none else some (s.nextReq, r.group.val) } s

/-! ### Throttle levels and collective traffic (R115, R365, R377, R379) -/

/-- A stack's thermal level: that of Table 12.3, at least what a hot junction asks (R374, R375). -/
def thermalLevel (s : State) (n : Nat) : Nat := Nat.max (heatAt s n).thermal (heatAt s n).junctionMin

/-- A stack's applied level, an allowance left aside: the greater of power level and thermal level. -/
def appliedLevel (s : State) (n : Nat) : Nat := Nat.max s.power.level (thermalLevel s n)

/-- The level whose rate fraction the governor publishes (R365, R379). -/
def publishedLevel (s : State) (n : Nat) : Nat := if (heatAt s n).flask.isSome then appliedLevel s n else (heatAt s n).running

/-! ### Stored bytes -/

/-- Linear address of the first byte of a 36-byte slot: stack, pch, bank, row, slot. -/
def slotAddr (c bank row slot : Nat) : Nat := (((c * 64 + bank) * 4096 + row) * 136 + slot) * 36

/-- A byte of the stacks: zero where nothing is listed (DESIGN CHOICE, assumption 3). -/
def byteAt (m : List Host.Cell) (a : Nat) : Byte :=
  match m with
  | [] => 0
  | (k, v) :: r => if k < a then byteAt r a else if k = a then v else 0

/-- Store one byte, keeping addresses rising and no zero listed. -/
def putByte (a : Nat) (b : Byte) : List Host.Cell → List Host.Cell
  | [] => if b = 0 then [] else [(a, b)]
  | (k, v) :: r =>
    if k < a then (k, v) :: putByte a b r
    else if k = a then (if b = 0 then r else (a, b) :: r)
    else if b = 0 then (k, v) :: r else (a, b) :: (k, v) :: r

/-- n bytes from an address. -/
def getBytes (m : List Host.Cell) (a n : Nat) : Bytes := (List.range n).map fun i => byteAt m (a + i)

/-- Store bytes from an address up. -/
def putBytes (a : Nat) (bs : Bytes) (m : List Host.Cell) : List Host.Cell :=
  match bs with
  | [] => m
  | b :: r => putBytes (a + 1) r (putByte a b m)

/-- The canonical form: addresses strictly rise and no zero byte is listed. -/
def memWf : List Host.Cell → Bool
  | [] => true
  | [(_, v)] => v != 0
  | (k, v) :: (k', v') :: r => v != 0 && decide (k < k') && memWf ((k', v') :: r)

/-- The slot as stored. -/
def getSlot (s : State) (c bank row slot : Nat) : Slot := slotOf (getBytes s.mem (slotAddr c bank row slot) 36)
/-- Store a slot. -/
def putSlot (c bank row slot : Nat) (v : Slot) (s : State) : State :=
  s.onMem (putBytes (slotAddr c bank row slot) v.bytes)

/-- Key of a row in the touch map. -/
def touchKey (gch bank row : Nat) : Nat := gch * 2 ^ 18 + bank * 4096 + row
def touched (s : State) (gch bank row : Nat) : Bool := s.touch.contains (touchKey gch bank row)
/-- A touch line, 512 rows of a channel, is due to be written to its metadata frame (R153). -/
def lineDue (key : Nat) (s : State) : State := s.onMap fun m => { m with touchDue := insertNat (key / 512) m.touchDue }
def setTouch (gch bank row : Nat) (s : State) : State :=
  let k := touchKey gch bank row
  if s.touch.contains k then s else (lineDue k s).onTouch (insertNat k)
def clearTouch (gch bank row : Nat) (s : State) : State :=
  let k := touchKey gch bank row
  (lineDue k (s.onCodec fun c => { c with short := c.short.filter (· != (gch, bank, row)) })).onTouch (·.filter (· != k))
/-- The 32 bytes of half a touch line as its rows stand (Table 3.2): line number gch × 512 + line, half 0 or 1. -/
def touchBytes (s : State) (line half : Nat) : Bytes :=
  (List.range 32).map fun i => BitVec.ofNat 8 (total ((List.range 8).map fun b =>
    if s.touch.contains (line * 512 + half * 256 + 8 * i + b) then 2 ^ b else 0))

/-! ### Channels and quadrants -/

/-- Controller that serves a logical channel: that of the slot table, or the spare slot it is being rebuilt into; none
once it is mapped out or while it is rebuilt into foster frames (R326, R346). -/
def servingSlot (s : State) (gch : Nat) : Option Nat :=
  match s.rehomes.find? fun h => h.kind == 2 && h.gch == gch with
  | some h => h.dest
  | none =>
    let pch := nth (stackAt s (gch / 64)).table (gch % 64) 255
    if pch < 66 then some (slotNo (gch / 64) pch) else none

/-- Logical channel of a controller: the one its slot serves, or is being copied or rebuilt for. -/
def channelOf (s : State) (c : Nat) : Option Nat :=
  match s.rehomes.find? fun h => h.dest == some c with
  | some h => some h.gch
  | none => ((stackAt s (stackOf c)).table.findIdx? (· == c % 66)).map (stackOf c * 64 + ·)

/-- A logical channel is live while a working slot serves it (R202). -/
def liveChannel (s : State) (gch : Nat) : Bool :=
  s.variant.enables (gch / 64) && (servingSlot s gch).isSome
  && !(s.rehomes.any fun h => h.gch == gch && h.kind == 2)

/-- Settings word of a slot. -/
def swAt (s : State) (c word : Nat) : Nat :=
  let d := if word = 16 then 0xFFF else if word = 17 then 15 else 0
  look d (c % 66 * 32 + word) (stackAt s (stackOf c)).sw
def setSw (c word v : Nat) (s : State) : State :=
  let d := if word = 16 then 0xFFF else if word = 17 then 15 else 0
  updStack (stackOf c) (fun t => { t with sw := put d (c % 66 * 32 + word) v t.sw }) s

/-- Quadrant states that serve. -/
def inSlate (s : State) (q : Nat) : Bool := (quadAt s q).st = .slate
def isOffline (s : State) (q : Nat) : Bool := (quadAt s q).st = .offline
/-- The fixed map is in force while every enabled quadrant is in Slate mode (R455). -/
def fixedMapOn (s : State) : Bool := (List.range 4).all (inSlate s)
/-- The complex is ready. -/
def isReady (s : State) : Bool := s.start.state = 1 || s.start.state = 2 || s.start.state = 3

/-! ### Pattern tests that other actions meet (R484) -/

/-- A running pattern test holds a slot. -/
def slotUnderTest (s : State) (c : Nat) : Bool :=
  s.test.tests.any fun t => t.2.stop.isNone && match t.2.target with
    | .slot n p => slotNo n p == c
    | .bundle _ _ => false

/-- End the runs of some targets: their records follow at TEST_END with this outcome (Table 16.6). -/
def stopTests (hit : Target → Bool) (outcome : Nat) (s : State) : State :=
  s.onTest fun t => { t with tests := t.tests.map fun x =>
    if x.2.stop.isNone && hit x.2.target then (x.1, { x.2 with stop := some outcome }) else x }

/-- A target is a live slot of a quadrant. -/
def liveTarget (s : State) (q : Nat) : Target → Bool
  | .slot n p => n.val / 8 == q && (stackAt s n).table.contains p.val
  | .bundle _ _ => false

/-- A target is a slot. -/
def slotTarget (c : Nat) : Target → Bool
  | .slot n p => slotNo n p == c
  | .bundle _ _ => false

/-- A target is a bundle of a link group. -/
def groupTarget (g : Nat) : Target → Bool
  | .slot _ _ => false
  | .bundle h _ => h.val == g

/-- What no command changes: the queue of waiting commands, the variant, and the pin qz_rst_n but for its two commands. -/
def keepFixed (s : State) (pin : Bool) (t : State) : State := { t with pending := s.pending, variant := s.variant, released := pin }

/-- Every command but START_UP is ignored while qz_rst_n is low (R26). -/
def whenReleased (s : State) (f : State → State) : Answered := .next (if s.released then keepFixed s true (f s) else s)

end Sys2Proof.Machine
end

