-- ==== Sys2Proof/Machine/Places.lean ====
section
/-!
DEFINITION. What holds a frame: segment map entries in their two banks, Stripe Guard sets and stripes, block words (R58,
R79, R238, R241, R242).
-/
namespace Sys2Proof.Machine

/-! ### Entries -/

def segAt (s : State) (n : Nat) : Seg := look {} n s.map.segs
/-- The copy the Ivory phase bit names (Table 3.1). -/
def Seg.current (g : Seg) : Entry := if g.ivory.phase then g.sable else g.ivory
def Seg.other (g : Seg) : Entry := if g.ivory.phase then g.ivory else g.sable
def curEntry (s : State) (n : Nat) : Entry := (segAt s n).current
/-- Write the non-current copy, then flip the phase ("Ivory and Sable"). -/
def Seg.flip (e : Entry) (g : Seg) : Seg :=
  if g.ivory.phase then { g with ivory := { e with phase := false } }
  else { ivory := { g.ivory with phase := true }, sable := { e with phase := false } }
/-- Write the current copy in place, for a change that both copies carry. -/
def Seg.setBoth (f : Entry → Entry) (g : Seg) : Seg :=
  { ivory := { f g.ivory with phase := g.ivory.phase }, sable := f g.sable }
def updSeg (n : Nat) (f : Seg → Seg) (s : State) : State :=
  s.onMap fun m => { m with segs := put {} n (f (look {} n m.segs)) m.segs }

/-- Segments that are Live or Moving, with their current entries. -/
def liveSegs (s : State) : List (Nat × Entry) :=
  s.map.segs.filterMap fun e => let c := e.2.current; if c.state = .absent then none else some (e.1, c)
def liveCount (s : State) : Nat := (liveSegs s).length
def guardCount (s : State) : Nat := ((liveSegs s).filter (·.2.guarded)).length

def placeOf : Spread → Nat → Nat → Place
  | .broad, _, k => .broad k
  | .affine, q, k => .affine q k
  | .single, n, k => .single n k

def Place.number : Place → Nat
  | .broad p => p
  | .affine _ g => g
  | .single _ h => h
def Place.scopeNo : Place → Nat
  | .broad _ => 0
  | .affine q _ => q
  | .single n _ => n

/-! ### Stripe Guard sets (R241, R242) -/

/-- The set a slot is a member or the parity of, with its position. -/
def guardOf (s : State) (p : Place) : Option (GuardSet × Nat) :=
  s.map.guards.findSome? fun g =>
    if g.parity = p then some (g, 0) else (g.members.find? (·.2 = p)).map fun m => (g, m.1)

/-- Channel and frame of another sector of a stripe: the sector at position j of the stripe that holds the sector of
member channel gch, frame index f, of the slot at position i (R242). -/
def stripeMember (v : Variant) (i j gch f : Nat) (other : Place) : Nat × Nat :=
  let ch := gch % 64
  let m := (ch % 16 + 16 - i % 16) % 16
  (gch / 64 * 64 + ch / 16 * 16 + (m + j) % 16, (other.frames v).1 + f)

/-! ### Block words (R238) -/

/-- Channels of a slot, ascending. -/
def placeChannels (v : Variant) (p : Place) : List Nat := v.channels.filter fun g => p.inStack v (g / 64)

/-- Channel and word number of block β of a slot. -/
def blockWord (v : Variant) (p : Place) (β : Nat) : Nat × Nat :=
  let (f, n) := p.frames v
  let words := (placeChannels v p).flatMap fun g =>
    ((List.range n).map (f + ·)).filterMap fun x => if x % 32 = g % 32 then some (g, x / 32) else none
  let run := match p with
    | .single _ _ => 0
    | p => if v = .qz1536 then p.number % 3 else 0
  nth words (run * 64 + β) (0, 0)

/-- What a frame of a channel is part of: a live segment's slot or a move's target with the entry, or a parity slot. -/
def holderOf (s : State) (gch frame : Nat) : Option (Place × Option Entry) :=
  let covers := fun (p : Place) => p.inStack s.variant (gch / 64) &&
    let (f, n) := p.frames s.variant
    decide (f ≤ frame) && decide (frame < f + n)
  match (liveSegs s).find? fun x => covers x.2.place with
  | some x => some (x.2.place, some x.2)
  | none => match s.map.moves.find? fun m => covers m.target.place with
    | some m => some (m.target.place, some m.target)
    | none => (s.map.guards.find? fun g => covers g.parity).map fun g => (g.parity, none)

end Sys2Proof.Machine
end

