-- ==== Sys2Proof/Machine/Rows.lean ====
section
/-!
DEFINITION. Rows and sectors of a channel: where a frame lives (foster records), the row codeword as fetched and decoded
(R218 to R228), full-row units (R234), partial writes with their parity (R230 to R232), sector retirement (R222), and the
value of a sector with the writes still queued for it.
-/
namespace Sys2Proof.Machine

/-- A row of a slot: controller, logical channel, bank, row. -/
structure RowAt where
  c    : Nat
  gch  : Nat
  bank : Nat
  row  : Nat
  deriving DecidableEq, Repr

/-- The address word of a slot of a row (R217). -/
def RowAt.word (a : RowAt) (slot : Nat) : Nat := addressWord (a.gch % 64) a.row a.bank slot

/-! ### Foster redirection (R75) -/

/-- The record that covers a channel's frame. -/
def fosterOf (s : State) (gch frame : Nat) : Option Foster :=
  s.map.foster.find? fun r => r.src == gch && decide (r.first ≤ frame) && decide (frame < r.first + r.count)

/-- Where a frame is served: its foster frame where an active record covers it (R75; R345 step 3: each record becomes active
when its run is copied). A record also covers a foster frame that was re-homed in its turn (R76). -/
def home (s : State) (gch frame : Nat) : Nat × Nat := go s.map.foster.length gch frame
where
  go : Nat → Nat → Nat → Nat × Nat
    | 0, g, f => (g, f)
    | n + 1, g, f =>
      match fosterOf s g f with
      | none => (g, f)
      | some r => if r.copied.isNone then go n r.dst (r.dstFirst + (f - r.first)) else (g, f)

/-- The frame a foster frame stands for; itself where no record ends there. -/
def owner (s : State) (gch frame : Nat) : Nat × Nat := go s.map.foster.length gch frame
where
  go : Nat → Nat → Nat → Nat × Nat
    | 0, g, f => (g, f)
    | n + 1, g, f =>
      match s.map.foster.find? fun r => r.dst == g && decide (r.dstFirst ≤ f) && decide (f < r.dstFirst + r.count) with
      | none => (g, f)
      | some r => go n r.src (r.first + (f - r.dstFirst))

/-- A frame and every frame it stands for, through each record that ends there. -/
def stands (s : State) (gch frame : Nat) : List (Nat × Nat) := go s.map.foster.length gch frame
where
  go : Nat → Nat → Nat → List (Nat × Nat)
    | 0, g, f => [(g, f)]
    | n + 1, g, f => (g, f) :: match s.map.foster.find? fun r => r.dst == g && decide (r.dstFirst ≤ f) && decide (f < r.dstFirst + r.count) with
      | none => []
      | some r => go n r.src (r.first + (f - r.dstFirst))

/-- The row, bank and sector of a granule of a frame, from its home; none where it has none (R78). -/
def homeRow (s : State) (gch frame e byte : Nat) : Option (RowAt × Nat) :=
  let (g, f) := home s gch frame
  if s.map.gone.contains (g, f) then none else
  let a := cellAt f e byte
  (servingSlot s g).map fun c => (⟨c, g, a.bank, a.row⟩, a.sector)

/-- Where a write of a sector goes beside its own home: the destination of its frame, once the copy of a map-out has passed it
(R79 step 4, R345 step 3). -/
def alsoHome (s : State) (a : RowAt) (i : Nat) : Option (RowAt × Nat) :=
  let f := frameOfRow a.bank a.row + i / 64
  (fosterOf s a.gch f).bind fun r => match r.copied with
    | some k => if f - r.first < k then homeRow s r.dst (r.dstFirst + (f - r.first)) (i % 64 / 8) (i % 8 * 32) else none
    | none => none

/-! ### Slots of a row -/

/-- Stored slot number of a logical sector: its spare slot once retired (R222). -/
def slotOfSector (s : State) (a : RowAt) (i : Nat) : Nat :=
  match (chanAt s a.c).sectors.find? fun e => e.1 == a.bank && e.2.1 == a.row && e.2.2.1 == i with
  | some e => e.2.2.2
  | none => i

/-- A data sector as stored. -/
def storedSector (s : State) (a : RowAt) (i : Nat) : Slot := getSlot s a.c a.bank a.row (slotOfSector s a i)

/-- Accumulator that holds the row (R231). -/
def accumOf (s : State) (a : RowAt) : Option Accum :=
  (chanAt s a.c).accums.find? fun x => x.bank == a.bank && x.row == a.row && x.loaded

/-- Row strength from its parity slots; slot 129 when slot 128 fails its check (R221). -/
def rowStrength (s : State) (a : RowAt) : Nat :=
  match accumOf s a with
  | some x => x.strength
  | none =>
    let p := getSlot s a.c a.bank a.row 128
    if p.passes (a.word 128) then tagState p.tag else tagState (getSlot s a.c a.bank a.row 129).tag

/-- Parity bytes of a row: from its accumulator when one holds it (R224). -/
def rowParity (s : State) (a : RowAt) (st : Nat) : Bytes :=
  match accumOf s a with
  | some x => x.parity
  | none => (List.range (paritySlots st)).flatMap fun k => (getSlot s a.c a.bank a.row (128 + k)).data

/-- A parity slot's side band and check over its bytes (Table 8.2). -/
def paritySlot (s : State) (a : RowAt) (st k : Nat) (parity : Bytes) : Slot :=
  mkSlot (a.word (128 + k)) (slice parity (32 * k) 32) (tagWord false st (writeEpoch s a.gch) 6)

/-- Write the parity slots of a row. -/
def putParity (a : RowAt) (st : Nat) (parity : Bytes) (s : State) : State :=
  forEach (List.range (paritySlots st)) (fun k s => putSlot a.c a.bank a.row (128 + k) (paritySlot s a st k parity) s) s

/-- A row's data as fetched and decoded (R224 to R226). -/
structure RowRead where
  sectors  : List (Bytes × Nat)
  strength : Nat
  /-- Sectors whose check failed and that were corrected. -/
  fixed    : List Nat := []
  /-- Sectors not recovered by the decode. -/
  bad      : List Nat := []
  symbols  : Nat := 0
  failed   : Bool := false
  /-- Lanes in error, one entry per bit that differs from the corrected value (R331). -/
  lanes    : List Nat := []
  /-- Symbols the decode changed in a sector. -/
  perSector : List (Nat × Nat) := []
  deriving DecidableEq, Repr

/-- Lanes that carried the bits in which two 36-byte slots differ, SW16 applied (R214, R331). -/
def errorLanes (sw16 : Nat) (x y : Bytes) : List Nat :=
  (List.range 36).flatMap fun l =>
    let d := (nth x l 0 ^^^ nth y l 0).toNat
    let lane := if bits sw16 5 0 == l then 36 else if bits sw16 11 6 == l then 37 else l
    (List.range 8).filterMap fun b => if bit d b then some lane else none

/-- Decode a row from its 128 data slots as read, its parity slots as read, and the parity of the accumulator that holds it
(R224): errors alone, then erasures; the result stands only when every changed slot passes its stored check (R225). -/
def decodeRow (sw16 : Nat) (a : RowAt) (st : Nat) (slots par : List Slot) (held : Option Bytes) : RowRead :=
  let p := paritySymbols st
  let parity := held.getD (par.flatMap (·.data))
  let raw := slots.map fun x => (x.data, x.tag)
  let failing := (List.range 128).filter fun i => !(nth slots i {}).passes (a.word i)
  let badPar := if held.isSome then [] else
    (List.range (paritySlots st)).filter fun k => !(nth par k {}).passes (a.word (128 + k))
  let cw := toSymbols messageSymbols (messageBytes raw) ++ toSymbols p parity
  let erased := (failing.flatMap sectorSymbols ++ badPar.flatMap (paritySlotSymbols st)).eraseDups
  let change := fun (cw' : List Nat) => (List.range cw.length).filter fun j => nth cw j 0 != nth cw' j 0
  let stands := fun (cw' : List Nat) =>
    let ch := change cw'
    let m := ofSymbols messageBytesLen (cw'.take messageSymbols)
    let okSector := (List.range 128).all fun i =>
      !((sectorSymbols i).any ch.contains)
        || sectorCheck (a.word i) (slice m (34 * i) 32) (field m (34 * i + 32) 2) == (nth slots i {}).check
    let bytes := ofSymbols (32 * paritySlots st) (cw'.drop messageSymbols)
    let okParity := held.isSome || (List.range (paritySlots st)).all fun k =>
      let x := nth par k {}
      !((paritySlotSymbols st k).any ch.contains) || sectorCheck (a.word (128 + k)) (slice bytes (32 * k) 32) x.tag == x.check
    okSector && okParity
  let attempt := fun (e : List Nat) => match rsDecode p cw e with
    | some (c', _) => if stands c' then some c' else none
    | none => none
  let result := match attempt [] with
    | some c' => some c'
    | none => if erased.length ≤ p && !erased.isEmpty then attempt erased else none
  match result with
  | none => { sectors := raw, strength := st, bad := failing, failed := true }
  | some c' =>
    let m := ofSymbols messageBytesLen (c'.take messageSymbols)
    let ch := change c'
    let out := (List.range 128).map fun i => (slice m (34 * i) 32, field m (34 * i + 32) 2)
    { sectors := out, strength := st, fixed := failing, symbols := ch.length,
      lanes := (failing.flatMap fun i =>
        let v := nth out i ([], 0)
        errorLanes sw16 (nth slots i {}).bytes (mkSlot (a.word i) v.1 v.2).bytes)
        ++ badPar.flatMap fun k =>
          let x := nth par k {}
          let sound := mkSlot (a.word (128 + k)) (slice (ofSymbols (32 * paritySlots st) (c'.drop messageSymbols)) (32 * k) 32) x.tag
          errorLanes sw16 x.bytes sound.bytes,
      perSector := ((List.range 128).map fun i => (i, ((sectorSymbols i).filter ch.contains).length)).filter (·.2 != 0) }

/-- Fetch and decode a row as stored. -/
def readRow (s : State) (a : RowAt) : RowRead :=
  let st := rowStrength s a
  decodeRow (swAt s a.c 16) a st ((List.range 128).map (storedSector s a))
    ((List.range (paritySlots st)).map fun k => getSlot s a.c a.bank a.row (128 + k)) ((accumOf s a).map (·.parity))

/-- Whether any fetch of the row would escalate: some sector or parity check fails. -/
def rowClean (s : State) (a : RowAt) : Bool :=
  (List.range 128).all (fun i => (storedSector s a i).passes (a.word i))

/-- Parity bytes of a row to build on: those of its accumulator, or its parity slots where each passes its check, else the
parity of the decoded row (R232). -/
def soundParity (s : State) (a : RowAt) (st : Nat) : Bytes :=
  let passes := (List.range (paritySlots st)).all fun k => (getSlot s a.c a.bank a.row (128 + k)).passes (a.word (128 + k))
  if (accumOf s a).isSome || passes then rowParity s a st else
  let r := readRow s a
  if r.failed then rowParity s a st else pageParity st r.sectors

/-- The commands of a row that has been written whole: one ACT and its data and parity writes (R234). -/
def pushWritten (a : RowAt) (st : Nat) (s : State) : State :=
  updChan a.c (fun c => { c with next := c.next + 1, units := c.units ++
    [{ kind := .written, bank := a.bank, row := a.row, cmds := (List.range (128 + paritySlots st)).map Col.wr, stored := true,
       seq := c.next }] }) s

/-- Write a whole row as a full-row unit: every sector with its tag word and check, and the parity of the new data
(R234). The accumulator of the row, if any, is freed. -/
def writeRow (a : RowAt) (st : Nat) (sectors : List (Bytes × Nat)) (s : State) : State :=
  let s := updChan a.c (fun c => { c with accums := c.accums.filter fun x => !(x.bank == a.bank && x.row == a.row) }) s
  let s := forEach (List.range 128) (fun i s =>
    let v := nth sectors i (List.replicate 32 0, 0)
    putSlot a.c a.bank a.row (slotOfSector s a i) (mkSlot (a.word i) v.1 v.2) s) s
  putParity a st (pageParity st sectors) s

/-! ### Touched rows -/

/-- A sector of zeros. -/
def zeroSector : Bytes × Nat := (List.replicate 32 0, 0)

/-- The strength a row takes when it is initialised (R221, R254). -/
def initStrength (s : State) (a : RowAt) (asked : Nat) : Nat :=
  if isMetaRow a.bank a.row then 3 else if inSlate s (quadOf a.gch) then 1 else asked

/-- Slots that hold a row's copies: while a channel-sparing copy runs, rows below its cursor are in both (R344). -/
def copiesOf (s : State) (a : RowAt) : List RowAt :=
  match s.rehomes.find? fun h => h.kind == 1 && h.gch == a.gch with
  | some h => match h.dest with
    | some d => if a.bank * 4096 + a.row < h.cursor then [{ a with c := h.source }, { a with c := d }] else [{ a with c := h.source }]
    | none => [a]
  | none => [a]

/-- Stripe Guard state of a frame's data sectors: 1 guarded, 3 parity (Table 8.2). -/
def frameGuard (s : State) (gch frame : Nat) : Nat :=
  let (g, y) := owner s gch frame
  match holderOf s g y with
  | some (_, some e) => b2n e.guarded
  | some (_, none) => 3
  | none => 0

/-- Initialise an untouched row with given sectors, the rest zero as the complex writes them, and set its touch bit (R72). -/
def initRow (a : RowAt) (asked : Nat) (given : List (Nat × Bytes × Nat)) (s : State) : State :=
  let fill := fun (j : Nat) => (zeroSector.1, tagWord false (frameGuard s a.gch (frameOfRow a.bank a.row + j)) (writeEpoch s a.gch) 6)
  let fills := [fill 0, fill 1]
  let sectors := (List.range 128).map fun i =>
    match given.find? (·.1 == i) with
    | some e => e.2
    | none => nth fills (i / 64) zeroSector
  let st := initStrength s a asked
  setTouch a.gch a.bank a.row (forEach (copiesOf s a) (fun b s => writeRow b st sectors s) s)

/-- Row index of a cursor. -/
def rowIndex (bank row : Nat) : Nat := bank * 4096 + row

/-- Touched rows of lost channels that a row stands for and that are not rebuilt yet (R246, R247): channel, bank, row. The
row itself where its channel is rebuilt into a spare slot, the rows whose frames it fosters where not. -/
def unbuilt (s : State) (a : RowAt) : List (Nat × Nat × Nat) :=
  if !(s.rehomes.any fun h => h.kind == 2) then [] else
  let due := fun (g bank row : Nat) => touched s g bank row && s.rehomes.any fun h =>
    h.kind == 2 && h.gch == g && decide (h.cursor ≤ rowIndex bank row) && !h.ahead.contains (rowIndex bank row)
  let f := frameOfRow a.bank a.row
  let kept := fun (g f : Nat) => s.rehomes.any fun h => h.gch == g && h.kept.any fun k => decide (k.1 ≤ f) && decide (f < k.1 + k.2)
  let rows := (([f, f + 1].flatMap (stands s a.gch)).filter fun x => !kept x.1 x.2).map fun x =>
    let c := cellAt x.2 0 0
    (x.1, c.bank, c.row)
  rows.eraseDups.filter fun r => due r.1 r.2.1 r.2.2

/-- A sector's corrected value: as stored when its check passes, as decoded when not; none when uncorrectable. -/
def soundSector (s : State) (a : RowAt) (i : Nat) : Option (Bytes × Nat) :=
  let x := storedSector s a i
  if !(unbuilt s a).isEmpty then none
  else if x.passes (a.word i) then some (x.data, x.tag)
  else
    let r := readRow s a
    if r.bad.contains i then none else some (nth r.sectors i zeroSector)

/-- Write one sector of a touched row of one slot and its parity, in the accumulator that holds the row or in the parity
slots (R230, R232). -/
def putSector (a : RowAt) (i : Nat) (new : Bytes × Nat) (s : State) : State :=
  let st := rowStrength s a
  let old := (soundSector s a i).getD (let x := storedSector s a i; (x.data, x.tag))
  let delta := parityDelta st i old new
  let parity := soundParity s a st
  let s := putSlot a.c a.bank a.row (slotOfSector s a i) (mkSlot (a.word i) new.1 new.2) s
  match accumOf s a with
  | some _ =>
    updChan a.c (fun c => { c with accums := c.accums.map fun x =>
      if x.bank == a.bank && x.row == a.row then { x with parity := xorBytes x.parity delta, dirty := true } else x }) s
  | none => putParity a st (xorBytes parity delta) s

/-- The value a queued write entry leaves, over a prior value (R119, R147, R229, R235). -/
def applySect (old : Bytes × Nat) (e : Sect) : Bytes × Nat :=
  let lay := fun (f : Byte → Byte → Byte) =>
    (List.range 32).map fun k => if bit e.mask k then f (nth old.1 k 0) (nth e.data k 0) else nth old.1 k 0
  match e.act with
  | .write =>
    let whole := e.mask == 2 ^ 32 - 1
    let poison := e.poison || (!whole && tagPoison old.2)
    (if poison then List.replicate 32 0 else lay fun _ n => n, tagWord poison e.guard e.epoch e.writer)
  | .xor => (lay (· ^^^ ·), tagWord (tagPoison old.2 != e.poison) e.guard e.epoch e.writer)
  | _ => old

/-- The sector's write entries in a controller's queue, oldest first. -/
def queuedWrites (s : State) (a : RowAt) (i : Nat) : List Sect :=
  (chanAt s a.c).writes.filter fun e => e.bank == a.bank && e.row == a.row && e.slot == i

/-- A sector's value with every queued write applied: what a read entering now returns (R102, R146). None when the stored
sector is uncorrectable and no queued write covers it whole. -/
def currentSector (s : State) (a : RowAt) (i : Nat) : Option (Bytes × Nat) :=
  let q := queuedWrites s a i
  let base := if touched s a.gch a.bank a.row then soundSector s a i else some zeroSector
  match base with
  | some v => some (q.foldl applySect v)
  | none =>
    if q.any (fun e => e.act == .write && e.mask == 2 ^ 32 - 1) then some (q.foldl applySect zeroSector) else none

/-! ### Sectors of a segment; reconstruction (R242, R246) -/

/-- A sector of a segment at a slot: its row there. -/
def segSector (s : State) (p : Place) (G k : Nat) : Option (RowAt × Nat) :=
  let g := interleave s.variant p G
  homeRow s g.gch g.frame g.e (32 * k)

/-- XOR entries for a sector that are on their way to its controller. -/
def comingXors (s : State) (a : RowAt) (i : Nat) : List Sect :=
  s.tree.units.flatMap fun u => if u.slot != a.c then [] else
    u.sects.filter fun e => e.act == .xor && e.bank == a.bank && e.row == a.row && e.slot == i

/-- A sector's stored value from its settled one: the XOR entries still queued or on their way are taken out again (R235). -/
def unsettled (s : State) (a : RowAt) (i : Nat) (v : Bytes × Nat) : Bytes × Nat :=
  let xs := (queuedWrites s a i).filter (·.act == .xor) ++ comingXors s a i
  let w := xs.foldl applySect v
  (w.1, tagWord (tagPoison w.2) (tagState v.2) (writeEpoch s a.gch) 6)

/-- A sector's value with every write of it and every XOR entry for it taken in, so that a stripe's 16 agree (R243). -/
def settledSector (s : State) (a : RowAt) (i : Nat) : Option (Bytes × Nat) :=
  (currentSector s a i).map fun v => (comingXors s a i).foldl applySect v

/-- The set and position of a slot, with the other 15 sectors of a sector's stripe as rows; none for one without a home. -/
def stripeOthers (s : State) (p : Place) (gch frame e byte : Nat) : Option (Nat × List (Option (RowAt × Nat))) :=
  (guardOf s p).map fun (g, i) =>
    let f := frame - (p.frames s.variant).1
    (i, (((0, g.parity) :: g.members).filter fun m => m.1 != i).map fun m =>
      let (c, fr) := stripeMember s.variant i m.1 gch f m.2
      homeRow s c fr e byte)

/-- Recover the sector at a channel, frame and byte of a slot of a parity set from the other 15 of its stripe: data, and
poison from the members' bits (R246, R247): its value with every XOR entry for it taken in. None in Slate mode (R254). -/
def reconstructAt (s : State) (p : Place) (gch frame e byte : Nat) : Option (Bytes × Bool) :=
  match stripeOthers s p gch frame e byte with
  | none => none
  | some (i, others) =>
    if inSlate s (quadOf gch) then none else
    let sum := others.foldl (fun acc m =>
      match acc, m.bind fun x => settledSector s x.1 x.2 with
      | some (d, po), some v => some (xorBytes d v.1, po != tagPoison v.2)
      | _, _ => none) (some (List.replicate 32 0, false))
    sum.map fun x => if x.2 && i ≠ 0 then (List.replicate 32 0, true) else x

/-- A sector of an uncorrectable row from its stripe (R228), as stored: XOR entries that wait for it still apply. -/
def stripeValue (s : State) (a : RowAt) (i : Nat) : Option (Bytes × Nat) :=
  let (g, y) := owner s a.gch (frameOfRow a.bank a.row + i / 64)
  let ask := fun (p : Place) (st : Nat) =>
    (reconstructAt s p g y (i % 64 / 8) (i % 8 * 32)).map fun (d, po) =>
      unsettled s a i (d, tagWord po st (writeEpoch s a.gch) 6)
  match holderOf s g y with
  | some (p, some e) => if e.guarded then ask p 2 else none
  | some (p, none) => ask p 3
  | none => none

/-- Touched members and parity of a sector's stripe, which its reconstruction reads (R246). -/
def stripeReads (s : State) (a : RowAt) (i : Nat) : List (RowAt × Nat) :=
  let (g, y) := owner s a.gch (frameOfRow a.bank a.row + i / 64)
  match holderOf s g y with
  | none => []
  | some (p, _) => match stripeOthers s p g y (i % 64 / 8) (i % 8 * 32) with
    | none => []
    | some (_, others) => (others.filterMap id).filter fun x => touched s x.1.gch x.1.bank x.1.row

/-- A poisoned sector of a row, with the Stripe Guard state of its frame (R229, R242). -/
def poisonCell (s : State) (a : RowAt) (i : Nat) : Bytes × Nat :=
  (List.replicate 32 0, tagWord true (frameGuard s a.gch (frameOfRow a.bank a.row + i / 64)) (writeEpoch s a.gch) 6)

/-- The sectors of a row as it is written whole: what was read or decoded, what its stripe gives, else poison (R228, R229,
R232). -/
def rescuedCells (s : State) (a : RowAt) (r : RowRead) : List (Bytes × Nat) :=
  r.sectors.zipIdx.map fun x =>
    if !r.bad.contains x.2 then x.1 else
    (stripeValue s a x.2).getD (poisonCell s a x.2)

/-- A sector's value before a write: with its queued writes, as its stripe gives it where the row cannot be decoded, zero
where nothing does. -/
def priorSector (s : State) (a : RowAt) (i : Nat) : Bytes × Nat :=
  ((currentSector s a i).or ((stripeValue s a i).map fun v => (queuedWrites s a i).foldl applySect v)).getD zeroSector

/-- Recover a guarded sector of a segment's granule. -/
def reconstruct (s : State) (p : Place) (G k : Nat) : Option (Bytes × Bool) :=
  let x := interleave s.variant p G
  reconstructAt s p x.gch x.frame x.e (32 * k)

/-- A sector of a segment as a read returns it: as stored or decoded, else reconstructed where it is guarded (R228). -/
def segValue (s : State) (p : Place) (guarded : Bool) (G k : Nat) : Option (Bytes × Nat) :=
  ((segSector s p G k).bind fun x => currentSector s x.1 x.2).or
    (if guarded then (reconstruct s p G k).map fun x => (x.1, tagWord x.2 2 (writeEpoch s (interleave s.variant p G).gch) 6) else none)

/-- A block's CRC-32C from the segment's data as a read returns it: poisoned and lost sectors as zeros (R237). -/
def blockSumOf (s : State) (p : Place) (β : Nat) : Nat :=
  let guarded := (guardOf s p).isSome
  crc32c ((List.range 256).flatMap fun g => (List.range 8).flatMap fun k =>
    match segValue s p guarded (256 * β + g) k with
    | some v => if tagPoison v.2 then List.replicate 32 0 else v.1
    | none => List.replicate 32 0)

/-- A shadow word as its block gives it: zero where no live slot with block sum owns it. -/
def shadowWord (s : State) (gch w : Nat) : Nat :=
  if 16128 ≤ w then 0 else
  match holderOf s gch (32 * w + gch % 32) with
  | some (p, some e) => if !e.blockSum then 0 else
    match (List.range 64).find? fun b => blockWord s.variant p b == (gch, w) with
    | some b => blockSumOf s p b
    | none => 0
  | _ => 0

/-- A sector of a lost channel as the rebuild writes it (R246, R247), and whether it was reconstructed (1) or poisoned
(2). -/
def rebuiltSector (s : State) (gch frame e byte : Nat) : (Bytes × Nat) × Nat :=
  let ep := writeEpoch s gch
  let none_ := ((List.replicate 32 (0 : Byte), tagWord false 0 ep 6), 0)
  let stored := fun (v : Bytes × Nat) => match homeRow s gch frame e byte with
    | some (a, i) => unsettled s a i v
    | none => v
  let stripe := fun (p : Place) (g f st : Nat) => match reconstructAt s p g f e byte with
    | some (d, po) => (stored (d, tagWord po st ep 6), 1)
    | none => ((List.replicate 32 0, tagWord true st ep 6), 2)
  let (g, f) := owner s gch frame
  if 524256 ≤ f then
    let w := ((f - 524256) * 2048 + e * 256 + byte) / 4
    (stored ((List.range 8).flatMap fun i => leBytes 4 (shadowWord s g (w + i)), tagWord false 0 ep 6), 0)
  else match holderOf s g f with
    | none => none_
    | some (p, some x) => if x.guarded then stripe p g f 2 else ((List.replicate 32 0, tagWord true 0 ep 6), 2)
    | some (p, none) => stripe p g f 3

/-- Strength a rebuilt row takes: the strongest of the slots its frames belong to (R221). -/
def rebuiltStrength (s : State) (gch bank row : Nat) : Nat :=
  let f := frameOfRow bank row
  [f, f + 1].foldl (fun m x =>
    let (g, y) := owner s gch x
    match holderOf s g y with
    | some (_, some e) => Nat.max m e.strength
    | some (p, none) => match (s.map.guards.find? fun k => k.parity = p) with
      | some k => (liveSegs s).foldl (fun m x => if k.members.any (·.2 = x.2.place) then Nat.max m x.2.strength else m) m
      | none => m
    | none => m) 0

/-- Retired sectors in a slot's row: spare slot numbers in use. -/
def sparesUsed (s : State) (a : RowAt) : List Nat :=
  (chanAt s a.c).sectors.filterMap fun e => if e.1 == a.bank && e.2.1 == a.row then some e.2.2.2 else none

/-- The strength a touched row takes for a write whose segment names one: never less than it has, and no further than its
retired sectors leave room. -/
def strengthFor (s : State) (a : RowAt) (want : Nat) : Nat :=
  let st := rowStrength s a
  let used := sparesUsed s a
  let fits := fun (k : Nat) => used.all fun u => decide (128 + paritySlots k ≤ u)
  (greatestBelow (fun k => decide (st ≤ k) && (k == st || fits k)) (want + 1)).getD st

/-- Write a frame's sectors at a home whole: the full-row unit of the row that holds it, with the row's other frame as it
stands (R234). -/
def writeFrame (a : RowAt) (i0 st : Nat) (mine : List (Bytes × Nat)) (s : State) : State :=
  if touched s a.gch a.bank a.row then
    let r := readRow s a
    let w := strengthFor s a st
    let old := rescuedCells s a r
    pushWritten a w (writeRow a w (old.take i0 ++ mine ++ old.drop (i0 + 64)) s)
  else pushWritten a (initStrength s a st) (initRow a st (mine.zipIdx.map fun x => (i0 + x.2, x.1)) s)

/-- Write the two frames of a row, each at its home; a frame without a home is lost (R78), and one that a map-out had copied
before stays as it is. -/
def writeHomes (g bank row st : Nat) (v : List (Bytes × Nat)) (s : State) : State :=
  let f := frameOfRow bank row
  let kept := fun (f : Nat) => s.rehomes.any fun h => h.gch == g && h.kept.any fun k => decide (k.1 ≤ f) && decide (f < k.1 + k.2)
  forEach ((List.range 2).filter fun j => !kept (f + j)) (fun j s =>
    match homeRow s g (frameOfRow bank row + j) 0 0 with
    | none => s
    | some (a, i0) => writeFrame a i0 st ((v.drop (64 * j)).take 64) s) s

/-- Rebuild a row of a lost channel at its new home, with full-row units into a spare slot or into the rows of its foster
frames. -/
def rebuildRow (r : Nat × Nat × Nat) (s : State) : State :=
  let (g, bank, row) := r
  let f := frameOfRow bank row
  let cells := (List.range 128).map fun i => rebuiltSector s g (f + i / 64) (i % 64 / 8) (i % 8 * 32)
  let n := (cells.filter (·.2 == 1)).length
  let po := (cells.filter (·.2 == 2)).length
  let st := rebuiltStrength s g bank row
  let idx := rowIndex bank row
  let s := s.onRehomes fun l => l.map fun h => if h.kind == 2 && h.gch == g then
    { h with ahead := h.ahead ++ [idx], rebuilt := h.rebuilt + n, poisoned := h.poisoned + po,
             made := h.made ++ ((List.range 128).filter fun i => (nth (cells.map (·.2)) i 0) == 1).map (idx, ·) } else h
  match servingSlot s g with
  | some c =>
    let a : RowAt := ⟨c, g, bank, row⟩
    let w := initStrength s a st
    pushWritten a w (writeRow a w (cells.map (·.1)) s)
  | none => writeHomes g bank row st (cells.map (·.1)) s

/-- Rebuild what a row stands for before anything uses it (R246: reads are served from the stripe, writes wait for the
rebuild of their row). -/
def ensureBuilt (a : RowAt) (s : State) : State := forEach (unbuilt s a) rebuildRow s

/-! ### Strength (R221) -/

/-- A row lies below the strength of a segment of one of its frames (object 0x4051). -/
def belowStrength (s : State) (g bank row : Nat) : Bool :=
  touched s g bank row && match servingSlot s g with
    | some c => decide (rowStrength s ⟨c, g, bank, row⟩ < rebuiltStrength s g bank row)
    | none => false

/-- A raise of a row from one strength to another, for a write that asked for more: notice 0x4030 when it stops short (R221). A
row that cannot be raised at all is reported once, until a later write raises it, reaches its strength or initialises it (DESIGN
CHOICE, assumption 107). -/
def sayShort (a : RowAt) (st top want : Nat) (s : State) : State :=
  let key := (a.gch, a.bank, a.row)
  let rest := s.codec.short.filter (· != key)
  if want ≤ top then s.onCodec fun c => { c with short := rest }
  else if top = st && s.codec.short.contains key then s else
  notify (.med (Fin.ofNat 4 (quadOf a.gch))) 0x4030 1
    (leBytes 2 a.gch ++ leBytes 1 a.bank ++ leBytes 2 a.row ++ leBytes 1 top ++ leBytes 1 want)
    (s.onCodec fun c => { c with short := key :: rest })

/-- Raise a touched row to the strength a write's segment names, or as far as its retired sectors leave room: the parity
slots of the new strength are written, over the decoded row (R221). -/
def raiseStrength (a : RowAt) (want : Nat) (s : State) : State :=
  let st := rowStrength s a
  if want ≤ st || isMetaRow a.bank a.row || inSlate s (quadOf a.gch) then s else
  let top := strengthFor s a want
  let s := if top > st then
      let r := readRow s a
      if r.failed then s else
      putParity a top (pageParity top r.sectors)
        (updChan a.c (fun c => { c with accums := c.accums.filter fun x => !(x.bank == a.bank && x.row == a.row) }) s)
    else s
  sayShort a st top want s

/-- Store a sector at one home at once: see `storeSector`. -/
def storeHere (a : RowAt) (i : Nat) (want : Nat) (f : Bytes × Nat → Bytes × Nat) (s : State) : State :=
  let s := ensureBuilt a s
  let prior := priorSector s a i
  let s := forEach (copiesOf s a) (fun b s => updChan b.c (fun c => { c with writes := c.writes.filter fun e =>
    !(e.bank == a.bank && e.row == a.row && e.slot == i) }) s) s
  if touched s a.gch a.bank a.row then
    forEach (copiesOf s a) (fun b s =>
      if (soundSector s b i).isSome then putSector b i (f prior) (raiseStrength b want s)
      else
        let r := readRow s b
        writeRow b r.strength ((rescuedCells s b r).set i (f prior)) s) s
  else initRow a want [(i, f prior)] s

/-- Store a sector of a channel at once, behind the writes already queued for it: initialises an untouched row, raises
its strength, keeps parity, in every slot that holds the row, and at the destination of a map-out that has copied its frame.
Queued entries of the sector are applied first. -/
def storeSector (a : RowAt) (i : Nat) (want : Nat) (f : Bytes × Nat → Bytes × Nat) (s : State) : State :=
  let t := storeHere a i want f s
  match alsoHome s a i with
  | some (b, j) => storeHere b j want f t
  | none => t

/-! ### Sector retirement (R222) -/

/-- Highest spare slot of a row that its strength and its retired sectors leave free. -/
def freeSpare (s : State) (a : RowAt) : Option Nat :=
  let used := sparesUsed s a
  let low := 128 + paritySlots (rowStrength s a)
  greatestBelow (fun k => decide (low ≤ k) && !used.contains k) 136

/-- Copy a sector to a spare slot of its row and enter the map; false when no spare slot or map entry is free, with
notice 0x4041. -/
def retireSector (a : RowAt) (i : Nat) (v : Bytes × Nat) (s : State) : State × Bool :=
  let full := decide (64 ≤ (chanAt s a.c).sectors.length)
  let body := leBytes 2 a.gch ++ leBytes 1 a.bank ++ leBytes 2 a.row
  let die := Die.med (Fin.ofNat 4 (quadOf a.gch))
  match freeSpare s a, full with
  | some k, false =>
    let s := updChan a.c (fun c => { c with sectors := c.sectors ++ [(a.bank, a.row, i, k)] }) s
    let s := putSlot a.c a.bank a.row k (mkSlot (a.word i) v.1 v.2) s
    let s := ledger 0x07 (leBytes 2 a.gch ++ leBytes 1 (a.c % 66) ++ leBytes 1 a.bank ++ leBytes 2 a.row ++ leBytes 1 i ++ leBytes 1 k) s
    (notify die 0x4040 0 (body ++ leBytes 1 i ++ leBytes 1 k) s, true)
  | none, _ => (notify die 0x4041 1 (body ++ [1]) s, false)
  | _, true => (notify die 0x4041 1 (body ++ [2]) s, false)

end Sys2Proof.Machine
end

