-- ==== Sys2Proof/Machine/Segments.lean ====
section
/-!
DEFINITION. The segment map: entries in two banks, the allocator, Stripe Guard sets, block words, writes into a segment's
slot with their parity and block sums, moves, freeing, foster allocation (chapter 3, R237 to R245).
-/
namespace Sys2Proof.Machine

/-! ### Allocation (R62, R63, R71, R77) -/

/-- Channels mapped out since first start: m of R77. -/
def mapOuts (s : State) : Nat := s.map.mapped.length
/-- Exported budget (R77). -/
def budget (s : State) : Nat := s.variant.exported - 256 * mapOuts s
/-- Charge in segments of so many live and so many guarded segments (R71). -/
def chargeOf (live guards : Nat) : Nat := ceilDiv (15 * live + guards) 15

/-- Slots that hold frames: live, targets of moves, parity slots, slots not yet returned. -/
def usedPlaces (s : State) : List Place :=
  (liveSegs s).map (·.2.place) ++ s.map.moves.map (·.target.place) ++ s.map.guards.map (·.parity) ++ s.map.freed.map (·.place)

/-- A slot covers a withdrawn frame (R77). -/
def withdrawn (s : State) (p : Place) : Bool :=
  let (f, n) := p.frames s.variant
  decide (dataFrames - 256 * mapOuts s < f + n) && decide (0 < mapOuts s)

/-- A free slot of a kind in a quadrant or stack (R63): broad from the lowest number up, the others from the highest down;
in QZ-1536 a triad that holds a live slot first. A triad with the target of a running move counts as one that holds a live slot
(DESIGN CHOICE, assumption 108). `extra` names slots about to be used. -/
def allocate (s : State) (extra : List Place) (sp : Spread) (scope : Nat) : Option Place :=
  let v := s.variant
  let used := extra ++ usedPlaces s
  let free := fun (k : Nat) => let p := placeOf sp scope k; !withdrawn s p && used.all fun u => !p.overlaps v u
  let count := slotCount v sp
  let triads := v = .qz1536 && sp ≠ .single
  let live := ((liveSegs s).map (·.2.place)).filter fun p => p.spread = sp && p.scopeNo = scope
  let targets := (s.map.moves.map (·.target.place)).filter fun p => p.spread = sp && p.scopeNo = scope
  let opened := (live ++ targets).flatMap fun p => let t := p.number / 3; [3 * t, 3 * t + 1, 3 * t + 2]
  let cands := opened.filter fun k => decide (k < count) && free k
  let fresh := fun (k : Nat) => let t := k / 3; free (3 * t) && free (3 * t + 1) && free (3 * t + 2)
  let pick := if triads then
      match sp with
      | .broad => match bestOf (fun a b => decide (a < b)) cands with
        | some k => some k
        | none => (leastFrom (fun t => fresh (3 * t)) (count / 3) 0).map (3 * ·)
      | _ => match bestOf (fun a b => decide (b < a)) cands with
        | some k => some k
        | none => (greatestBelow (fun t => fresh (3 * t)) (count / 3)).map (3 * · + 2)
    else match sp with
      | .broad => leastFrom free count 0
      | _ => greatestBelow free count
  pick.map (placeOf sp scope)

/-! ### Stripe Guard sets (R241, R242) -/

/-- Lowest free position of a set. -/
def freePosition (g : GuardSet) : Option Nat := leastFrom (fun i => g.members.all (·.1 != i)) 15 1

/-- Join a slot to the lowest-numbered set of its kind and scope with room, or begin a new set with a parity slot; none
when no parity slot is free. -/
def joinGuard (p : Place) (s : State) : Option State :=
  let scope := placeOf p.spread p.scopeNo 0
  let room := s.map.guards.filter fun g => g.scope = scope && (freePosition g).isSome
  match bestOf (fun (a b : GuardSet) => decide (a.num < b.num)) room with
  | some g =>
    let i := (freePosition g).getD 15
    some (s.onMap fun m => { m with guards := m.guards.map fun x => if x.num = g.num then { x with members := x.members ++ [(i, p)] } else x })
  | none =>
    (allocate s [p] p.spread p.scopeNo).map fun par =>
      let num := (leastFrom (fun i => s.map.guards.all (·.num != i)) (s.map.guards.length + 1) 0).getD 0
      s.onMap fun m => { m with guards := m.guards ++ [{ num := num, parity := par, members := [(1, p)], scope := scope }] }

/-- A member leaves its set; the parity slot goes to the allocator with its last member. -/
def leaveGuard (p : Place) (s : State) : State :=
  s.onMap fun m =>
    let gs := m.guards.map fun g => { g with members := g.members.filter (·.2 ≠ p) }
    { m with guards := gs.filter (fun g => !g.members.isEmpty),
             freed := m.freed ++ (gs.filter (fun g => g.members.isEmpty)).map fun g => { place := g.parity } }

/-- Row, sector and byte of a shadow word. -/
def blockCell (s : State) (gch w : Nat) : Option (RowAt × Nat × Nat) :=
  let byte := 4 * w % 2048
  (homeRow s gch (524256 + 4 * w / 2048) (byte / 256) (byte % 256)).map fun x => (x.1, x.2, byte % 32)

/-- A block word as read. -/
def readBlockWord (s : State) (p : Place) (β : Nat) : Nat :=
  let (g, w) := blockWord s.variant p β
  match blockCell s g w with
  | some (a, i, o) => field ((currentSector s a i).getD zeroSector).1 o 4
  | none => 0

/-- The CRC-32C of 65,536 zero bytes (R239). -/
def zeroBlockSum : Nat := crc32c (List.replicate 65536 0)

/-- Store a block word. -/
def storeBlockWord (p : Place) (β : Nat) (f : Nat → Nat) (s : State) : State :=
  let (g, w) := blockWord s.variant p β
  match blockCell s g w with
  | none => s
  | some (a, i, o) =>
    if inSlate s (quadOf a.gch) then s else
    storeSector a i 3 (fun v =>
      let new := leBytes 4 (f (field v.1 o 4))
      (v.1.take o ++ new ++ v.1.drop (o + 4), tagWord (tagPoison v.2) 0 (writeEpoch s a.gch) 6)) s

/-! ### Invalidations (R315, R318) -/

/-- Number of the invalidation that a change of a replica segment sends: none where no sharer holds it, or FP sends nothing. -/
def invalidMark (s : State) (seg : Nat) : Option Nat :=
  if look 0 seg s.map.sharers = 0 || (portAt s 4).mute then none else some (portAt s 4).noticeSeq

/-- Send notice 0x8040 on FP's response channel for a range of a replica segment whose mask is not zero. -/
def invalidate (seg off len : Nat) (s : State) : State :=
  let mask := look 0 seg s.map.sharers
  let m := invalidMark s seg
  if mask = 0 then s else
  let body := noticeBody { code := 0x8040, stamp := hubStamp s, seq := (portAt s 4).noticeSeq,
                           payload := leBytes 4 seg ++ leBytes 4 off ++ leBytes 4 len ++ leBytes 8 mask } false
  let s := s.onFabric fun f => { f with totals := f.totals.modify 4 (· + 1) }
  let s := updPort 4 (fun d => { d with noticeSeq := d.noticeSeq + 1 }) s
  respond 4 { kind := 8, tag := 0x8040, data := body, mark := m } s

/-- Drop a segment's sharers after an invalidation of the whole segment, which the command's response follows. -/
def dropSharers (seg : Nat) (s : State) : State :=
  let m := invalidMark s seg
  ((invalidate seg 0 (2 ^ 22) s).onMap fun m => { m with sharers := put 0 seg 0 m.sharers }).onFabric fun f =>
    { f with commandMark := m.or f.commandMark }

/-! ### Freeing and moves (R69, R74, R79, R80) -/

/-- Requests that looked a segment up and are not finished. -/
def lookedUp (s : State) (seg : Nat) : List Nat :=
  (s.reqs.filter fun r => r.seg = seg && !r.parts.isEmpty).map (·.id)

/-- Put a slot on its way back to the allocator; a move's flip names the entry that takes its place. -/
def freePlace (p : Place) (e : Entry) (seg : Nat) (next : Option Entry) (s : State) : State :=
  let w := lookedUp s seg
  s.onMap fun m => { m with freed := m.freed ++ [{ place := p, retire := e.guarded, seg := seg, waits := w, entry := e, next := next }] }

/-- Abandon a move: the target slot is freed, notice 0x2021. Cause 1 Free, 2 host Move. -/
def abandonMove (seg cause : Nat) (s : State) : State :=
  match s.map.moves.find? (·.seg = seg) with
  | none => s
  | some mv =>
    let s := s.onMap fun m => { m with moves := m.moves.filter (·.seg ≠ seg) }
    let s := freePlace mv.target.place mv.target seg none s
    let s := updSeg seg (Seg.setBoth fun e => if e.state = .moving then { e with state := .live } else e) s
    notify .hub 0x2021 0 (leBytes 4 seg ++ leBytes 1 cause) s

/-- Whether a foster record covers a frame of a slot (R75). -/
def slotFostered (s : State) (p : Place) : Bool :=
  let (f, n) := p.frames s.variant
  s.map.foster.any fun r => p.inStack s.variant (r.src / 64) && decide (r.first < f + n) && decide (f < r.first + r.count)

/-- Write Z to a slot's 64 block words (R239). -/
def clearBlockWords (p : Place) (s : State) : State :=
  let z := zeroBlockSum
  forEach (List.range 64) (fun β s => storeBlockWord p β (fun _ => z) s) s

/-- Start a move to an entry at a chosen slot: both copies Moving, the source current (R79 step 1). -/
def startMove (seg : Nat) (target : Entry) (cause : Nat) (s : State) : State :=
  let cur := curEntry s seg
  let t := { target with state := .moving, fostered := slotFostered s target.place }
  let s := updSeg seg (fun g =>
    let c := { g.current with state := .moving }
    if g.ivory.phase then { ivory := { t with phase := true }, sable := c } else { ivory := { c with phase := false }, sable := t }) s
  let s := s.onMap fun m => { m with moves := m.moves ++ [{ seg := seg, cause := cause, source := cur.place, target := t }] }
  if t.blockSum then clearBlockWords t.place s else s

/-! ### Judging a request against its entry (R190 to R193) -/

/-- Refill an entry's balances at a boundary (R190). -/
def refill (w : Nat) (x : RegEntry) : RegEntry :=
  let low := fun (b : Rat) => if b < 0 then b else 0
  { x with br := if x.credit then x.br else low x.br + x.eff * w / 1000,
           bt := if x.cap = 0 then x.bt else low x.bt + x.cap * w / 1000 }

/-- An entry with the balances of the window that a hub time lies in: boundaries passed since its last charge count (R49,
R190). -/
def atWindow (w now : Nat) (x : RegEntry) : RegEntry :=
  let t := now / w * w
  if t ≤ x.win then x else { (List.range ((t - x.win) / w)).foldl (fun x _ => refill w x) x with win := t }

/-- Effective urgency of an entry (R197, R198). -/
def urgencyOf (s : State) (e : Nat) : Nat :=
  if e < 32 then
    let u := nth s.reg.urgency e {}
    if u.chatter then 0 else if u.demoted then 1 else u.level
  else if e < 40 then nth s.reg.fpUrg (e - 32) 1
  else nth s.reg.engUrg (e - 40) 0

/-- Excess service class and whether the cap is suspended (Table 7.2). -/
def excessClass (u : Nat) : Nat × Bool := if u = 3 then (2, true) else (u, false)

/-- Credit of an entry in credit mode (R193). -/
def creditOf (s : State) (e : RegEntry) : Rat :=
  let c : Rat := e.eff * ((s.clk.hub : Rat) - e.v) / 1000
  if c ≤ e.burst then c else e.burst

/-- A balance never falls below −4,096 B (R190). -/
def floorBalance (x : Rat) : Rat := if x < -4096 then -4096 else x

/-- The class a head is released at and its entry's balances after its charge; none when it waits (R191, R193). -/
def judge (s : State) (e charge : Nat) : Option (Nat × RegEntry) :=
  let x := atWindow s.reg.w s.clk.hub (entryAt s e)
  let (cls, suspended) := excessClass (urgencyOf s e)
  let taxed := fun (x : RegEntry) => if x.cap = 0 then x else { x with bt := floorBalance (x.bt - charge) }
  let reserved := if x.credit then decide (0 < creditOf s x) else decide (0 < x.br)
  if reserved then
    let x := if x.credit then
        let t : Rat := s.clk.hub
        let low := t - x.burst * 1000 / x.eff
        { x with v := (if low ≤ x.v then x.v else low) + charge * 1000 / x.eff }
      else { x with br := floorBalance (x.br - charge) }
    some (3, taxed x)
  else if suspended then some (cls, x)
  else if x.cap = 0 then some (cls, x)
  else if 0 < x.bt then some (cls, taxed x)
  else none

/-! ### The end of a move (R79) -/

/-- Make the target of a move current and Live and free the source (R79 step 6, R244). -/
def finishMove (seg : Nat) (s : State) : State :=
  match s.map.moves.find? (·.seg = seg) with
  | none => s
  | some mv =>
    let old := curEntry s seg
    let s := s.onMap fun m => { m with moves := m.moves.filter (·.seg ≠ seg), moved := (m.moved + 1) % 2 ^ 32,
                                       movedAt := put 0 seg (s.clk.hub + 1) m.movedAt }
    let t := { (segAt s seg).other with state := .live }
    let s := updSeg seg (Seg.flip t) s
    let s := freePlace mv.source old seg (some t) s
    notify .hub 0x2020 0 (leBytes 4 seg ++ leBytes 4 t.place.code) s

/-- A quadrant holds a frame of a slot. -/
def holdsQuad (v : Variant) (p : Place) (q : Nat) : Bool := (List.range 8).any fun u => p.inStack v (8 * q + u)

/-- Every quadrant that holds a frame of a slot serves. -/
def quadsServe (s : State) (p : Place) : Bool :=
  (List.range 4).all fun q => !(holdsQuad s.variant p q) ||
    (!inSlate s q && !isOffline s q && (quadAt s q).resetAt.isNone && (quadAt s q).lostAt.isNone)

/-- Nothing is queued, held or open for a row any more. -/
def forgetRow (a : RowAt) (s : State) : State :=
  forEach (copiesOf s a) (fun b s => updChan b.c (fun c => { c with
    writes := c.writes.filter (fun e => !(e.bank == a.bank && e.row == a.row)),
    units := c.units.filter (fun u => !(u.bank == a.bank && u.row == a.row)),
    accums := c.accums.filter (fun u => !(u.bank == a.bank && u.row == a.row)) }) s) s

/-! ### Segment commands (R68, R494) -/

/-- A stack named by a command is served: inside the mask, not in Slate mode, not wholly mapped out (Table 3.6, 0x06). -/
def stackServes (s : State) (n : Nat) : Bool :=
  s.variant.enables n && !inSlate s (n / 8) && (stackAt s n).table.any (· < 66)

/-- The result of the checks of R494 on a Create or Move, before the slot is found: the first failing of 0x06, 0x05,
0x03, else 0. A Move whose result leaves the charge above the budget is rejected whether or not it adds to the charge
(DESIGN CHOICE, assumption 84). -/
def placeChecks (s : State) (e : Entry) (live guards : Nat) : Nat :=
  let serves := match e.place with
    | .broad _ => (List.range 4).all fun q => !inSlate s q
    | .affine q _ => (List.range 8).any fun u => stackServes s (8 * q + u)
    | .single n _ => stackServes s n
  let caps := match e.place with
    | .broad _ => complexCaps s
    | .affine q _ => quadCaps s q
    | .single n _ => quadCaps s (n / 8)
  let guardForm := match e.place with
    | .single _ _ => true
    | _ => s.variant ≠ .qz1536
  if !serves then 0x06
  else if e.guarded && !(bit caps 4 && guardForm) then 0x05
  else if e.blockSum && !bit caps 5 then 0x05
  else if budget s < chargeOf live guards then 0x03
  else 0

/-- Place a new slot for an entry, joining a guard set when it asks for one; none when no slot is free. -/
def takeSlot (e : Entry) (s : State) : Option (Place × State) :=
  match allocate s [] e.place.spread e.place.scopeNo with
  | none => none
  | some p => if e.guarded then (joinGuard p s).map fun s => (p, s) else some (p, s)

/-- Create (R69). -/
def createSeg (n : Nat) (e : Entry) (s : State) : State × Nat :=
  if (curEntry s n).state ≠ .absent then (s, 0x01) else
  let r := placeChecks s e (liveCount s + 1) (guardCount s + b2n e.guarded)
  if r ≠ 0 then (s, r) else
  match takeSlot e s with
  | none => (s, 0x04)
  | some (p, s) =>
    let e := { e with state := .live, place := p, fostered := slotFostered s p }
    let s := s.onMap fun m => { m with sharers := put 0 n 0 m.sharers }
    let s := if e.blockSum then clearBlockWords p s else s
    (updSeg n (Seg.flip e) s, 0)

/-- Free (R69, R80, R318). -/
def freeSeg (n : Nat) (s : State) : State × Nat :=
  let e := curEntry s n
  if e.state = .absent then (s, 0x02) else
  let s := abandonMove n 1 s
  let s := if e.replica then dropSharers n s else s
  let s := freePlace e.place e n none s
  let s := s.onMap fun m => { m with movedAt := put 0 n 0 m.movedAt, queued := m.queued.filter (·.1 != n), samples := m.samples.filter (·.1 != n) }
  (updSeg n (Seg.flip { state := .absent }) s, 0)

/-- Modify: domain, pinned, format tag and class only (R69, R80, R318). -/
def modifySeg (n : Nat) (i : Entry) (s : State) : State × Nat :=
  let e := curEntry s n
  if e.state = .absent then (s, 0x02) else
  let sameScope := i.place.spread = e.place.spread && i.place.scopeNo = e.place.scopeNo
  if !(sameScope && i.strength = e.strength && i.guarded = e.guarded && i.blockSum = e.blockSum) then (s, 0x09) else
  let f := fun (x : Entry) =>
    if x.state = .absent then x else { x with domain := i.domain, pinned := i.pinned, fmt := i.fmt, replica := i.replica }
  let s := if e.replica && !i.replica then dropSharers n s else s
  let s := if !e.replica && i.replica then s.onMap fun m => { m with sharers := put 0 n 0 m.sharers } else s
  let s := s.onMap fun m => { m with moves := m.moves.map fun x => if x.seg = n then { x with target := f x.target } else x }
  (if e.state = .moving then updSeg n (Seg.setBoth f) s else updSeg n (Seg.flip (f e)) s, 0)

/-- Move (R69, R79, R80): the image's class, strength, guard, block sum and place; the other fields stay. While 16 moves run,
its copy waits (DESIGN CHOICE, assumption 17). -/
def moveSeg (n : Nat) (i : Entry) (s : State) : State × Nat :=
  let e := curEntry s n
  if e.state = .absent then (s, 0x02) else
  if s.map.moves.any fun m => m.seg = n && m.cause = 1 then (s, 0x07) else
  let r := placeChecks s i (liveCount s) (guardCount s - b2n e.guarded + b2n i.guarded)
  if r ≠ 0 then (s, r) else
  match takeSlot i s with
  | none => (s, 0x04)
  | some (p, t) =>
    let t := abandonMove n 2 t
    let e := curEntry t n
    (startMove n { e with strength := i.strength, guarded := i.guarded, blockSum := i.blockSum, place := p } 1 t, 0)

/-- A segment command judged and executed (R494): the state and the result of Table 3.6. -/
def segCommand (cmd : Nat) (c : SegCmd) (s : State) : State × Nat :=
  let n := c.segment.toNat
  match entryOfImage c.image.toNat with
  | none => (s, 0x08)
  | some e =>
    if c.reserved1 ≠ 0 || c.reserved2 ≠ 0 || n ≥ 2 ^ 19 then (s, 0x08)
    else match cmd with
      | 1 => createSeg n e s
      | 2 => freeSeg n s
      | 3 => modifySeg n e s
      | 4 => moveSeg n e s
      | _ => (s, 0x08)

/-! ### Foster frames (R76 to R78) -/

/-- Withdrawn data frames that no slot covers in a stack: they have joined its channels' foster bands. -/
def joinedFrames (s : State) (stack : Nat) : List Nat :=
  if mapOuts s = 0 then [] else
  let used := (usedPlaces s).filter fun p => p.inStack s.variant stack
  ((List.range (256 * mapOuts s)).map (dataFrames - 256 * mapOuts s + ·)).filter fun f =>
    used.all fun p => let (x, n) := p.frames s.variant; !(decide (x ≤ f) && decide (f < x + n))

/-- Runs of foster frames taken in a channel. -/
def takenRuns (s : State) (g : Nat) : List (Nat × Nat) :=
  sortBy (·.1) ((s.map.foster.filter (·.dst == g)).map fun r => (r.dstFirst, r.count))

/-- Runs (first, length) in ascending order, those that meet made one. -/
def joinRuns (rs : List (Nat × Nat)) : List (Nat × Nat) :=
  rs.foldr (fun r acc => match acc with
    | x :: xs => if r.1 + r.2 = x.1 then (r.1, r.2 + x.2) :: xs else r :: x :: xs
    | [] => [r]) []

/-- Free runs of foster frames of a channel, ascending. -/
def freeRuns (s : State) (g : Nat) : List (Nat × Nat) :=
  let taken := takenRuns s g
  let cut := fun (lo hi : Nat) =>
    let r := taken.foldl (fun (acc : List (Nat × Nat) × Nat) t =>
      if t.1 + t.2 ≤ lo || hi ≤ t.1 then acc
      else (if acc.2 < t.1 then acc.1 ++ [(acc.2, t.1 - acc.2)] else acc.1, Nat.max acc.2 (t.1 + t.2))) (([] : List (Nat × Nat)), lo)
    if r.2 < hi then r.1 ++ [(r.2, hi - r.2)] else r.1
  joinRuns ((joinedFrames s (g / 64)).flatMap (fun f => cut f (f + 1)) ++ cut dataFrames metaFrame)

/-- A channel can take foster frames: it is live in the sense of R202, where a quadrant in Slate mode keeps its channels and
an offline one does not (R452). -/
def takesFoster (s : State) (g : Nat) : Bool := liveChannel s g && !isOffline s (quadOf g)

/-- Free foster frames, complex-wide (object 0x2001:05). -/
def fosterFree (s : State) : Nat :=
  total ((s.variant.channels.filter (liveChannel s)).map fun g => total ((freeRuns s g).map (·.2)))

/-- Channels in the order of R76 relative to a channel. -/
def fosterOrder (s : State) (x : Nat) : List Nat :=
  let n := x / 64
  let q := n / 8
  let chans := fun (m : Nat) => (List.range 64).map (m * 64 + ·)
  let near := sortBy (fun m => let u := m % 8; let ux := n % 8; 16 * (if u < ux then ux - u else u - ux) + u)
    (((List.range 8).map (8 * q + ·)).filter (· ≠ n))
  let far := ((List.range 4).filter (· ≠ q)).flatMap fun k => (List.range 8).map (8 * k + ·)
  ((chans n).filter (· ≠ x) ++ (near ++ far).flatMap chans).filter (takesFoster s)

/-- Take a number of foster frames for a source run: the runs and how many frames found no place. -/
def takeFoster (s : State) (x count : Nat) : List (Nat × Nat × Nat) × Nat :=
  (fosterOrder s x).foldl (fun acc g =>
    if acc.2 = 0 then acc else
    (freeRuns s g).foldl (fun (acc : List (Nat × Nat × Nat) × Nat) r =>
      let k := Nat.min acc.2 r.2
      if k = 0 then acc else (acc.1 ++ [(g, r.1, k)], acc.2 - k)) acc) (([] : List (Nat × Nat × Nat)), count)

/-- Notice 0x2031 when fewer than 516,160 foster frames are free (R78): once, until 516,160 are free again (DESIGN CHOICE,
assumption 83). -/
def fosterNotice (s : State) : State :=
  let n := fosterFree s
  let low := decide (n < 516160)
  let s' := s.onMap fun m => { m with low := low }
  if low && !s.map.low then notify .hub 0x2031 1 (leBytes 4 n) s' else s'

/-- Notice 0x2032: frames that found no foster frame or no record (R78). -/
def fosterExhausted (src lost : Nat) (s : State) : State :=
  if lost = 0 then s else notify .hub 0x2032 2 (leBytes 2 src ++ leBytes 4 lost) s

/-- Re-home a run of frames: records of at most 8,128 frames, each written to the ledger (R75, R76). Answers the frames
re-homed and the frames that found no foster frame or no record. -/
def rehomeRun (channel : Bool) (src first count : Nat) (copied : Option Nat) (s : State) : State × Nat × Nat :=
  let (runs, left) := takeFoster s src count
  let runs := runs.flatMap fun r => (List.range (ceilDiv r.2.2 8128)).map fun i =>
    (r.1, r.2.1 + 8128 * i, Nat.min 8128 (r.2.2 - 8128 * i))
  let room := 4096 - s.map.foster.length
  let used := runs.take room
  let lost := left + total ((runs.drop room).map (·.2.2))
  let step := fun (r : Nat × Nat × Nat) (acc : State × Nat) =>
    let rec_ : Foster := { channel := channel, src := src, first := acc.2, count := r.2.2, dst := r.1, dstFirst := r.2.1, copied := copied }
    let s := acc.1.onMap fun m => { m with foster := m.foster ++ [rec_] }
    let s := ledger 0x06 (leBytes 1 (if channel then 1 else 2) ++ [0] ++ leBytes 2 src ++ leBytes 4 acc.2 ++ leBytes 2 r.2.2
      ++ leBytes 2 r.1 ++ leBytes 4 r.2.1) s
    (s, acc.2 + r.2.2)
  let (s, stop) := forEach used step (s, first)
  (fosterNotice s, stop - first, lost)

end Sys2Proof.Machine
end

