-- ==== Sys2Proof/Machine/Operands.lean ====
section
/-!
DEFINITION. The operands of a request: its bytes and alignment (R94, R95), the checks of Table 4.7 in their order, its
parts (R66, R96) with the channels that serve them, and the path each takes (R172, R446, R447).
-/
namespace Sys2Proof.Machine

/-- Bytes of a length code (Table 4.4). -/
def lenOf (code : Nat) : Option Nat := if code ≤ 12 then some (2 ^ code) else none

/-- Opcode of a request (Tables 4.3 and 10.1). -/
def opcodeOf : Op → Nat
  | .read => 0x01 | .write => 0x04 | .zero => 0x05 | .poison => 0x06 | .atomic => 0x08 | .atomicFetch => 0x09
  | .fence => 0x10 | .fullFence => 0x11 | .declare => 0x14 | .outing => 0x20
  | .fill => 0x28 | .release => 0x29 | .combined => 0x2A | .combinedFetch => 0x2B | .flush => 0x04

/-- Opcodes a port accepts (R93, R301). -/
def portAccepts (p opcode : Nat) : Bool :=
  if [0x01, 0x04, 0x05, 0x06, 0x08, 0x09, 0x10, 0x11, 0x14].contains opcode then true
  else if p < 4 then [0x18, 0x19, 0x20].contains opcode
  else [0x28, 0x29, 0x2A, 0x2B].contains opcode

/-- Classes of operation. -/
def Op.isAtomic : Op → Bool
  | .atomic | .atomicFetch | .combined | .combinedFetch => true
  | _ => false
def Op.isRead : Op → Bool
  | .read | .fill => true
  | _ => false
/-- Operations whose effect has a visibility point (R103). -/
def Op.isWrite : Op → Bool
  | .write | .zero | .poison | .atomic | .atomicFetch | .combined | .combinedFetch | .flush => true
  | _ => false
/-- Operations with an address in memory. -/
def Op.hasAddress (o : Op) : Bool := o.isRead || o.isWrite
/-- Operations answered with the prior value. -/
def Op.fetches : Op → Bool
  | .atomicFetch | .combinedFetch => true
  | _ => false
/-- Masks an operation's domain must be in: read, write (R120, R320). -/
def Op.masks : Op → Bool × Bool
  | .read | .fill | .release => (true, false)
  | .write | .zero | .poison | .atomic | .combined => (false, true)
  | .atomicFetch | .combinedFetch | .outing => (true, true)
  | _ => (false, false)

/-- Operation and format fields of an atomic (R286). -/
def atomFields (r : Request) : Option AtomOp × Nat := (atomOp (bits r.opField.toNat 3 0), bits r.opField.toNat 7 4)

/-- Tags of a port (R92). -/
def tagInRange (p : Nat) (r : Request) : Bool := decide (r.tag.toNat < 0xC000) || p == 4

/-- An atomic's operand is well formed (R95, R286, R287, R303). -/
def atomOk (op : Op) (r : Request) : Bool :=
  let n := (lenOf r.lenCode.toNat).getD 0
  let (o, f) := atomFields r
  let combined := op = .combined || op = .combinedFetch
  match o with
  | none => false
  | some o =>
    [4, 8, 16, 32, 64].contains n && r.addr.toNat % n == 0 && atomPermits o f && n % (elemBits f / 8) == 0
    && (!combined || (bits r.opField.toNat 3 0 ≤ 7 && bits r.opField.toNat 23 8 ≠ 0))

/-- A request's form is well formed, its tag apart (R93 to R95, R109, R119, R258). -/
def wellFormedReq (op : Op) (r : Request) : Bool :=
  let n := lenOf r.lenCode.toNat
  let a := r.addr.toNat
  !r.mgmt && !(r.lockEnd && !r.lock) &&
  match op with
  | .fence | .fullFence | .declare => true
  | .outing => decide (6 ≤ r.lenCode.toNat) && decide (r.lenCode.toNat ≤ 12) && a == 0 && !r.lock && !r.lockEnd
  | _ => match n with
    | none => false
    | some n =>
      (n ≤ 256 || a % 256 == 0) && a / 2 ^ 22 == (a + n - 1) / 2 ^ 22
      && (op ≠ .poison || (decide (32 ≤ n) && a % 32 == 0))
      && (!op.isAtomic || atomOk op r)

/-! ### Where a request's bytes are -/

/-- Channel and frame of a byte's granule: the fixed map while it is in force, else the segment's slot with its foster
records (R64, R75, R455). -/
def granuleAt (s : State) (pl : Place) (fostered : Bool) (a : Nat) : Granule :=
  if fixedMapOn s then fixedMap a
  else
    let g := interleave s.variant pl (a % 2 ^ 22 / 256)
    if fostered then let (c, f) := home s g.gch g.frame; { g with gch := c, frame := f } else g

/-- Start addresses and lengths of a request's granules (R66). -/
def granules (a n : Nat) : List (Nat × Nat) :=
  let first := a / 256
  let count := (a + n - 1) / 256 + 1 - first
  (List.range count).map fun i =>
    let lo := Nat.max a ((first + i) * 256)
    let hi := Nat.min (a + n) ((first + i + 1) * 256)
    (lo, hi - lo)

/-- Sectors that bytes touch. -/
def sectorsOf (a n : Nat) : Nat := if n = 0 then 0 else (a + n - 1) / 32 + 1 - a / 32

/-- Charge of a request (R189). -/
def chargeOfReq (a n : Nat) : Nat := 32 * total ((granules a n).map fun g => sectorsOf g.1 g.2)

/-- Parts of a request at a slot (R96). -/
def partsOf (s : State) (pl : Place) (fostered : Bool) (r : Request) (n : Nat) : List Part :=
  ((granules r.addr.toNat n).zipIdx).map fun x =>
    let (a, len) := x.1
    let g := granuleAt s pl fostered a
    { n := x.2, gch := g.gch, frame := g.frame, e := g.e, off := a % 256, len := len,
      slot := (servingSlot s g.gch).getD (slotNo (g.gch / 64) (g.gch % 64)), left := sectorsOf a len,
      data := slice r.data (a - r.addr.toNat) len }

/-- The summary bit of a touch line: all of its 512 rows are touched. -/
def lineFull (s : State) (line : Nat) : Bool := (List.range 512).all fun i => s.touch.contains (line * 512 + i)

/-- Reads whose touch line the hub holds neither in its summary nor in its cache go touch-unknown (R73). -/
def markUnknown (s : State) (parts : List Part) : List Part :=
  parts.map fun p =>
    let (g, f) := if fixedMapOn s then (p.gch, p.frame) else home s p.gch p.frame
    let c := cellAt f p.e p.off
    let line := touchKey g c.bank c.row / 512
    { p with unknown := !(lineFull s line || Config.lineCached s.nextReq line) }

/-- The quadrant that finally serves a part is far from a port (R20, R67). -/
def servedFar (s : State) (p : Nat) (x : Part) : Bool :=
  let g := if fixedMapOn s then x.gch else (home s x.gch x.frame).1
  p == 4 || (decide (p < 4) && quadOf g != p)

/-- Quadrants that serve a request. -/
def quadsOf (parts : List Part) : List Nat := (parts.map fun p => quadOf p.gch).eraseDups

/-- A channel of the fixed map serves: its stack passed R30, lies inside the mask and holds the channel (R455). -/
def fixedServes (s : State) (a : Nat) : Bool :=
  let g := fixedMap a
  bits a 40 38 == 0 && s.variant.enables (g.gch / 64) && (stackAt s (g.gch / 64)).qualified && (servingSlot s g.gch).isSome

/-! ### Table 4.7 -/

/-- The status of the first check of Table 4.7 that a memory request fails, none when it may execute. `lockOk` is false for
a locked member that breaks the first or second condition of R110. -/
def memChecks (s : State) (p : Nat) (op : Op) (r : Request) (lockOk : Bool) : Option Nat :=
  let a := r.addr.toNat
  let n := (lenOf r.lenCode.toNat).getD 0
  let e := curEntry s (a / 2 ^ 22)
  let fixed := fixedMapOn s
  let mapped := fixed || e.state ≠ .absent
  let parts := if op.hasAddress && mapped && n ≤ 4096 then partsOf s e.place e.fostered r n else []
  let quads := if op = .release && mapped then [quadOf (granuleAt s e.place e.fostered a).gch] else quadsOf parts
  let d := r.domain.toNat
  let m := op.masks
  let served := [Op.read, .write, .zero, .fence, .fullFence, .declare].contains op
  if !portAccepts p (opcodeOf op) then some 0x04
  else if op.isAtomic && !fixed && quads.any (fun q => !bit (quadCaps s q) 10) then some 0x04
  else if op = .outing && bits (complexCaps s) 8 5 == 0 then some 0x04
  else if !wellFormedReq op r || !lockOk || !tagInRange p r then some 0x03
  else if fixed && (!served || r.lock || (op.hasAddress && !(granules a n).all fun g => fixedServes s g.1)) then some 0x06
  else if !fixed && quads.any (fun q => inSlate s q || isOffline s q) then some 0x06
  else if op = .outing && (inSlate s (bits r.opField.toNat 1 0) || isOffline s (bits r.opField.toNat 1 0)) then some 0x06
  else if (m.1 && !bit (objGet s 0x2410 (p + 1)) d) || (m.2 && !bit (objGet s 0x2411 (p + 1)) d) then some 0x07
  else if p == 4 && r.package.toNat ≠ objGet s 0x4C10 0 then some 0x01
  else if fixed then none
  else if (op.hasAddress || op = .release) && e.state = .absent then some 0x01
  else if (op.hasAddress || op = .release) && e.domain ≠ d then some 0x02
  else none

/-! ### Paths (R172, R446, R447) -/

/-- Live bundles of a link group, ascending. -/
def liveBundles (g : LinkGroup) : List Nat := (List.range 16).filter fun b => bit g.live b

/-- Group code of the detour link between MEDi and MED((i + 1) mod 4) (R458). -/
def detourGroup (i : Nat) : Nat := 9 + i % 4

/-- LG-Mj bundles tied to the detour link toward MED((j + 1) mod 4) when up, else toward MED((j + 3) mod 4) (R446). -/
def tiedBundles (s : State) (j : Nat) (up : Bool) : List (Option Nat) :=
  let live := liveBundles (linkAt s (4 + j))
  let step := fun (acc : List (Option Nat)) (b : Nat) =>
    acc ++ [if live.contains b then some b else (List.range 8).find? fun x => live.contains x && !acc.contains (some x)]
  let all := ((List.range 4).map (8 + ·) ++ (List.range 4).map (12 + ·)).foldl step []
  if up then all.take 4 else all.drop 4

/-- The detour toward Qk through MEDj is usable (R447). -/
def detourUsable (s : State) (k : Nat) (up : Bool) : Bool :=
  let j := if up then (k + 1) % 4 else (k + 3) % 4
  let g := linkAt s (if up then detourGroup k else detourGroup j)
  bits g.live 3 0 == 15 && bit (quadCaps s k) 2 && bit (quadCaps s j) 2 && (linkAt s (4 + j)).live ≠ 0

/-- A unit's path: LG-M group and root lane, and its input at the quadrant arbiter. -/
structure Route where
  group  : Nat
  lane   : Nat
  input  : Nat
  detour : Bool := false
  deriving DecidableEq, Repr

/-- The path of a unit to its channel; none when its quadrant is unreachable (R172, R447). -/
def routeOf (s : State) (gch : Nat) : Option Route :=
  let k := quadOf gch
  let live := liveBundles (linkAt s (4 + k))
  let L := live.length
  let wants := decide (L < 16) && decide (gch % 64 / 4 < 16 - L)
  let viaUp := gch % 2 == 0
  let pick := if !wants then none
    else if detourUsable s k viaUp then some viaUp
    else if detourUsable s k (!viaUp) then some (!viaUp) else none
  match pick with
  | some up =>
    let j := if up then (k + 1) % 4 else (k + 3) % 4
    let tied := tiedBundles s j (!up)
    let sorted := sortBy id (tied.filterMap id)
    let b := nth sorted (gch % Nat.max 1 (Nat.min 4 sorted.length)) 0
    let i := (tied.findIdx? (· == some b)).getD 0
    some ⟨j, b, (if up then 16 else 20) + i, true⟩
  | none =>
    if L = 0 then none else
    let b := nth live (gch % L) 0
    some ⟨k, b, b, false⟩

/-- A quadrant has a route (R447, R452). -/
def reachable (s : State) (k : Nat) : Bool :=
  (linkAt s (4 + k)).live ≠ 0 || detourUsable s k true || detourUsable s k false

/-- Bit k: some unit bound for Qk travels by detour (object 0x7032). -/
def detourMask (s : State) : Nat :=
  total ((List.range 4).map fun k =>
    let L := (liveBundles (linkAt s (4 + k))).length
    if L < 16 && (detourUsable s k true || detourUsable s k false) then 2 ^ k else 0)

end Sys2Proof.Machine
end

