-- ==== Sys2Proof/Machine/Tree.lean ====
section
/-!
DEFINITION. The arbiter tree (chapter 6): units enter a root lane from the port front end, and one decision of a root
lane, a quadrant arbiter or a channel arbiter grants one of them; path generations and sweep markers (R106, R107); masks.
-/
namespace Sys2Proof.Machine

/-- Keys of the arbiters (R171). -/
def rootArb (group lane : Nat) : Nat := group * 16 + lane
def quadArb (stack : Nat) : Nat := 64 + stack
def chanArb (slot : Nat) : Nat := 96 + slot

def arbKey : ArbId → Nat
  | .root g l => rootArb g l
  | .quad n => quadArb n
  | .chan n p => chanArb (slotNo n p)
/-- Level of an arbiter: 0 root, 1 quadrant, 2 channel. -/
def arbLevel : ArbId → Nat
  | .root _ _ => 0
  | .quad _ => 1
  | .chan _ _ => 2
/-- Entry of the 12-entry arrays, in the order of object 0x3410. -/
def arbRow : ArbId → Nat
  | .root g _ => g
  | .quad n => 4 + n / 8
  | .chan n _ => 8 + n / 8

def arbAt (s : State) (k : Nat) : Arbiter := look {} k s.tree.arbs
def updArb (k : Nat) (f : Arbiter → Arbiter) (s : State) : State :=
  s.onTree fun t => { t with arbs := put {} k (f (look {} k t.arbs)) t.arbs }
def onUnits (f : List TUnit → List TUnit) (s : State) : State := s.onTree fun t => { t with units := f t.units }

/-- A unit raises its request at an arbiter and takes the next arrival sequence, of 24 bits (R51, R176). -/
def stampUnit (u : TUnit) (s : State) : TUnit × State :=
  ({ u with seq := (arbAt s u.arb).next }, updArb u.arb (fun a => { a with next := (a.next + 1) % 2 ^ 24 }) s)

/-- A unit leaves its place for another arbiter or input and raises its request there anew, behind what waits there. -/
def replaceUnit (u : TUnit) (s : State) : State :=
  let (v, s) := stampUnit u s
  onUnits (fun us => us.filter (·.id != u.id) ++ [v]) s

/-- A new unit enters the tree. -/
def addUnit (u : TUnit) (s : State) : State :=
  let (u, s) := stampUnit { u with id := s.tree.nextId } s
  s.onTree fun t => { t with units := t.units ++ [u], nextId := t.nextId + 1 }

/-- An internal operation of a channel raises its request at an input of its channel arbiter (Table 6.3). -/
def addJob (c gch input : Nat) (j : Job) (s : State) : State :=
  addUnit { id := 0, level := 2, arb := chanArb c, input := input, parts := [], job := some j, slot := c, gch := gch, quad := quadOf gch } s

/-- Units presented to one input of an arbiter, oldest first: the tree's list is in order of arrival. -/
def unitsOn (s : State) (level arb input : Nat) : List TUnit :=
  s.tree.units.filter fun u => u.level == level && u.arb == arb && u.input == input

/-- The parts of requests that a unit carries. -/
def partsIn (s : State) (u : TUnit) : List Part :=
  u.parts.filterMap fun x => (reqAt s x.1).bind fun r => r.parts.find? (·.n == x.2)

/-- Quadrants a unit is bound for. -/
def quadsIn (s : State) (u : TUnit) : List Nat := (u.quad :: (partsIn s u).map fun p => quadOf p.gch).eraseDups

/-! ### Held quadrants (R107, R185, R450) -/

/-- Units bound for Qq are not eligible at any root lane. -/
def rootHolds (s : State) (q : Nat) : Bool :=
  let k := quadAt s q
  k.resetAt.isSome || k.st = .held || k.st = .offline || k.lostAt.isSome || !k.reroutes.isEmpty

/-- The arbiters of Qq hold what they have, and nothing of Qq's own work goes on. -/
def quadStops (s : State) (q : Nat) : Bool :=
  let k := quadAt s q
  k.resetAt.isSome || k.st = .held || k.lostAt.isSome || (k.st = .offline && k.offCause == 1) || decide (3 ≤ s.power.shutdown)

/-! ### The port front end (R172, R173) -/

/-- Two parts share a granule. -/
def Part.shares (p q : Part) : Bool := p.gch == q.gch && p.frame == q.frame && p.e == q.e

/-- Granule of memory that a part of a request names; its further parts at other slots are numbered 64 apart. -/
def granuleOf (r : Req) (p : Part) : Nat := r.r.addr.toNat / 256 + p.n % 64

/-- Parts of two requests name the same granule of memory, wherever its segment's slot was when they were looked up. -/
def sameGranule (r : Req) (p : Part) (o : Req) (q : Part) : Bool := granuleOf r p == granuleOf o q

/-! ### Writes to a segment that moves (R79, R82, R104) -/

/-- The entries that flips have put in a slot's place since, the oldest first. -/
def flippedTo (s : State) (seg : Nat) (p : Place) : List Entry := go s.map.freed.length p
where
  go : Nat → Place → List Entry
    | 0, _ => []
    | n + 1, p =>
      match s.map.freed.findSome? fun f => if f.seg = seg && f.place = p then f.next else none with
      | some e => e :: go n e.place
      | none => []

/-- Entries of the slots beside its own that a write of a request reaches at a granule: those that flips have put in its place
since its lookup, and below the cursor the target of a running move (R79 step 4, R82). -/
def alsoWrites (s : State) (r : Req) (G : Nat) : List Entry :=
  let later := flippedTo s r.seg r.cur.place
  let last := (later.getLast?.getD r.cur).place
  if fixedMapOn s || !r.op.hasAddress then [] else
  later ++ match s.map.moves.find? (·.seg = r.seg) with
    | some m => if m.source = last && decide (G % 16384 < m.cursor) then [m.target] else []
    | none => []

/-- A write on its way: past the front end with a part of a granule and not yet visible there. -/
def underWay (o : Req) (g : Nat) : Bool :=
  let ps := o.parts.filter fun p => granuleOf o p == g
  o.op.isWrite && ps.any (·.stage ≠ .hub) && (decide (o.debts ≠ 0) || ps.any (·.stage ≠ .done))

/-- A segment moves, or requests that looked it up before a flip are not over. -/
def shifting (s : State) (seg : Nat) : Bool :=
  s.map.moves.any (·.seg = seg) || s.map.freed.any fun f => f.seg = seg && f.next.isSome

/-- A write to a segment that moves waits at the front end while its granule is under copy (R79 step 5), and, so that every slot
takes a granule's writes in one order, behind each other write of the granule that is on its way or looked up an older slot
(R104; DESIGN CHOICE, assumption 110). -/
def moveHolds (s : State) (r : Req) (p : Part) : Bool :=
  let g := granuleOf r p
  let others := s.reqs.filter fun o => o.id ≠ r.id && o.seg = r.seg && !r.locked.contains o.id && !(r.merged.any (·.1 == o.id))
  let before := fun (o : Req) => (flippedTo s r.seg o.cur.place).any (·.place = r.cur.place)
    && (decide (o.debts ≠ 0) || o.parts.any fun q => granuleOf o q == g && q.stage ≠ .done)
  p.copy.isNone && r.op.isWrite && r.entry ≠ 44 && shifting s r.seg
    && ((s.map.moves.any fun m => m.seg = r.seg && m.cursor = g % 16384 && m.busy.isSome)
      || others.any fun o => underWay o g || (o.op.isWrite && o.status.isNone && before o))

/-- A write whose parts each slot takes by itself: neither an atomic nor a member of a locked sequence. -/
def Req.plainWrite (r : Req) : Bool :=
  r.op.isWrite && !r.op.isAtomic && (r.line.bind (·.atomic)).isNone && r.locked.isEmpty

/-- A part of a write at a further slot. -/
def copyPart (s : State) (r : Req) (p : Part) (e : Entry) (j : Nat) : Option Part :=
  ((partsOf s e.place e.fostered r.r r.bytes).find? (·.n == p.n)).map fun x =>
    { x with n := p.n + 64 * (j + 1), copy := some e, data := p.data, poison := p.poison }

/-- A part that leaves the front end takes the parts for its segment's further slots with it. -/
def addCopies (id : Nat) (p : Part) (s : State) : State :=
  match reqAt s id with
  | none => s
  | some r =>
    if !r.plainWrite || p.copy.isSome then s else
    let more := (alsoWrites s r (granuleOf r p)).zipIdx.filterMap fun x => copyPart s r p x.1 x.2
    updReq id (fun q => { q with parts := q.parts ++ more }) s

/-! ### From the front end into the root queues -/

/-- Place in its port's order: a flush takes that of the first request it merged (R309). -/
def orderOf (r : Req) : Nat :=
  match r.op, r.merged with
  | .flush, m :: _ => m.1
  | _, _ => r.id

/-! ### What Basket takes (R302, R304) -/

/-- Line address of a request. -/
def lineOf (r : Req) : Nat := r.r.addr.toNat / 64 * 64

/-- A request's bytes within its line. -/
def lineRange (r : Req) : Nat × Nat := (r.r.addr.toNat % 64, r.r.addr.toNat % 64 + r.bytes)

/-- The no-combine bit (R302). -/
def noCombine (r : Req) : Bool := bit r.r.opField.toNat 8

/-- An FP request enters Basket (R304). -/
def basketTakes (s : State) (r : Req) : Bool :=
  let kind := match r.op with
    | .write | .zero | .combined => true
    | .atomic => !noCombine r && bits r.r.opField.toNat 3 0 ≠ 9
    | _ => false
  r.port == 4 && kind && decide ((lineRange r).2 ≤ 64) && objGet s 0x4C20 0 ≠ 0
    && !fixedMapOn s && !(r.parts.any fun p => inSlate s (quadOf p.gch)) && !r.r.lock

/-- A part waits at the front end behind an earlier one of its port that shares its granule (R173); where a move has put the
granule elsewhere in between, until the earlier one has taken effect (R104). A part for a further slot goes with its write, and
a flush does not wait for a request that is to join a later line of its address. -/
def waitsBehind (s : State) (r : Req) (p : Part) : Bool :=
  p.copy.isNone && s.reqs.any fun o => o.port == r.port && decide (orderOf o < orderOf r) && o.id ≠ r.id && !o.basket && !r.locked.contains o.id
    && !(r.op = .flush && !o.released && basketTakes s o && lineOf o == lineOf r)
    && o.parts.any fun q =>
      if q.shares p then q.stage = .hub || (q.stage = .root && (o.r.group != r.r.group || o.entry != r.entry))
      else sameGranule r p o q && (q.stage ≠ .done || decide (o.debts ≠ 0))

/-- Root input of a request (Table 6.2). -/
def rootInput (r : Req) : Nat := if r.port < 5 then 8 * r.port + r.r.group.val else r.entry

/-- Parts a front end still holds for a released request: of every member for the carrier of a locked sequence (R111). -/
def hubParts (s : State) (r : Req) : List (Nat × Part) :=
  let mem := if r.locked.isEmpty then [r] else r.locked.filterMap (reqAt s)
  mem.flatMap fun m => (m.parts.filter (·.stage = .hub)).map fun p => (m.id, p)

/-- The unit of some parts of a request for one root lane. -/
def rootUnit (r : Req) (ps : List (Nat × Part)) (rt : Route) : TUnit :=
  let g := ((ps.head?).map (·.2.gch)).getD 0
  { id := 0, level := 0, arb := rootArb rt.group rt.lane, input := rootInput r, parts := ps.map fun x => (x.1, x.2.n),
    slot := ((ps.head?).map (·.2.slot)).getD 0, gch := g, locked := !r.locked.isEmpty, write := r.op.isWrite || !r.locked.isEmpty,
    port := r.port, quad := quadOf g, entry := rt.input }

/-- Place in root queues what a released request may place: one unit for each lane that has room (R172, R181). -/
def placeParts (r : Req) (s : State) : State :=
  let ps := hubParts s r
  let routed := ps.filterMap fun x => (routeOf s x.2.gch).map fun rt => (x, rt)
  let lanes := (routed.map fun x => (x.2.group, x.2.lane)).eraseDups
  forEach lanes (fun l s =>
    let mine := routed.filter fun x => (x.2.group, x.2.lane) == l
    let blocked := mine.any fun x => waitsBehind s r x.1.2 || moveHolds s r x.1.2
    let room := decide ((unitsOn s 0 (rootArb l.1 l.2) (rootInput r)).length < 64)
    match mine with
    | [] => s
    | x :: _ =>
      if blocked || !room then s else
      let s := forEach mine (fun y s => addCopies y.1.1 y.1.2 (updPart y.1.1 y.1.2.n (fun p => { p with stage := .root }) s)) s
      addUnit (rootUnit r (mine.map (·.1)) x.2) s) s

/-- Place a request's parts, and those for further slots that they bring. -/
def placeReq (r : Req) (s : State) : State :=
  let s := placeParts r s
  match (reqAt s r.id).filter fun q => q.parts.any fun p => p.copy.isSome && p.stage = .hub with
  | some q => placeParts q s
  | none => s

/-- Whether a request is at the front end with work for the tree. -/
def Req.waiting (r : Req) : Bool :=
  r.released && !r.basket && r.op.hasAddress && r.status.isNone && (r.locked.isEmpty || r.locked.head? == some r.id)

/-- The front ends place what their root queues take, in port order. Units that rise together at one arbiter are ordered as they
are placed here (R176; DESIGN CHOICE, assumption 109). -/
def pumpHub (s : State) : State :=
  forEach ((sortBy orderOf (s.reqs.filter Req.waiting)).map (·.id)) (fun id s =>
    match reqAt s id with
    | some r => placeReq r s
    | none => s) s

/-! ### Contenders (R174 to R176, R183) -/

/-- A generation's requests wait at the quadrant's entry for the sweep marker of the one before (R107), and behind the older
generations' units of their path for their channel, whatever input those came in by (R102). -/
def behindMarker (s : State) (u : TUnit) : Bool :=
  ((portAt s u.port).sweeps.any fun w => w.quad == u.quad && !w.arrived && (w.gen + 1) % 16 == u.gen % 16)
  || (s.tree.units.takeWhile (·.id != u.id)).any fun v =>
      v.level == 1 && v.port == u.port && v.quad == u.quad && v.slot == u.slot && v.gen != u.gen

/-- Units that count against input 0 of a channel arbiter: present, or reserved by a quadrant ticket (R175). -/
def inputZero (s : State) (slot : Nat) (but : Nat) : Nat :=
  let held : List TUnit := match (arbAt s (quadArb (stackOf slot))).ticket with
    | some t => s.tree.units.filter fun u => u.id == t && u.id != but && u.slot == slot
    | none => []
  (s.tree.units.filter fun u => u.level == 2 && u.slot == slot && u.input == 0).length + held.length

/-- Read and write entries a unit takes in its channel's queues (R145). -/
def needs (s : State) (u : TUnit) : Nat × Nat :=
  let one : Nat × Nat → Nat × Nat := fun x => match reqAt s x.1 with
    | none => (0, 0)
    | some r => match r.parts.find? (fun (p : Part) => p.n == x.2) with
      | none => (0, 0)
      | some p => let k := sectorsOf p.off p.len; if r.op.isAtomic || (r.line.bind (·.atomic)).isSome then (k, k) else if r.op.isWrite then (0, k) else (k + b2n p.unknown, 0)
  let ps := u.parts.map one
  let rd := (u.sects.filter fun e => e.act = .read || e.act = .fetch).length
  (total (ps.map (·.1)) + rd, total (ps.map (·.2)) + (u.sects.length - rd))

/-- The run of a map-out that is copied now (R345): each record becomes active before the next run begins. -/
def copyRun (s : State) (g : Nat) : Option Foster := s.map.foster.find? fun r => r.channel && r.src == g && r.copied.isSome

/-- Controllers whose queues a unit's entries may fill: its own, and the other that holds the rows while its channel is
copied (R344) or mapped out (R345). -/
def entersAt (s : State) (slot : Nat) : List Nat :=
  match s.rehomes.find? fun h => (h.kind == 1 && (h.source == slot || h.dest == some slot)) || (h.kind == 3 && h.source == slot) with
  | some h => if h.kind = 3 then slot :: ((copyRun s h.gch).bind fun r => servingSlot s r.dst).toList else h.source :: h.dest.toList
  | none => [slot]

/-- The queues of the controllers a unit enters take it, beside what a granted unit or a ticket holder has reserved. -/
def queuesTake (s : State) (u : TUnit) : Bool :=
  let promised := s.tree.units.filter fun v => v.id != u.id &&
    (v.level == 3 || (v.level == 2 && (arbAt s (chanArb v.slot)).ticket == some v.id))
  let (r, w) := needs s u
  (entersAt s u.slot).all fun k =>
    let c := chanAt s k
    let used := (promised.filter fun v => v.slot == k || (entersAt s v.slot).contains k).map (needs s)
    decide (c.reads.length + total (used.map (·.1)) + r ≤ 512) && decide (c.writes.length + total (used.map (·.2)) + w ≤ 256)

/-- Input of a part of a root unit at its quadrant arbiter: that of the bundle or detour bundle it comes in by (R174). -/
def partInput (s : State) (u : TUnit) (p : Part) : Nat := ((routeOf s p.gch).map (·.input)).getD u.entry

/-- Stack and input of the units that a root grant makes: one for each part, or one locked unit (R181). -/
def unitTargets (s : State) (u : TUnit) : List (Nat × Nat) :=
  if u.locked then [(stackOf u.slot, u.entry)]
  else (partsIn s u).map fun p => (stackOf p.slot, partInput s u p)

/-- The root lane whose bundle, tied to a detour link or not, feeds an input of a stack's quadrant arbiter (R174, R446). -/
def feeds (s : State) (n i : Nat) : Option Nat :=
  let k := n / 8
  if i < 16 then some (rootArb k i)
  else
    let j := if i < 20 then (k + 1) % 4 else (k + 3) % 4
    (nth (tiedBundles s j (20 ≤ i)) (i % 4) none).map (rootArb j)

/-- A full quadrant input stops its bundle, and the bundle's credit holds the root lane (R174). -/
def laneStopped (s : State) (arb : Nat) : Bool :=
  (((s.tree.units.filter (·.level == 1)).map fun u => (u.arb, u.input)).eraseDups).any fun x =>
    decide (64 ≤ (unitsOn s 1 x.1 x.2).length) && feeds s (x.1 - 64) x.2 == some arb

/-- Places at the quadrant arbiters' inputs that the ticket of a root lane reserves, beside a unit's own (R180). -/
def reservedAt (s : State) (arb but : Nat) : List (Nat × Nat) :=
  match (arbAt s arb).ticket with
  | some t => (s.tree.units.filter fun u => u.id == t && u.id != but).flatMap (unitTargets s)
  | none => []

/-- The unit an input presents to an arbiter's decision, if any. -/
def presented (s : State) (level arb input : Nat) : Option TUnit :=
  let us := unitsOn s level arb input
  match level with
  | 0 =>
    if laneStopped s arb then none else
    match us.find? fun u => !(quadsIn s u).any (rootHolds s) with
    | some u =>
      let all := unitTargets s u ++ reservedAt s arb u.id
      let room := fun (x : Nat × Nat) => decide ((unitsOn s 1 (quadArb x.1) x.2).length + (all.filter (· == x)).length ≤ 64)
      if (unitTargets s u).all room then some u else none
    | none => none
  | 1 =>
    let first := fun (u : TUnit) => (us.takeWhile (·.id != u.id)).all fun v => v.slot != u.slot
    us.find? fun u => first u && !quadStops s u.quad && !behindMarker s u && decide (inputZero s u.slot u.id < 16)
  | _ =>
    match us with
    | u :: _ => if queuesTake s u && !quadStops s u.quad then some u else none
    | [] => none

/-- Fan-in of a level (R171). -/
def fanIn : Nat → Nat
  | 0 => 48
  | 1 => 24
  | _ => 6

/-- The contenders of a decision (R176). -/
def contenders (s : State) (a : ArbId) : List TUnit :=
  (List.range (fanIn (arbLevel a))).filterMap (presented s (arbLevel a) (arbKey a))

/-- An arrival sequence is older than another, modulo 2^24 (R51). -/
def olderSeq (a b : Nat) : Bool := a != b && decide ((b + 2 ^ 24 - a) % 2 ^ 24 < 2 ^ 23)

/-- The order of R177 below the ticket: higher score, then older arrival. -/
def ranksFirst (a b : TUnit) : Bool := decide (b.score < a.score) || (a.score == b.score && olderSeq a.seq b.seq)

/-- A unit's own state lets it be a contender; what it would enter may still be full (R179, R180). -/
def ownEligible (s : State) (u : TUnit) : Bool :=
  match u.level with
  | 0 => !(quadsIn s u).any (rootHolds s)
  | 1 => !quadStops s u.quad && !behindMarker s u
  | _ => !quadStops s u.quad

/-- The winner of a decision (R177). -/
def winner (cs : List TUnit) (ticket : Option Nat) : Option TUnit :=
  match cs.find? fun u => ticket == some u.id with
  | some u => some u
  | none => bestOf ranksFirst cs

/-! ### Grants (R178 to R181) -/

/-- A granted unit moves to the next level. At the root each part becomes a unit of its own, and takes its path's
generation (R106, R181). -/
def moveOn (a : ArbId) (w : TUnit) (s : State) : State :=
  let s := onUnits (·.filter (·.id != w.id)) s
  match a with
  | .root _ _ =>
    let gen := fun (q : Nat) => nth (portAt s w.port).gens q 0
    let s := forEach w.parts (fun x s => updPart x.1 x.2 (fun p => { p with stage := .tree, gen := gen (quadOf p.gch) }) s) s
    let enter := fun (u : TUnit) (s : State) => addUnit { u with level := 1, arb := quadArb (stackOf u.slot), gen := gen u.quad } s
    if w.locked then enter { w with input := w.entry } s
    else forEach w.parts (fun x s =>
      match (reqAt s x.1).bind fun r => r.parts.find? (·.n == x.2) with
      | some p => enter { w with parts := [x], slot := p.slot, gch := p.gch, quad := quadOf p.gch, input := partInput s w p } s
      | none => s) s
  | .quad _ => addUnit { w with level := 2, arb := chanArb w.slot, input := 0 } s
  | .chan _ _ => s.onTree fun t => { t with units := t.units ++ [{ w with level := 3 }] }

/-- Entry of the 12-entry arrays of an arbiter's key. -/
def keyRow (k : Nat) : Nat := if k < 64 then k / 16 else if k < 96 then 4 + (k - 64) / 8 else 8 + (k - 96) / 528

/-- A ticket lapses when its holder's own state no longer lets it contend (R179); a full next level is no lapse (R180). -/
def lapseTicket (k : Nat) (s : State) : State :=
  match (arbAt s k).ticket with
  | none => s
  | some t =>
    if s.tree.units.any fun u => u.id == t && ownEligible s u then s
    else bump 0x8302 (keyRow k + 1) 1 (updArb k (fun x => { x with ticket := none }) s)

/-- Every ticket whose holder has become ineligible lapses: a quadrant's work is held (R179, R185). -/
def lapseTickets (s : State) : State := forEach (s.tree.arbs.map (·.1)) lapseTicket s

/-- A holder whose place at the next level is taken waits for it, and the arbiter grants nothing until it is there: the next
grant is the holder's (R179, R180; DESIGN CHOICE, assumption 109). -/
def awaitsPlace (cs : List TUnit) (held : Option Nat) : Bool := held.isSome && !cs.any fun u => held == some u.id

/-- One decision: the grant, the losers' scores, the ticket, the counts and the high-water mark (R177 to R179). -/
def decide1 (a : ArbId) (s : State) : State :=
  let k := arbKey a
  let s := lapseTicket k s
  let cs := contenders s a
  let held := (arbAt s k).ticket
  match (winner cs held).filter fun _ => !awaitsPlace cs held with
  | none => s
  | some w =>
    let lost := cs.filter (·.id != w.id)
    let next := (bestOf ranksFirst lost).map (·.id)
    let row := arbRow a
    let s := onUnits (·.map fun u => if lost.any (·.id == u.id) then { u with score := satAdd 255 u.score 1 } else u) s
    let s := s.onTree fun t => { t with high := modNth t.high row (Nat.max w.score) }
    let s := updArb k (fun x => { x with ticket := next }) s
    let s := bump 0x8300 (row + 1) 1 s
    let s := if next.isSome && next != held then bump 0x8301 (row + 1) 1 s else s
    moveOn a w s

/-- Retire units: they leave the tree, and a ticket one of them holds lapses (R179, R184). -/
def retireUnits (p : TUnit → Bool) (s : State) : State :=
  let gone := (s.tree.units.filter p).map (·.id)
  let lapses := s.tree.arbs.filter fun x => match x.2.ticket with
    | some t => gone.contains t
    | none => false
  let s := onUnits (·.filter fun u => !p u) s
  forEach lapses (fun x s => bump 0x8302 (keyRow x.1 + 1) 1 (updArb x.1 (fun a => { a with ticket := none }) s)) s

/-! ### Rerouting (R106, R107, R445) -/

/-- Writes on a requester's path to Qq that are not yet acknowledged, as request and buffer group. -/
def pathWrites (s : State) (p q : Nat) : List (Nat × Nat) :=
  (s.reqs.filter fun r => r.port == p && r.op.isWrite && r.parts.any fun x => quadOf x.gch == q && (x.stage = .tree || x.stage = .queue)).map
    fun r => (r.id, r.r.group.val)

/-- A root unit takes the lanes R172 now gives its parts, with its score: one unit for each lane (R445). -/
def relaneUnit (u : TUnit) (s : State) : State :=
  let laneOf := fun (x : Nat × Nat) =>
    (((reqAt s x.1).bind fun r => r.parts.find? (·.n == x.2)).bind fun p => routeOf s p.gch).map fun rt => (rootArb rt.group rt.lane, rt.input)
  let lanes := (u.parts.filterMap laneOf).map (·.1) |>.eraseDups
  if lanes.isEmpty then s
  else if lanes == [u.arb] then
    onUnits (·.map fun v => if v.id = u.id then { v with entry := (((u.parts.head?).bind laneOf).map (·.2)).getD v.entry } else v) s
  else
    let t := (arbAt s u.arb).ticket
    let s := if t == some u.id then bump 0x8302 (u.arb / 16 + 1) 1 (updArb u.arb (fun a => { a with ticket := none }) s) else s
    forEach lanes.zipIdx (fun x s =>
      let mine := u.parts.filter fun y => (laneOf y).any (·.1 == x.1)
      let head := ((mine.head?).bind fun y => (reqAt s y.1).bind fun r => r.parts.find? (·.n == y.2))
      let v := { u with arb := x.1, parts := mine, entry := (((mine.head?).bind laneOf).map (·.2)).getD u.entry,
                        gch := (head.map (·.gch)).getD u.gch, slot := (head.map (·.slot)).getD u.slot,
                        quad := (head.map fun p => quadOf p.gch).getD u.quad }
      if x.2 = 0 then replaceUnit v s else addUnit v s) s

/-- Units queued at root lanes for Qq take the lanes R172 now gives them, in arrival order (R445). -/
def relane (q : Nat) (s : State) : State :=
  forEach (s.tree.units.filter fun u => u.level == 0 && (quadsIn s u).contains q) relaneUnit s

/-- A reroute of Qq takes place: every path's generation rises, markers are pushed on paths that hold writes, units at
the root move, notice 0x8004 (R106). -/
def rerouteNow (q cause : Nat) (s : State) : State :=
  let s := forEach (List.range 6) (fun p s =>
    let old := nth (portAt s p).gens q 0
    let ws := pathWrites s p q
    updPort p (fun d => { d with gens := modNth d.gens q (fun g => (g + 1) % 16),
                                 sweeps := if ws.isEmpty then d.sweeps else d.sweeps ++ [{ quad := q, gen := old, writes := ws }] }) s) s
  let s := relane q s
  notify .hub 0x8004 0 (leBytes 1 q ++ leBytes 1 (nth (portAt s 0).gens q 0) ++ leBytes 1 cause) s

/-- A path to Qq already holds 8 generations whose sweeps are unacknowledged (R107). -/
def pathsFull (s : State) (q : Nat) : Bool :=
  (List.range 6).any fun p => decide (8 ≤ ((portAt s p).sweeps.filter (·.quad == q)).length)

/-- A reroute of Qq: at once, or waiting until the oldest sweep is acknowledged. -/
def reroute (q cause : Nat) (s : State) : State :=
  if pathsFull s q || !(quadAt s q).reroutes.isEmpty then updQuad q (fun k => { k with reroutes := k.reroutes ++ [cause] }) s
  else pumpHub (rerouteNow q cause s)

/-- Reroutes that waited take place while no path is full. -/
def pendingReroutes (q : Nat) (s : State) : State :=
  match (quadAt s q).reroutes with
  | [] => s
  | c :: _ => if pathsFull s q then s else
    pumpHub (rerouteNow q c (updQuad q (fun k => { k with reroutes := k.reroutes.drop 1 }) s))

/-! ### The commands of chapter 6 and of R106 -/

/-- SWEEP_MARKER_ARRIVAL (R107): the oldest marker of the path that has not arrived arrives. -/
def execSweepMarkerArrival (requester : Fin 6) (q : Fin 4) (s : State) : Answered :=
  whenReleased s fun s => updPort requester (fun d =>
    match d.sweeps.findIdx? fun w => w.quad == q.val && !w.arrived with
    | some i => { d with sweeps := d.sweeps.modify i fun w => { w with arrived := true } }
    | none => d) s

/-- Every earlier request of a generation on a path is visible or answered (R106). -/
def generationDone (s : State) (p q g : Nat) : Bool :=
  s.reqs.all fun r => r.port ≠ p || r.parts.all fun x =>
    !(quadOf x.gch == q && x.gen == g && (x.stage = .tree || x.stage = .queue))

/-- SWEEP_ACKNOWLEDGE (R106, R107). -/
def execSweepAcknowledge (requester : Fin 6) (q : Fin 4) (s : State) : Answered :=
  whenReleased s fun s =>
    match (portAt s requester).sweeps.find? (·.quad == q.val) with
    | some w =>
      if w.arrived && generationDone s requester q w.gen then
        pendingReroutes q (updPort requester (fun d => { d with sweeps := dropFirst (· == w) d.sweeps }) s)
      else s
    | none => s

end Sys2Proof.Machine
end

