-- ==== Sys2Proof/Machine/Fabric.lean ====
section
/-!
DEFINITION. Basket (R304 to R313): which FP requests it takes, lines in store and atomic mode, and their flushes.
-/
namespace Sys2Proof.Machine

/-- Mode of the line a request needs: none for store mode, else operation and format codes (R305). -/
def lineMode (r : Req) : Option (Nat × Nat) :=
  if r.op.isAtomic then some (bits r.r.opField.toNat 3 0, bits r.r.opField.toNat 7 4) else none

/-- Requests a request stands for (R308). -/
def represents (r : Req) : Nat := if r.op = .combined then bits r.r.opField.toNat 23 8 else 1

/-- Flushes that have not entered their root queue; each still takes its line (R308). -/
def flushesAtHub (s : State) : List Req := s.reqs.filter fun r => r.op = .flush && r.parts.any (·.stage = .hub)

/-- Lines in use. -/
def linesUsed (s : State) : Nat := s.fabric.lines.length + (flushesAtHub s).length

/-- The held element at an offset. -/
def heldAt (l : Line) (o : Nat) : Option (FVal × Nat) := (l.held.find? (·.1 == o)).map (·.2)

/-- Reduce one operand element into a line (Table 10.2). -/
def reduceElem (op code : Nat) (o a : Nat) (l : Line) : Line :=
  let f := floatFmt code
  let v := match f with
    | some f => decodeFloat code f a
    | none => FVal.fin false 0
  let isAdd := op = 0
  let new : FVal × Nat := match heldAt l o, atomOp op with
    | none, _ => (toF32 v, a)
    | some h, some g =>
      if isAdd && f.isSome then (f32Add h.1 v, a) else (h.1, atomElem g code h.2 a 0)
    | some h, none => h
  { l with held := (o, new) :: l.held.filter (·.1 ≠ o) }

/-- A line with a request merged (R306, R307). -/
def mergeLine (r : Req) (l : Line) : Line :=
  let (lo, hi) := lineRange r
  let l := match lineMode r with
    | none =>
      let bs := if r.op = Op.zero then List.replicate r.bytes 0 else slice r.r.data 0 r.bytes
      { l with data := l.data.take lo ++ bs ++ l.data.drop hi,
               mask := l.mask ||| ((2 ^ r.bytes - 1) * 2 ^ lo) }
    | some (op, code) =>
      let w := elemBits code / 8
      forEach ((elements w (slice r.r.data 0 r.bytes)).zipIdx) (fun x l => reduceElem op code (lo + x.2 * w) x.1 l) l
  { l with reqs := l.reqs ++ [r.id], represented := l.represented + represents r }

/-- Memory's bytes after an atomic-mode line is applied to them (Table 10.2). -/
def applyLine (l : Line) (prior : Bytes) : Bytes :=
  match l.atomic with
  | none => prior
  | some (op, code) =>
    let w := elemBits code / 8
    forEach l.held (fun h bs =>
      let m := field bs h.1 w
      let v := match floatFmt code, op with
        | some f, 0 => match (decodeFloat code f m).add h.2.1 with
          | some v => encodeFloat code f .nearest (addOverflow code) v
          | none => Config.unstatedElement code m (f32Bits h.2.1) % 2 ^ elemBits code
        | _, _ => match atomOp op with
          | some g => atomElem g code m h.2.2 0
          | none => m
      bs.take h.1 ++ leBytes w v ++ bs.drop (h.1 + w)) prior

/-- The flush of a line as a request of FP: its first request's group, class and segment (R308). Where a move has put the segment
elsewhere meanwhile, it goes by the older lookup of its requests, and so to both slots (R82). -/
def flushReq (s : State) (l : Line) : Req :=
  let mem := l.reqs.filterMap (reqAt s)
  let first := mem.head?.getD { id := 0, port := 4, op := .flush, r := { tag := 0 } }
  let cur := ((mem.find? fun m => m.cur.place ≠ (curEntry s m.seg).place).getD first).cur
  let r : Request := { tag := 0, domain := first.r.domain, lenCode := 6, group := first.r.group, addr := BitVec.ofNat 41 l.addr, data := l.data }
  { id := 0, port := 4, op := .flush, r := r, bytes := 64, entry := 32 + l.group, cls := first.cls, seg := first.seg, cur := cur,
    parts := partsOf s cur.place cur.fostered r 64, released := true, queuedAt := some s.clk.hub,
    merged := mem.map fun m => (m.id, lineRange m), line := some l }

/-- Flush a line: its flush joins the front end, and the line is counted (R308). -/
def flushLine (l : Line) (forced : Bool) (s : State) : State :=
  let q := flushReq s l
  let s := s.onFabric fun f => { f with lines := f.lines.filter (·.addr ≠ l.addr),
                                        totals := (f.totals.modify 1 (· + 1)).modify 2 (· + b2n forced) }
  pumpHub (addReq q s)

/-- Flush the open lines that satisfy a test, in the order they were opened. -/
def flushWhere (forced : Bool) (p : Line → Bool) (s : State) : State :=
  forEach (sortBy (·.opened) (s.fabric.lines.filter p)) (fun l s => flushLine l forced s) s

/-- A request's bytes overlap a line (R308 event 4). -/
def touchesLine (r : Req) (l : Line) : Bool :=
  decide (r.r.addr.toNat < l.addr + 64) && decide (l.addr < r.r.addr.toNat + r.bytes)

/-- A request of FP that bypassed Basket still waits at the front end behind a line's bytes. -/
def bypassWaits (s : State) (l : Line) : Bool :=
  s.reqs.any fun o => o.port == 4 && o.released && !o.basket && o.op ≠ .flush && o.op.hasAddress && touchesLine o l
    && o.parts.any (·.stage = .hub)

/-- A request is merged into the line of its address, which flushes when it is full (R308 event 2) or when a request that has
bypassed Basket waits for its bytes (event 4). -/
def joinLine (r : Req) (s : State) : State :=
  let a := lineOf r
  let s := s.onFabric fun f => { f with lines := f.lines.map fun l => if l.addr = a then mergeLine r l else l,
                                        totals := f.totals.modify 0 (· + 1) }
  let s := updReq r.id (fun q => { q with basket := true }) s
  match s.fabric.lines.find? (·.addr = a) with
  | some l =>
    if l.cap ≤ l.reqs.length || 65535 ≤ l.represented then flushLine l false s
    else if bypassWaits s l then flushLine l true s else s
  | none => s

/-- An empty line for a request (R305, R322). -/
def newLine (s : State) (r : Req) : Line :=
  { addr := lineOf r, atomic := lineMode r, opened := s.clk.hub, window := objGet s 0x4C20 0, cap := objGet s 0x4C21 0,
    group := r.r.group.val }

/-- Open a line for a request. -/
def openLine (r : Req) (s : State) : State := s.onFabric fun f => { f with lines := f.lines ++ [newLine s r] }

/-- Requests that wait for a line: this one, and at the heads of FP's other entries those that passed their entry's conditions,
that Basket takes and that no open line serves. -/
def waitingForLine (s : State) (r : Req) : Nat :=
  1 + ((List.range 8).filter fun g =>
    32 + g ≠ r.entry && (entryAt s (32 + g)).stuck && match ((entryAt s (32 + g)).queue.head?).bind (reqAt s) with
    | some o => basketTakes s o && s.fabric.lines.all (·.addr ≠ lineOf o)
    | none => false).length

/-- Notice 0x8031, at most once per 1 ms (R311). -/
def basketFull (r : Req) (s : State) : State :=
  let due := match s.fabric.fullAt with
    | some t => decide (t + 1000000 ≤ s.clk.hub)
    | none => true
  if due then
    notify .hub 0x8031 1 (leBytes 2 (Nat.min 65535 (waitingForLine s r))) (s.onFabric fun f => { f with fullAt := some s.clk.hub })
  else s

/-- An earlier request of FP that overlaps a request's bytes is still to be released: the request waits at the head of its entry,
so that requests merge in port order (R102, R306; DESIGN CHOICE, assumption 111). -/
def earlierWaits (s : State) (r : Req) : Bool :=
  s.reqs.any fun o => o.port == 4 && decide (o.id < r.id) && !o.released && o.op.hasAddress && o.status.isNone
    && decide (o.r.addr.toNat < r.r.addr.toNat + r.bytes) && decide (r.r.addr.toNat < o.r.addr.toNat + o.bytes)

/-- A line is made free for a request that finds none: the earliest open line flushes, one for each request that waits (R308
event 6). -/
def makeRoom (r : Req) (s : State) : State :=
  if linesUsed s < 4096 || waitingForLine s r ≤ (flushesAtHub s).length then s
  else match sortBy (·.opened) s.fabric.lines with
    | l :: _ => flushLine l true s
    | [] => s

/-- A released FP request that Basket takes finds its place: false when it waits at the head of its entry (R305, R311). -/
def placeInBasket (r : Req) (s : State) : State × Bool :=
  let a := lineOf r
  let fits := fun (l : Line) => l.atomic = lineMode r && decide (l.represented + represents r ≤ 65535)
  if earlierWaits s r then (s, false) else
  match s.fabric.lines.find? (·.addr = a) with
  | some l =>
    if fits l then (joinLine r s, true)
    else
      let s := flushLine l (l.atomic ≠ lineMode r) s
      if (flushesAtHub s).any (fun q => lineOf q = a) then (s, false) else (joinLine r (openLine r s), true)
  | none =>
    if (flushesAtHub s).any (fun q => lineOf q = a) then (s, false)
    else
      let s := makeRoom r s
      if linesUsed s < 4096 then (joinLine r (openLine r s), true) else (basketFull r s, false)

/-- A released FP request that bypasses Basket flushes the lines that it, or a member of its locked sequence, overlaps (R308
event 4, R309). -/
def bypassBasket (rs : List Req) (s : State) : State :=
  flushWhere true (fun l => rs.any fun r => r.op.hasAddress && touchesLine r l) s

/-- A fence of FP flushes the lines that hold a request in its scope (R308 event 5). -/
def fenceBasket (scopeGroup : Option (Fin 8)) (s : State) : State :=
  flushWhere true (fun l => match scopeGroup with
    | none => true
    | some g => (l.reqs.filterMap (reqAt s)).any fun r => r.r.group == g) s

end Sys2Proof.Machine
end

