-- ==== Sys2Proof/Machine/Regulation.lean ====
section
/-!
DEFINITION. The regulators (chapter 7): floors and effective reservations, gates, balances and credit, the release of a
queue's head at a service class, urgency, reservation sets, latency monitors and samples.
-/
namespace Sys2Proof.Machine

/-! ### Floors (R202, R203) -/

/-- Rate fraction of a throttle level (Table 12.2). -/
def rateFraction (level : Nat) : Rat := if level ≤ 8 then 1 - level / 16 else if level = 9 then 1 / 2 else 1 / 4

/-- Sum of the channel terms of a stack, MB/s, at a rate fraction (R202). -/
def stackTerm (s : State) (n : Nat) (f : Rat) : Rat :=
  let live := ((List.range 64).filter fun c => liveChannel s (64 * n + c)).length
  live * (7 / 20 * 4 * pinRate s * f)

/-- Live bundles of a link group; one in retrain counts as live (R444). -/
def bundlesUp (g : LinkGroup) : Nat := ((List.range 16).filter fun b => bit g.live b || bit g.retrain b).length

/-- Floor of Qk: with the throttles in force, or at f = 1 (R202, R205). -/
def quadFloor (s : State) (admission : Bool) (k : Nat) : Rat :=
  if inSlate s k || isOffline s k then 0
  else
    let terms := (List.range 8).map fun u => stackTerm s (8 * k + u) (if admission then 1 else rateFraction (publishedLevel s (8 * k + u)))
    let sum := terms.foldl (· + ·) 0
    let cap : Rat := bundlesUp (linkAt s (4 + k)) * 900000
    if sum ≤ cap then sum else cap

/-- Link group of a port (R458). -/
def portGroup (p : Nat) : Nat := if p < 4 then p else 8

/-- Floor of a port. -/
def portFloor (s : State) (p : Nat) : Nat := bundlesUp (linkAt s (portGroup p)) * 900000

/-- The constraints in the order of R206: ports CP0 to CP3 and FP as 0 to 4, then Q0 to Q3 as 5 to 8. -/
def floorOf (s : State) (admission : Bool) (x : Nat) : Rat := if x < 5 then portFloor s x else quadFloor s admission (x - 5)

/-- What an entry's reservation counts against a constraint (R203). -/
def countsFor (x e : Nat) (r : RegEntry) (rsv : Nat) : Rat :=
  if x < 5 then (if e < 40 && e / 8 == x then rsv else 0)
  else if r.scope = 0x0F then rsv / 4 else if r.scope = x - 5 then rsv else 0

/-- Whether a constraint counts an entry. -/
def countedBy (x e : Nat) (r : RegEntry) : Bool :=
  if x < 5 then e < 40 && e / 8 == x else r.scope == 0x0F || r.scope == x - 5

def loadOf (x : Nat) (es : List (Nat × RegEntry)) (rsv : Nat → Nat) : Rat :=
  (es.map fun e => countsFor x e.1 e.2 (rsv e.1)).foldl (· + ·) 0

/-- Effective reservations under scales (R206). -/
def scaled (es : List (Nat × RegEntry)) (sc : List Nat) (e : Nat) : Nat :=
  (look ({} : RegEntry) e es).rsv * nth sc e 65536 / 65536

/-- One constraint of R206 over the scales left by the earlier ones. -/
def fitConstraint (es : List (Nat × RegEntry)) (floor : Rat) (x : Nat) (sc : List Nat) : List Nat :=
  let step := fun (acc : List Nat × Bool) (p : Nat) =>
    if acc.2 then acc else
    let load := loadOf x es (scaled es acc.1)
    if load ≤ floor then (acc.1, true) else
    let lp := loadOf x (es.filter (·.2.priority == p)) (scaled es acc.1)
    let others := load - lp
    let mine := fun (e : Nat) => es.any fun y => y.1 == e && y.2.priority == p && countedBy x y.1 y.2
    if others ≤ floor then
      let num := (ratFloor (65536 * (floor - others) / lp)).toNat
      (acc.1.zipIdx.map fun y => if mine y.2 then y.1 * num / 65536 else y.1, true)
    else (acc.1.zipIdx.map fun y => if mine y.2 then 0 else y.1, false)
  ((List.range 8).foldl step (sc, false)).1

/-- Effective reservations of all entries from their configured values and the floors (R206). -/
def rescale (floors : List Rat) (entries : List RegEntry) : List Nat :=
  let es := entries.zipIdx.map fun x => (x.2, x.1)
  let sc := (List.range 9).foldl (fun sc x => fitConstraint es (nth floors x 0) x sc) (List.replicate 48 65536)
  (List.range 48).map (scaled es sc)

/-- Floors with throttles in force. -/
def floors (s : State) : List Rat := (List.range 9).map (floorOf s false)

/-- Floors in the order of object 0x3820. -/
def shownFloors (s : State) : List Nat :=
  ((List.range 4).map fun k => (ratFloor (quadFloor s false k)).toNat) ++ (List.range 5).map (portFloor s)

/-- Notice 0x8012 (R207). -/
def rescaledNotice (cause : Nat) (s : State) : State :=
  let below := s.reg.entries.any fun e => decide (e.eff < e.rsv)
  notify .hub 0x8012 (if below then 1 else 0)
    (leBytes 1 cause ++ (shownFloors s).flatMap (leBytes 4) ++ (s.reg.entries.map (·.eff)).flatMap (leBytes 4)) s

/-- Effective reservations in force from now. -/
def setEffective (effs : List Nat) (s : State) : State :=
  s.onReg fun r => { r with entries := r.entries.zipIdx.map fun x => { x.1 with eff := nth effs x.2 0 } }

/-! ### Gates (R199 to R201) -/

def GateList.cycle (l : GateList) : Nat := total (l.entries.map (·.1))

/-- Entry in force at a time and the time left of it. -/
def GateList.at (l : GateList) (t : Nat) : Nat × Nat :=
  let pos := t % l.cycle
  let r := l.entries.foldl (fun (acc : Nat × Nat × Option (Nat × Nat)) e =>
    match acc.2.2 with
    | some _ => acc
    | none => if pos < acc.2.1 + e.1 then (acc.1, acc.2.1, some (acc.1, acc.2.1 + e.1 - pos)) else (acc.1 + 1, acc.2.1 + e.1, none))
    (0, 0, none)
  r.2.2.getD (0, 0)

/-- Open mask at a time; an empty list keeps every group open. -/
def GateList.mask (l : GateList) (t : Nat) : Nat :=
  if l.entries.isEmpty then 0xFF else (nth l.entries (l.at t).1 (0, 0)).2

/-- How long the gate of a group stays open from a time, across entries and the cycle boundary; none when it never closes. -/
def GateList.openFor (l : GateList) (t g : Nat) : Option Nat :=
  if l.entries.all (fun e => bit e.2 g) then none
  else
    let (j, left) := l.at t
    let round := l.entries.drop j ++ l.entries.take j
    match round with
    | [] => none
    | e :: rest => some (if bit e.2 g then left + total ((rest.takeWhile fun x => bit x.2 g).map (·.1)) else 0)

/-- How long the gate of a group has been open at a time, across entries and the cycle boundary; none when it never closes or
is closed. -/
def GateList.openSince (l : GateList) (t g : Nat) : Option Nat :=
  if l.entries.all (fun e => bit e.2 g) then none
  else
    let (j, left) := l.at t
    match l.entries[j]? with
    | none => none
    | some e =>
      let back := (l.entries.take j).reverse ++ (l.entries.drop (j + 1)).reverse
      if bit e.2 g then some (e.1 - left + total ((back.takeWhile fun x => bit x.2 g).map (·.1))) else none

/-- The gate of a group has opened since a time (R191). -/
def GateList.opened (l : GateList) (t g since : Nat) : Bool :=
  match l.openSince t g with
  | some n => decide (since < t - n)
  | none => false

/-- The gate of a group permits a release now (R200). -/
def gatePermits (s : State) (p g : Nat) : Bool :=
  let l := nth s.reg.gates p {}
  match l.openFor s.clk.hub g with
  | none => true
  | some n => decide (0 < n) && decide (l.guard ≤ n)

/-! ### Release (R190 to R193) -/

/-- Return the credits of the flits that a released request fills (R40, R188). -/
def returnFlits (p : Nat) (ids : List Nat) (s : State) : State :=
  forEach ids (fun id s => updPort p (fun d =>
    match d.flits.find? (·.1 == id) with
    | none => d
    | some f =>
      if f.2.2.2 ≤ 1 then
        let d := { d with flits := d.flits.filter (·.1 != id) }
        if f.2.2.1 then { d with oweB := modNth d.oweB f.2.1 (· + 1) } else { d with oweA := modNth d.oweA f.2.1 (· + 1) }
      else { d with flits := d.flits.map fun g => if g.1 == id then (g.1, g.2.1, g.2.2.1, g.2.2.2 - 1) else g }) s) s

/-- Members of a request's locked sequence, or itself. -/
def membersOf (s : State) (r : Req) : List Req := if r.locked.isEmpty then [r] else r.locked.filterMap (reqAt s)

/-- Charge of a request, or the sum of a locked sequence's members (R189). -/
def releaseCharge (s : State) (r : Req) : Nat := total ((membersOf s r).map (·.charge))

/-- A free sequencer place of a home quadrant (R260). -/
def freeOuting (s : State) (q : Nat) : Option Nat := leastFrom (fun i => s.engines.outings.all fun o => o.1 != (q, i)) 256 0

/-- Hand an outing to its sequencer (R258). -/
def acceptOuting (r : Req) (q i : Nat) (s : State) : State :=
  let block := (List.range (r.bytes / 64)).map fun j => slice r.r.data (64 * j) 64
  let o : Outing := { req := r.id, port := r.port, tag := r.r.tag.toNat, domain := r.r.domain.toNat, collective := r.r.collective, block := block }
  let s := updReq r.id (fun r => { r with owner := some (q, i) }) s
  s.onEngines fun g => { g with outings := g.outings ++ [((q, i), o)] }

/-- The Done response of a request that touches no memory. -/
def emptyDone (r : Req) : Resp := { kind := 1, tag := r.r.tag.toNat, req := some r.id, opcode := opcodeOf r.op }

/-- Where a released request goes, and what Collective declare and Replica release do (R115, R314): false when it must wait at the head for Basket or its sequencer (R260, R311). -/
def sendOn (r : Req) (s : State) : State × Bool :=
  if r.op = .outing then
    let q := bits r.r.opField.toNat 1 0
    match freeOuting s q with
    | some i => (acceptOuting r q i s, true)
    | none => (s, false)
  else if r.op = .declare then
    let s := updPort r.port (fun d => { d with collective := r.r.opField.toNat * 2 ^ 20 }) s
    (respond r.port (emptyDone r) (updReq r.id (fun q => { q with status := some 0 }) s), true)
  else if r.op = .release then (respond r.port (emptyDone r) (updReq r.id (fun q => { q with status := some 0 }) s), true)
  else if basketTakes s r then placeInBasket r s
  else (if r.port == 4 then bypassBasket (membersOf s r) s else s, true)

/-- Requests of an entry that a balance or a gate holds, the head among them (R210); a locked sequence is its members. A head
that waits for a Basket line or a sequencer is held by neither. -/
def heldDepth (s : State) (e : Nat) : Nat :=
  if (entryAt s e).stuck then 0 else total (((entryAt s e).queue.filterMap (reqAt s)).map fun r => (membersOf s r).length)

/-- The running sampling period ends, once hub time has reached its end: all entries together; periods that passed since held
no release (R49, R210). -/
def endSamples (s : State) : State :=
  let next := (s.reg.sampled / s.reg.period + 1) * s.reg.period
  if s.clk.hub < next then s else
  let last := s.clk.hub / s.reg.period * s.reg.period
  s.onReg fun r => { r with
    sampled := last,
    entries := r.entries.zipIdx.map fun (x, e) =>
      { x with depth := heldDepth s e, depthMax := Nat.max x.depthMax (heldDepth s e),
               delay := if x.delayN = 0 || next < last then 0 else x.delaySum / x.delayN,
               delayMax := Nat.max x.delayMax x.delayPeak, delayPeak := 0, delaySum := 0, delayN := 0 } }

/-- Release the head of an entry (R191): class, counts, delay, credits of its flits. -/
def releaseHead (e : Nat) (r : Req) (cls : Nat) (s : State) : State :=
  let s := endSamples s
  let now := s.clk.hub
  let d := now - r.queuedAt.getD now
  let n := (membersOf s r).length
  let s := updEntry e (fun x => { x with queue := x.queue.drop 1, stuck := false, delaySum := x.delaySum + n * d, delayN := x.delayN + n,
                                         delayPeak := Nat.max x.delayPeak d }) s
  let s := forEach (membersOf s r) (fun m s => returnFlits m.port m.flits (updReq m.id (fun q => { q with released := true, cls := cls }) s)) s
  bump (if cls = 3 then 0x8200 else 0x8201) (e + 1) (releaseCharge s r / 32) s

/-- Examine the head of an entry's queue once: the state, and whether it was released (R191, R200, R211). -/
def examineOnce (e : Nat) (s : State) : State × Bool :=
  match ((entryAt s e).queue.head?).bind (reqAt s) with
  | none => (s, false)
  | some r =>
    let s := updEntry e (fun x => { x with seen := s.clk.hub }) s
    if r.op = .fence || r.op = .fullFence then (releaseHead e r 0 s, true)
    else
      let free := fixedMapOn s
      let gate := free || e ≥ 40 || gatePermits s (e / 8) (e % 8)
      let verdict := if free then some (0, entryAt s e) else judge s e (releaseCharge s r)
      match gate, verdict with
      | true, some (cls, x) =>
        let (t, ok) := sendOn { r with cls := cls } s
        if ok then
          let t := updEntry e (fun y => { y with br := x.br, bt := x.bt, v := x.v, win := x.win }) t
          (releaseHead e r cls t, true)
        else (updEntry e (fun y => { y with stuck := true }) t, false)
      | _, _ => (updEntry e (fun y => { y with stuck := false }) s, false)

/-- Release heads of an entry until one waits. -/
def examineQueue (e : Nat) (s : State) : State := go ((entryAt s e).queue.length) s
where
  go : Nat → State → State
    | 0, s => s
    | n + 1, s => let r := examineOnce e s; if r.2 then go n r.1 else r.1

/-- Heads of FP's entries that wait for Basket try again: one that is released may let another join its line (R306). -/
def examineStuck (s : State) : State :=
  forEach (List.range 64) (fun i s => if (entryAt s (32 + i % 8)).stuck then examineQueue (32 + i % 8) s else s) s

/-- Examine an entry until its head waits. -/
def examine (e : Nat) (s : State) : State :=
  let s := examineQueue e s
  pumpHub (if 32 ≤ e ∧ e < 40 then examineStuck s else s)

/-- Requests have left the queues: a request that is now at the head of its entry is examined (R191). -/
def examineHeads (before s : State) : State :=
  forEach (List.range 46) (fun e s =>
    if (entryAt s e).queue.head? = (entryAt before e).queue.head? then s else examine e s) s

/-- Examine every entry. -/
def examineAll (s : State) : State := forEach (List.range 46) examine s

/-- What waits only for a Basket line or a sequencer tries again; with every enabled quadrant in Slate mode every head goes
(R211, R260, R311). -/
def retryHeads (s : State) : State :=
  pumpHub (forEach (List.range 46) (fun e s => if (entryAt s e).stuck || fixedMapOn s then examine e s else s) s)

/-- A request enters the queue of its entry (R188). -/
def enterQueue (id : Nat) (s : State) : State :=
  match reqAt s id with
  | none => s
  | some r =>
    let now := s.clk.hub
    let s := forEach (membersOf s r) (fun m s => updReq m.id (fun q => { q with queuedAt := some now, held := false }) s) s
    let first := (entryAt s r.entry).queue.isEmpty
    let s := updEntry r.entry (fun x => { x with queue := x.queue ++ [id] }) s
    if first then examine r.entry s else s

/-! ### Latency (R209) -/

/-- The entry's 1 ms window ends, once hub time has reached its end: notice 0x8013 when it held an excess. -/
def endLatencyWindow (entry : Nat) (s : State) : State :=
  let last := nth s.reg.latWin entry 0
  let x := entryAt s entry
  if s.clk.hub < (last / 1000000 + 1) * 1000000 then s else
  let s := s.onReg fun r => { r with latWin := modNth r.latWin entry (fun _ => s.clk.hub / 1000000 * 1000000) }
  let s := updEntry entry (fun x => { x with winWorst := 0, winExcess := 0 }) s
  if x.winExcess = 0 then s else
  notify .hub 0x8013 1 (leBytes 1 entry ++ leBytes 4 x.limit ++ leBytes 4 x.winWorst ++ leBytes 4 x.winExcess) s

/-- A request of an entry has sent its final response, or completed to its issuer; it counts in the window that hub time
lies in (R49). One that never entered the queue has no latency. -/
def recordLatency (e : Nat) (since : Option Nat) (s : State) : State :=
  match since with
  | none => s
  | some t =>
    let lat := s.clk.hub - t
    updEntry e (fun x =>
      let over_ := decide (x.limit ≠ 0) && decide (x.limit < lat)
      { x with worst := Nat.max x.worst lat,
               excess := if over_ then x.excess + 1 else x.excess,
               winWorst := if over_ then Nat.max x.winWorst lat else x.winWorst,
               winExcess := if over_ then x.winExcess + 1 else x.winExcess }) (endLatencyWindow e s)

/-- LATENCY_WINDOW_END (R209). -/
def execLatencyWindowEnd (entry : Fin 48) (s : State) : Answered := whenReleased s (endLatencyWindow entry)

/-! ### Windows (R190, R197, R207, R212) -/

/-- The window boundary that comes next. -/
def nextBoundary (s : State) : Nat := (s.reg.window / s.reg.w + 1) * s.reg.w

/-- Objects 0x3830, 0x3831, 0x3850 and 0x3860 as written come into force (R212). -/
def takeWritten (s : State) : State :=
  s.onReg fun r => { r with
    fpUrg := (List.range 8).map fun g => objGet s 0x3830 (g + 1),
    engUrg := (List.range 6).map fun e => objGet s 0x3831 (e + 1),
    period := objGet s 0x3860 0,
    entries := r.entries.zipIdx.map fun x => { x.1 with limit := objGet s 0x3850 (x.2 + 1) } }

/-- A pair has been at level 3 throughout 64 windows ending at a boundary (R197). -/
def demotes (w at_ : Nat) (u : Urgency) : Bool :=
  u.level == 3 && !u.demoted && !u.chatter && decide (ceilDiv u.since w * w + 64 * w ≤ at_)

/-- Demote pairs held at level 3 for 64 windows (R197). -/
def demoteUrgency (at_ : Nat) (s : State) : State :=
  forEach (List.range 32) (fun i s =>
    if demotes s.reg.w at_ (nth s.reg.urgency i {}) then
      let s := s.onReg fun r => { r with urgency := modNth r.urgency i fun u => { u with demoted := true } }
      notify .hub 0x8010 1 (leBytes 1 (i / 8 + 1) ++ leBytes 1 (i % 8)) s
    else s) s

/-- Recomputed reservations that wait apply at a boundary, with notice 0x8012 when any changed (R207). -/
def applyRescaled (s : State) : State :=
  match s.reg.rescaled with
  | none => s
  | some (cause, effs) =>
    let changed := effs ≠ s.reg.entries.map (·.eff)
    let s := setEffective effs (s.onReg fun r => { r with rescaled := none })
    if changed then rescaledNotice cause s else s

/-- REGULATION_WINDOW_BOUNDARY (R190): the next boundary, once hub time has reached it. -/
def execRegulationWindowBoundary (s : State) : Answered :=
  whenReleased s fun s =>
    let t := nextBoundary s
    if s.clk.hub < t then s else
    let s := s.onReg fun r => { r with window := t }
    let s := takeWritten (applyRescaled s)
    let s := s.onReg fun r => { r with entries := r.entries.map (atWindow r.w t) }
    examineAll (demoteUrgency t s)

/-- CREDIT_POSITIVE (R191, R193). -/
def execCreditPositive (entry : Fin 48) (s : State) : Answered :=
  whenReleased s fun s =>
    let x := entryAt s entry
    if x.credit && decide (0 < creditOf s x) then examine entry s else s

/-- GATE_OPEN (R191, R200). -/
def execGateOpen (port : PortId) (group : Fin 8) (s : State) : Answered :=
  whenReleased s fun s =>
    let e := 8 * port.val + group.val
    if (nth s.reg.gates port {}).opened s.clk.hub group (entryAt s e).seen then examine e s else s

/-! ### Gate lists -/

/-- A written gate list of Table 7.3; none when a field breaks it. -/
def gateListOf (bs : Bytes) : Option GateList :=
  let n := field bs 0 1
  let guard := field bs 4 4
  let es := (List.range n).map fun j => (field bs (8 + 8 * j) 4, field bs (12 + 8 * j) 1)
  let ok := decide (8 ≤ bs.length) && bs.length == 8 + 8 * n && decide (n ≤ 64) && zeros bs 1 3
    && decide (8 ≤ guard) && decide (guard ≤ 10000)
    && (List.range n).all (fun j => zeros bs (13 + 8 * j) 3) && es.all (fun e => decide (guard + 8 ≤ e.1))
    && decide (total (es.map (·.1)) ≤ 10000000)
  if ok then some ⟨guard, es, bs⟩ else none

/-- Make a list pending on a port: the state, and whether it was accepted (R201). -/
def writeGateList (p : Nat) (bs : Bytes) (s : State) : State × Bool :=
  match gateListOf bs with
  | none => (s, false)
  | some l =>
    let cur := nth s.reg.gates p {}
    let after := fun (c : Nat) => (s.clk.hub / c + 1) * c
    let t := if l.cycle ≠ 0 then after l.cycle else if cur.cycle ≠ 0 then after cur.cycle else s.clk.hub
    (s.onReg fun r => { r with gateNext := modNth r.gateNext p fun _ => some (l, t) }, true)

/-- GATE_LIST_ACTIVATE (R201). -/
def execGateListActivate (port : PortId) (s : State) : Answered :=
  whenReleased s fun s =>
    match nth s.reg.gateNext port none with
    | none => s
    | some (l, t) =>
      if s.clk.hub < t then s else
      let s := s.onReg fun r => { r with gates := modNth r.gates port fun _ => l, gateNext := modNth r.gateNext port fun _ => none }
      forEach ((List.range 8).map (8 * port.val + ·)) examine s

/-! ### Reservation sets (R204, R205) -/

/-- A record of Table 7.5 as an entry; none when malformed. -/
def recordOf (bs : Bytes) : Option (Nat × RegEntry) :=
  let e := field bs 0 1
  let scope := field bs 1 1
  let credit := bit (field bs 3 1) 0
  let burst := field bs 12 4
  let ok := decide (e ≤ 45) && (decide (scope ≤ 3) || scope == 0x0F) && decide (field bs 2 1 ≤ 7) && decide (field bs 3 1 ≤ 1)
    && (if credit then decide (4096 ≤ burst) && decide (burst ≤ 1048576) else burst == 0)
  if ok then some (e, { scope := scope, priority := field bs 2 1, credit := credit, rsv := field bs 4 4, cap := field bs 8 4, burst := burst })
  else none

/-- The result of Table 7.6 for a written set, and the set when it is admitted. -/
def judgeSet (s : State) (bs : Bytes) : Nat × Option (Nat × List (Nat × RegEntry)) :=
  let n := field bs 1 1
  let w := field bs 4 4
  let rec_ := fun (i : Nat) => recordOf (slice bs (16 + 16 * i) 16)
  let entry := fun (i : Nat) => field bs (16 + 16 * i) 1
  let headOk := decide (16 ≤ bs.length) && field bs 0 1 == 1 && decide (n ≤ 46) && zeros bs 2 2 && decide (100 ≤ w) && decide (w ≤ 100000)
    && zeros bs 8 8 && bs.length == 16 + 16 * n
  let idx := List.range n
  let badRec := idx.find? fun i => (rec_ i).isNone || (List.range i).any (fun j => entry j == entry i)
  let recs := idx.filterMap rec_
  let badCap := idx.find? fun i => match rec_ i with
    | some r => r.2.cap ≠ 0 && decide (r.2.cap < r.2.rsv)
    | none => false
  let rsv := fun (e : Nat) => (look ({} : RegEntry) e recs).rsv
  let overQuad := (List.range 4).find? fun k => decide (floorOf s true (5 + k) < loadOf (5 + k) recs rsv)
  let overPort := (List.range 5).find? fun p => decide (floorOf s true p < loadOf p recs rsv)
  if !headOk then (0x01, none)
  else match badRec, badCap with
    | some i, _ => (0x01 + 256 * i, none)
    | none, some i => (0x02 + 256 * i, none)
    | none, none =>
      if fixedMapOn s then (0x05, none)
      else match overQuad, overPort with
        | some k, _ => (0x03 + 256 * k, none)
        | none, some p => (0x04 + 256 * (p + 1), none)
        | none, none => (0x00, some (w, recs))

/-- Write a reservation set: the state, and whether it was admitted (R205). -/
def writeReservationSet (bs : Bytes) (s : State) : State × Bool :=
  let (result, set) := judgeSet s bs
  let s := s.onReg fun r => { r with result := result }
  match set with
  | none => (s, false)
  | some (w, recs) => (s.onReg fun r => { r with pending := some ⟨w, (s.clk.hub / w + 1) * w, recs⟩ }, true)

/-- A set comes into force at an instant: entries, balances, virtual times, windows. Every V is the instant, as R205 says, and
not the 0 of R193 (DESIGN CHOICE, assumption 106). -/
def activateSet (set : ReservationSet) (s : State) : State :=
  let s := s.onReg fun r => { r with
    w := set.w, window := set.at_, pending := none, rescaled := none,
    urgency := if set.w = r.w then r.urgency else r.urgency.map fun u => if u.level = 3 then { u with since := set.at_ } else u,
    entries := r.entries.zipIdx.map fun x =>
      let n := look ({} : RegEntry) x.2 set.records
      { x.1 with rsv := n.rsv, cap := n.cap, scope := n.scope, priority := n.priority, credit := n.credit, burst := n.burst,
                 br := 0, bt := 0, v := set.at_, win := set.at_ } }
  let s := setEffective (rescale (floors s) s.reg.entries) s
  let s := s.onReg fun r => { r with entries := r.entries.map (refill r.w) }
  if s.reg.entries.any fun e => decide (e.eff < e.rsv) then rescaledNotice 6 s else s

/-- RESERVATION_SET_ACTIVATE (R205). -/
def execReservationSetActivate (s : State) : Answered :=
  whenReleased s fun s =>
    match s.reg.pending with
    | none => s
    | some set => if s.clk.hub < set.at_ then s else examineAll (demoteUrgency set.at_ (takeWritten (activateSet set s)))

/-- Effective reservations are computed anew from a cause of Table 7.8; they wait for the next boundary (R206, R207). A later
cause takes the place of one whose values still wait (DESIGN CHOICE, assumption 105). -/
def recompute (cause : Nat) (s : State) : State :=
  s.onReg fun r => { r with rescaled := some (cause, rescale (floors s) r.entries) }

/-- FLOOR_RECOMPUTE (R206, R207). -/
def execFloorRecompute (cause : Fin 8) (s : State) : Answered := whenReleased s (recompute cause)

/-! ### Urgency inputs (R195, R196) -/

/-- Index of a pair. -/
def pairNo (port : Fin 4) (group : Fin 8) : Nat := 8 * port.val + group.val
def updUrgency (i : Nat) (f : Urgency → Urgency) (s : State) : State := s.onReg fun r => { r with urgency := modNth r.urgency i f }

/-- A pair's filtered level becomes a value (R195, R197). -/
def setLevel (i v : Nat) (s : State) : State :=
  updUrgency i (fun u => if u.level = v then u else { u with level := v, since := s.clk.hub, demoted := false }) s

/-- URGENCY_LEVEL_CHANGE (R195): samples of at least 32 ns that all show one value. -/
def execUrgencyLevelChange (port : Fin 4) (group : Fin 8) (samples : List (Fin 4)) (spanNs : Nat) (s : State) : Answered :=
  whenReleased s fun s =>
    match samples with
    | [] => s
    | v :: rest =>
      let steady := rest.all (· == v) && decide (32 ≤ spanNs) && decide (spanNs ≤ 4 * rest.length)
      let u := nth s.reg.urgency (pairNo port group) {}
      if steady && !u.chatter && !(portAt s port).quiet then setLevel (pairNo port group) v s else s

/-- URGENCY_CHATTER_START (R196): more than 16 changes of raw value within 1 µs. -/
def execUrgencyChatterStart (port : Fin 4) (group : Fin 8) (changes : Nat) (s : State) : Answered :=
  whenReleased s fun s =>
    if changes ≤ 16 then s else
    let s := setLevel (pairNo port group) 0 s
    updUrgency (pairNo port group) (fun u => { u with chatter := true, worst := Nat.max u.worst changes }) s

/-- URGENCY_CHATTER_END (R196): 10 µs without a change. The notice shows at most 255 changes (DESIGN CHOICE, assumption 88). -/
def execUrgencyChatterEnd (port : Fin 4) (group : Fin 8) (worst quietNs : Nat) (s : State) : Answered :=
  whenReleased s fun s =>
    let u := nth s.reg.urgency (pairNo port group) {}
    if !u.chatter || quietNs < 10000 then s else
    let most := Nat.min 255 (Nat.max u.worst worst)
    let s := updUrgency (pairNo port group) (fun u => { u with chatter := false, worst := 0 }) s
    notify .hub 0x8011 1 (leBytes 1 (port.val + 1) ++ leBytes 1 group ++ leBytes 1 most) s

/-! ### Samples (R210) -/

/-- SAMPLING_BOUNDARY (R210). -/
def execSamplingBoundary (s : State) : Answered := whenReleased s endSamples

/-- Set the maxima and the worst latencies to 0 (R210, Table 7.9). -/
def clearSamples (s : State) : State :=
  s.onReg fun r => { r with entries := r.entries.map fun x => { x with worst := 0, depthMax := 0, delayMax := 0, delayPeak := 0 } }

/-! ### Commands of other chapters that act through the regulators -/

/-- ARBITER_DECISION (R177). A root grant lets the front ends place more. -/
def execArbiterDecision (arbiter : ArbId) (s : State) : Answered :=
  whenReleased s fun s =>
    let s := decide1 arbiter s
    match arbiter with
    | .root _ _ => retryHeads (pumpHub s)
    | _ => s

/-- COMBINING_WINDOW_EXPIRY (R308 event 1): the line of an address whose window has ended flushes. -/
def execCombiningWindowExpiry (line : Nat) (s : State) : Answered :=
  whenReleased s fun s =>
    match s.fabric.lines.find? (·.addr = line) with
    | some l => if s.clk.hub < l.opened + l.window then s else retryHeads (flushLine l false s)
    | none => s

end Sys2Proof.Machine
end

