-- ==== Sys2Proof/Machine/Sequencer.lean ====
section
/-!
DEFINITION. What the sequencers, the moves and the map-out copies share as issuers of ENG's requests (R188, R266, R291): outings and
active descriptors, failures, the issue of reads and writes through the regulation entries 40 to 45, and their completion.
-/
namespace Sys2Proof.Machine

/-! ### Outings and active descriptors -/

def outingAt (s : State) (q i : Nat) : Option Outing := (s.engines.outings.find? (·.1 == (q, i))).map (·.2)
def updOuting (q i : Nat) (f : Outing → Outing) (s : State) : State :=
  s.onEngines fun g => { g with outings := g.outings.map fun o => if o.1 == (q, i) then (o.1, f o.2) else o }
def Outing.find (o : Outing) (idx : Nat) : Option Active := o.active.find? (·.index == idx)
def updActive (q i idx : Nat) (f : Active → Active) (s : State) : State :=
  updOuting q i (fun o => { o with active := o.active.map fun a => if a.index = idx then f a else a }) s
/-- The running descriptor that a command names. -/
def activeAt (s : State) (q i idx : Nat) : Option (Outing × Active) :=
  (outingAt s q i).bind fun o => ((o.find idx).filter (!·.ended)).map fun a => (o, a)

/-- The engines of a quadrant run: it serves, and its outing is not silenced. -/
def engineRuns (s : State) (q : Nat) : Bool :=
  let k := quadAt s q
  k.st = .normal && k.resetAt.isNone && k.lostAt.isNone && !fixedMapOn s

/-- Record a failure (R265): once for each descriptor. -/
def failDesc (q i idx err : Nat) (s : State) : State :=
  match (outingAt s q i).bind (·.find idx) with
  | none => s
  | some a =>
    if a.error ≠ 0 then s else
    let stop := bit (field a.bytes 1 1) 0
    let s := updActive q i idx (fun a => { a with error := err }) s
    updOuting q i (fun o => { o with
      failed := o.failed + 1, firstErr := if o.firstErr = 0 then err else o.firstErr,
      firstIdx := if o.firstErr = 0 then idx else o.firstIdx, stopped := o.stopped || stop,
      outcome := if stop then 2 else Nat.max 1 o.outcome }) (bump 0x8103 6 1 s)

/-- A descriptor ends; it stays listed while its writes are not visible. -/
def endDesc (q i idx : Nat) (s : State) : State :=
  match activeAt s q i idx with
  | none => s
  | some _ =>
    let s := updActive q i idx (fun a => { a with ended := true, bags := [], walk := none }) s
    bump 0x8600 (q + 1) 1 (updOuting q i (fun o => { o with ended := o.ended + 1 }) s)

/-- A descriptor fails and ends. -/
def stopDesc (q i idx err : Nat) (s : State) : State := endDesc q i idx (failDesc q i idx err s)

/-- The error of touching a segment under a domain (R266): 0x02, 0x03 or none. -/
def touchError (s : State) (domain a : Nat) : Nat :=
  let e := curEntry s (a / 2 ^ 22)
  if 2 ^ 41 ≤ a || e.state = .absent then 2
  else if e.domain ≠ domain then 3
  else
    let q := quadOf (granuleAt s e.place e.fostered a).gch
    if inSlate s q || isOffline s q then 2 else 0

/-- The error of writing a range: it must lie in one segment, Live, of the domain and, where one is named, of the tag. -/
def writeError (s : State) (domain a n : Nat) (fmt : Option Nat) : Nat :=
  if a / 2 ^ 22 ≠ (a + n - 1) / 2 ^ 22 then 1 else
  let errs := (granules a n).map fun g => touchError s domain g.1
  match errs.find? (· ≠ 0) with
  | some e => e
  | none => match fmt with
    | some f => if (curEntry s (a / 2 ^ 22)).fmt = f then 0 else 4
    | none => 0

/-- Engine requests in flight of a sequencer, and of the hub merge unit (R291). -/
def engInFlight (s : State) (q : Nat) : Nat := (s.reqs.filter fun r => r.port == 5 && r.entry == 40 + q).length
def mergeInFlight (s : State) : Nat := (s.reqs.filter fun r => r.port == 5 && r.entry == 45).length

/-- A sequencer's tracker has room. -/
def trackerRoom (s : State) (q : Nat) : Bool := decide (engInFlight s q < 16384)

/-! ### Requests of ENG (R188, R291) -/

/-- A request of ENG joins its regulation entry and is counted. -/
def engIssue (w : Req) (s : State) : State := enterQueue s.nextReq (bump 0x8100 6 1 (addReq w s))

/-- Pieces of a byte range that one request carries: none passes a 4 KiB boundary, the largest length of R94. -/
def pieces (a n : Nat) : List (Nat × Nat) :=
  if n = 0 then [] else
  (List.range ((a + n - 1) / 4096 + 1 - a / 4096)).map fun i =>
    let lo := Nat.max a ((a / 4096 + i) * 4096)
    let hi := Nat.min (a + n) ((a / 4096 + i + 1) * 4096)
    (lo, hi - lo)

/-- A request of an outing for a range of the local map. -/
def engReq (s : State) (q i : Nat) (o : Outing) (op : Op) (entry a n : Nat) (data : Bytes) : Req :=
  let e := curEntry s (a / 2 ^ 22)
  let r : Request := { tag := BitVec.ofNat 16 o.tag, domain := BitVec.ofNat 6 o.domain, addr := BitVec.ofNat 41 a, data := data,
                       collective := o.collective }
  let parts := partsOf s e.place e.fostered r n
  { id := s.nextReq, port := 5, op := op, r := r, bytes := n, entry := entry, charge := chargeOfReq a n, seg := a / 2 ^ 22, cur := e,
    parts := if op.isRead then markUnknown s parts else parts, held := true, owner := some (q, i), collective := o.collective }

/-- Issue one read of a sequencer; a range that may not be touched, or that does not carry a format tag that it must carry, gives its
error at once (R266, R269). -/
def issueRead (q i idx key : Nat) (fmt : Option Nat) (x : Nat × Nat) (s : State) : State :=
  match outingAt s q i with
  | none => s
  | some o =>
    let tag := match fmt with
      | some f => if (curEntry s (x.1 / 2 ^ 22)).fmt = f then 0 else 4
      | none => 0
    let errs := (((granules x.1 x.2).map fun g => touchError s o.domain g.1) ++ [tag]).filter (· ≠ 0)
    let f : Fetch := { idx := idx, key := key, addr := x.1, len := x.2, req := s.nextReq }
    let hold := fun (f : Fetch) => updOuting q i (fun o => { o with fetches := o.fetches ++ [f] })
    match errs with
    | e :: _ => hold { f with got := some { bytes := List.replicate x.2 0, err := e } } s
    | [] => engIssue (engReq s q i o .read (40 + q) x.1 x.2 []) (hold f s)

/-- Reads that a descriptor holds for a purpose and a range, by address. -/
def fetchesFor (s : State) (q i idx key a n : Nat) : List Fetch :=
  match outingAt s q i with
  | none => []
  | some o => sortBy (·.addr) (o.fetches.filter fun f => f.idx = idx && f.key = key && decide (f.addr < a + n) && decide (a < f.addr + f.len))

/-- Two reads as one: the bytes joined, and the first error. -/
def EngRead.join (x y : EngRead) : EngRead :=
  { bytes := x.bytes ++ y.bytes, bad := x.bad ++ y.bad, err := if x.err = 0 then y.err else x.err }

/-- A read met a poisoned or lost sector. -/
def EngRead.poison (x : EngRead) : Bool := !x.bad.isEmpty

/-- What the reads for a range gave, once all of it has come. -/
def fetched (s : State) (q i idx key a n : Nat) : Option EngRead :=
  let fs := fetchesFor s q i idx key a n
  if total (fs.map fun f => Nat.min (f.addr + f.len) (a + n) - Nat.max f.addr a) < n || fs.any (·.got.isNone) then none else
  let r := (fs.filterMap (·.got)).foldl EngRead.join {}
  some { r with bytes := slice r.bytes (a - (fs.head?.map (·.addr)).getD a) n,
                bad := r.bad.filter fun k => decide (a / 32 ≤ k) && decide (k ≤ (a + n - 1) / 32) }

/-- Issue the reads of a range of an operand that are not held yet, as far as the tracker has room (R291). -/
def fetchAs (fmt : Option Nat) (q i idx key a n : Nat) (s : State) : State :=
  forEach (pieces a n) (fun x s =>
    if !(fetchesFor s q i idx key x.1 x.2).isEmpty || !trackerRoom s q then s else issueRead q i idx key fmt x s) s

/-- The same of a range whose segment's format tag plays no part. -/
def fetch (q i idx key a n : Nat) (s : State) : State := fetchAs none q i idx key a n s

/-- The same of an array that is read in order, sector by sector: sectors that an earlier read brought are not read again
(R189). -/
def fetchArray (q i idx key a n : Nat) (s : State) : State :=
  let lo := a / 32 * 32
  let hi := (a + n + 31) / 32 * 32
  let from_ := (fetchesFor s q i idx key lo (hi - lo)).foldl (fun m f => Nat.max m (f.addr + f.len)) lo
  fetch q i idx key from_ (hi - from_) s

/-- Reads that satisfy a test are held no longer. -/
def dropFetches (q i : Nat) (p : Fetch → Bool) (s : State) : State :=
  updOuting q i (fun o => { o with fetches := o.fetches.filter fun f => !p f }) s

/-- A descriptor has writes to issue: they follow as its tracker takes them. -/
def addDue (q i idx : Nat) (d : Due) (s : State) : State :=
  if d.data.isEmpty then s else updActive q i idx (fun x => { x with due := x.due ++ [d] }) s

/-- The tracker behind a regulation entry has room (R291). -/
def entryRoom (s : State) (entry : Nat) : Bool := if entry = 45 then decide (mergeInFlight s < 1024) else trackerRoom s (entry - 40)

/-- A write of a descriptor may not be made: the descriptor fails. A walk stops there, a Transcode copy ends. -/
def dueFails (q i idx err : Nat) (s : State) : State :=
  let s := failDesc q i idx err s
  match (outingAt s q i).bind (·.find idx) with
  | none => s
  | some a =>
    let first := fun (m : Nat) => ((a.due.map (·.stream)).filter (· < 2 ^ 64)).foldl Nat.min m
    let s := updActive q i idx (fun x => { x with due := [], walk := x.walk.map fun w =>
      { w with stream := first w.stream, finished := true, rest := [], ahead := [] } }) s
    if field a.bytes 0 1 = 3 then endDesc q i idx s else s

/-- Issue the first write that a descriptor still has to issue: in requests of at most 4 KiB, once its place has been looked up
(R266, R269). A silenced outing issues none (R294). -/
def issueDue (q i idx : Nat) (s : State) : State :=
  match (outingAt s q i).bind fun o => (o.find idx).bind fun a => a.due.head?.map fun d => (o, d) with
  | none => s
  | some (o, d) =>
    let (at_, n) := ((pieces d.addr d.data.length).head?).getD (d.addr, 0)
    let err := writeError s o.domain at_ n d.fmt
    if o.silent || !engineRuns s q || !entryRoom s d.entry then s
    else if err ≠ 0 then
      (if field (((o.find idx).map (·.bytes)).getD []) 0 1 = 1 then
        updActive q i idx (fun x => { x with due := x.due.drop 1 }) (failDesc q i idx err s) else dueFails q i idx err s)
    else
      let left := d.data.drop n
      let keep := fun (x : Active) => { x with
        due := if left.isEmpty then x.due.drop 1 else { d with addr := d.addr + n, stream := d.stream + n, data := left } :: x.due.drop 1,
        writes := x.writes ++ [(s.nextReq, d.stream)] }
      let w := engReq s q i o (if d.poison then .poison else .write) d.entry at_ n (d.data.take n)
      engIssue w (updOuting q i (fun o => { o with written := o.written + w.charge }) (updActive q i idx keep s))

/-- Issue what descriptors have to write, in their order, as far as the trackers have room. -/
def pumpDue (s : State) : State :=
  forEach (s.engines.outings.flatMap fun o => o.2.active.flatMap fun a => a.due.flatMap fun d =>
    (pieces d.addr d.data.length).map fun _ => (o.1.1, o.1.2, a.index)) (fun x s => issueDue x.1 x.2.1 x.2.2 s) s

/-! ### Moves (R79, R188) -/

/-- A granule of a slot was ever written, or has no home and so reads as poison. -/
def granuleWritten (s : State) (p : Place) (G : Nat) : Bool :=
  (List.range 8).any fun k => match segSector s p G k with
    | none => true
    | some (a, i) => touched s a.gch a.bank a.row || !(queuedWrites s a i).isEmpty

/-- The granule from a move's cursor up that is copied next: one on which a write is on its way, or that was ever written;
16,384 when no more is left. What was never written reads as zero at the target as well (R72, R74). -/
def nextGranule (s : State) (m : Move) : Nat :=
  (((List.range 16384).drop m.cursor).find? fun G =>
    s.reqs.any (fun o => o.seg = m.seg && underWay o (m.seg * 16384 + G)) || granuleWritten s m.source G).getD 16384

def updMove (seg : Nat) (f : Move → Move) (s : State) : State :=
  s.onMap fun m => { m with moves := m.moves.map fun x => if x.seg = seg then f x else x }

/-- A request of a copy at a granule: a read of the source or a write of the target (R79 step 2). -/
def moveReq (s : State) (m : Move) (op : Op) (e : Entry) (data : Bytes) (poison : Nat) : Req :=
  let a := m.seg * 2 ^ 22 + m.cursor * 256
  let r : Request := { tag := 0, domain := e.domain, addr := BitVec.ofNat 41 a, data := data }
  let parts := (partsOf s e.place e.fostered r 256).map fun p => { p with poison := poison }
  { id := s.nextReq, port := 5, op := op, r := r, bytes := 256, entry := 44, charge := 256, seg := m.seg, cur := e,
    parts := if op.isRead then markUnknown s parts else parts, held := true }

/-- A move among the first 16 goes on: its cursor passes what needs no copy, and the next granule is read once no write of it is
on its way (R79; DESIGN CHOICE, assumption 110). -/
def pumpMove (seg : Nat) (s : State) : State :=
  match (s.map.moves.take 16).find? (·.seg = seg) with
  | none => s
  | some m =>
    if m.busy.isSome || 16384 ≤ m.cursor then s else
    let G := nextGranule s m
    let m := { m with cursor := G }
    let s := updMove seg (fun x => { x with cursor := G }) s
    if 16384 ≤ G || s.reqs.any (fun o => o.seg = seg && underWay o (seg * 16384 + G)) then s
    else engIssue (moveReq s m .read (curEntry s seg) [] 0) (updMove seg (fun x => { x with busy := some s.nextReq }) s)

/-- A granule of a running move has been read: its target write follows, poisoned where the source was (R229). A read that came
back with an error is made again. -/
def moveRead (r : Req) (err : Nat) (s : State) : State :=
  match s.map.moves.find? fun m => m.busy = some r.id with
  | none => s
  | some m =>
    if err ≠ 0 then updMove m.seg (fun x => { x with busy := none }) s else
    let p := (r.parts.head?).getD { n := 0, gch := 0, frame := 0, e := 0, off := 0, len := 256 }
    engIssue (moveReq s m .write m.target p.data p.poison) (updMove m.seg (fun x => { x with busy := some s.nextReq }) s)

/-- A granule's target write is visible: the cursor passes it. -/
def moveWritten (id : Nat) (s : State) : State :=
  match s.map.moves.find? fun m => m.busy = some id with
  | none => s
  | some m => pumpMove m.seg (updMove m.seg (fun x => { x with busy := none, cursor := x.cursor + 1 }) s)

/-! ### Map-out copies (R188, R345) -/

def updRehome (g : Nat) (f : Rehome → Rehome) (s : State) : State :=
  s.onRehomes fun l => l.map fun h => if h.gch == g then f h else h
def dropRehome (g : Nat) (s : State) : State := s.onRehomes (·.filter (·.gch != g))
def rehomeAt (s : State) (g : Nat) : Option Rehome := s.rehomes.find? (·.gch == g)

/-- A map-out that goes on: its quadrant serves and its stack runs. -/
def mapOutAt (s : State) (g : Nat) : Option Rehome := (rehomeAt s g).filter fun h => h.kind == 3 && !quadStops s (quadOf g)

/-- A row was ever written, or is about to be. -/
def rowWritten (s : State) (a : RowAt) : Bool :=
  touched s a.gch a.bank a.row || (chanAt s a.c).writes.any fun e => e.bank == a.bank && e.row == a.row

/-- A frame has a home whose row was ever written. -/
def frameWritten (s : State) (g f : Nat) : Bool := (homeRow s g f 0 0).any fun x => rowWritten s x.1

/-- The frame of a run, from the cursor up, that is copied next: one whose row was ever written, or whose destination's was; the
run's length when no more is left. What was never written reads as zero at the destination as well (R72). -/
def nextFrame (s : State) (r : Foster) : Nat :=
  (((List.range r.count).drop (r.copied.getD 0)).find? fun k =>
    frameWritten s r.src (r.first + k) || frameWritten s r.dst (r.dstFirst + k)).getD r.count

/-- The segment number that a request of a frame's copy carries: none has it. -/
def noSegment : Nat := 2 ^ 19

/-- A request is the copy of a frame. -/
def Req.copiesFrame (r : Req) : Bool := r.seg == noSegment

/-- A request of a copy for a frame: a read at its source, or a write at its destination (R345 step 3). -/
def frameReq (s : State) (op : Op) (g f strength : Nat) (from_ : List Part) : Req :=
  let part := fun (e : Nat) =>
    let p := ((from_.find? (·.n == e)).getD { n := e, gch := g, frame := f, e := e, off := 0, len := 256 })
    { n := e, gch := g, frame := f, e := e, off := 0, len := 256, left := 8, data := p.data, poison := p.poison,
      slot := (servingSlot s g).getD (slotNo (g / 64) (g % 64)) : Part }
  let parts := (List.range 8).map part
  { id := s.nextReq, port := 5, op := op, r := { tag := 0, domain := 0, addr := BitVec.ofNat 41 (2 ^ 41 - 2048), data := [] }, bytes := 2048,
    entry := 44, charge := 2048, seg := noSegment, cur := { strength := strength }, parts := if op.isRead then markUnknown s parts else parts,
    held := true }

def updRun (r : Foster) (f : Foster → Foster) (s : State) : State :=
  s.onMap fun m => { m with foster := m.foster.map fun x => if x = r then f x else x }

/-- An atomic or a locked sequence is on its way to a frame of a run: its record waits for it. -/
def runBusy (s : State) (r : Foster) : Bool :=
  s.reqs.any fun o => o.op.isWrite && !o.plainWrite && o.parts.any fun p =>
    p.gch == r.src && decide (r.first ≤ p.frame) && decide (p.frame < r.first + r.count) && p.stage ≠ .hub && (p.stage ≠ .done || decide (o.debts ≠ 0))

/-- A map-out goes on with its present run: the cursor passes what needs no copy; the next frame is read, or the run's record
becomes active. -/
def stepMapOut (g : Nat) (s : State) : State :=
  match (mapOutAt s g).bind fun h => (copyRun s g).map fun r => (h, r) with
  | none => s
  | some (h, r) =>
    if h.busy.isSome then s else
    let k := nextFrame s r
    if r.count ≤ k then (if runBusy s r then updRun r (fun x => { x with copied := some k }) s else updRun r (fun x => { x with copied := none }) s)
    else
      let st := match homeRow s g (r.first + k) 0 0 with
        | some (a, _) => if touched s g a.bank a.row then rowStrength s a else 0
        | none => 0
      let s := updRun r (fun x => { x with copied := some k }) (updRehome g (fun h => { h with busy := some s.nextReq }) s)
      engIssue (frameReq s .read g (r.first + k) st []) s

/-- A map-out goes on through the runs that need no copy, up to its next frame. -/
def pumpMapOut (g : Nat) (s : State) : State := forEach (List.range (s.map.foster.length + 1)) (fun _ => stepMapOut g) s

/-- A frame of a map-out has been read: its write at the destination follows, poisoned where the source was (R229). A read that
came back with an error is made again. -/
def frameRead (r : Req) (err : Nat) (s : State) : State :=
  match s.rehomes.find? fun h => h.kind == 3 && h.busy = some r.id with
  | none => s
  | some h => match (copyRun s h.gch).filter fun _ => err = 0 with
    | none => updRehome h.gch (fun h => { h with busy := none }) s
    | some x =>
      let k := x.copied.getD 0
      engIssue (frameReq s .write x.dst (x.dstFirst + k) r.cur.strength r.parts) (updRehome h.gch (fun h => { h with busy := some s.nextReq }) s)

/-- A frame's write is visible: the run's cursor passes it. -/
def frameWasWritten (id : Nat) (s : State) : State :=
  match s.rehomes.find? fun h => h.kind == 3 && h.busy = some id with
  | none => s
  | some h =>
    let s := updRehome h.gch (fun h => { h with busy := none }) s
    pumpMapOut h.gch (match copyRun s h.gch with
      | some x => updRun x (fun x => { x with copied := x.copied.map (· + 1) }) s
      | none => s)

/-! ### Completion (R209, R261, R293) -/

/-- A request of ENG is over: its latency, its progress and its collective bytes count. -/
def engOver (r : Req) (s : State) : State :=
  let q := (r.owner.getD (0, 0)).1
  let idx := fun (o : Outing) => ((o.fetches.find? (·.req = r.id)).map (·.idx)).getD (2 ^ 33)
  let s := match r.owner with
    | none => s
    | some k => s.onEngines fun g => { g with outings := g.outings.map fun o => if o.1 != k then o else (o.1, { o.2 with
        active := o.2.active.map fun a => if a.index = idx o.2 || a.writes.any (·.1 = r.id) then
          { a with writes := a.writes.filter (·.1 != r.id), progress := quadTime s q } else a }) }
  let s := if r.collective then match s.engines.outings.find? fun o => r.owner == some o.1 with
      | some o => serveCollective o.2.port r.bytes ((r.parts.map fun x => x.gch / 64).eraseDups) s
      | none => s
    else s
  recordLatency r.entry r.queuedAt (dropReq r.id s)

/-- A read of ENG has its data, or fails with an error: its descriptor, or its move, goes on. -/
def engReadDone (r : Req) (err : Nat) (s : State) : State :=
  let first := fun (p : Part) => (r.r.addr.toNat / 256 + p.n) * 8 + p.off / 32
  let bad := (sortBy (·.n) r.parts).flatMap fun p => ((List.range 8).filter (bit p.poison)).map (first p + ·)
  let got : EngRead := { bytes := (sortBy (·.n) r.parts).flatMap (·.data), bad := bad, err := err }
  let s := match r.owner with
    | none => s
    | some k => updOuting k.1 k.2 (fun o => { o with
        read := o.read + r.charge, corrected := o.corrected || r.parts.any (·.corrected) }) (bump 0x8104 6 bad.length s)
  let s := bump 0x8101 6 (r.charge / 32) (engOver r s)
  let s := match r.owner with
    | none => s
    | some k => updOuting k.1 k.2 (fun o => { o with fetches := o.fetches.map fun f => if f.req = r.id then { f with got := some got } else f }) s
  pumpDue (frameRead r err (moveRead r err s))

/-- A write of a copy was refused: it is made again from its read. -/
def copyRefused (id : Nat) (s : State) : State :=
  (s.onMap fun m => { m with moves := m.moves.map fun x => if x.busy = some id then { x with busy := none } else x }).onRehomes fun l =>
    l.map fun h => if h.busy = some id then { h with busy := none } else h

/-- A write of ENG is visible: its descriptor, or its move, goes on. -/
def engineWriteDone (r : Req) (s : State) : State :=
  pumpDue (frameWasWritten r.id (moveWritten r.id (bump 0x8102 6 (r.charge / 32) (engOver r s))))

end Sys2Proof.Machine
end

