-- ==== Sys2Proof/Machine/Requests.lean ====
section
/-!
DEFINITION. Requests of the ports (chapter 4): arrival with its checks, locked sequences, fences and holds, visibility and
responses.
-/
namespace Sys2Proof.Machine

/-! ### Taking a request from the receive buffer -/

/-- Pop the oldest received request of a channel when it is this one: the flits it fills, and the state. A command whose
request no flit delivered stands for the arrival of its header (assumption 2). -/
def takeInbox (p opcode : Nat) (r : Request) (s : State) : List Nat × State :=
  match (portAt s p).inbox.find? fun x => x.2.1.mgmt == r.mgmt with
  | some x =>
    if x.1 = opcode && x.2.1 = r then (x.2.2, updPort p (fun d => { d with inbox := dropFirst (· == x) d.inbox }) s) else ([], s)
  | none => ([], s)

/-- A port takes requests: its link is up and its client-facing side is neither quiet nor in reset. -/
def takesRequests (s : State) (p : Nat) : Bool := (portAt s p).up && !(portAt s p).mute && s.power.shutdown = 0

/-! ### Holds (R105, R260) -/

/-- A fence's scope covers a request (R105). -/
def inScope (f r : Req) : Bool := !bit f.r.opField.toNat 0 || f.r.group == r.r.group

/-- A request waits behind an incomplete full fence of its port. -/
def behindFence (s : State) (r : Req) : Bool :=
  s.reqs.any fun f => f.port == r.port && f.op = .fullFence && decide (f.id < r.id) && f.status.isNone && inScope f r

/-- Writes, Write zeros, Poisons and atomics of a port that arrived before and are not visible yet (R103). -/
def earlierWrites (s : State) (r : Req) : List Req :=
  s.reqs.filter fun w => w.port == r.port && decide (w.id < r.id) && w.op ≠ .flush && w.op.isWrite && w.status.isNone

/-- A request must stay at the port front end. -/
def mustHold (s : State) (r : Req) : Bool := behindFence s r || (r.op = .outing && !(earlierWrites s r).isEmpty)

/-- Held requests of a port that nothing holds any more enter their queues, in port order. -/
def wakeHeld (p : Nat) (s : State) : State :=
  forEach ((s.reqs.filter fun r => r.port == p && r.held && (!r.r.lock || r.locked.head? == some r.id)).map (·.id)) (fun id s =>
    match reqAt s id with
    | some r => if mustHold s r then s else enterQueue id s
    | none => s) s

/-! ### Sampling for autonomous placement (R81) -/

/-- Count one request of a compute port; one in 1,024 is a sample of its segment, in a table of 1,024 segments.
A sample of a further segment is dropped while the table is full (DESIGN CHOICE, assumption 85). -/
def samplePlacement (p seg : Nat) (s : State) : State :=
  if objGet s 0x2020 0 = 0 || p ≥ 4 then s else
  let n := nth s.map.seen p 0 + 1
  let s := s.onMap fun m => { m with seen := modNth m.seen p fun _ => n % 1024 }
  if n < 1024 then s else
  s.onMap fun m =>
    if m.samples.any (·.1 == seg) then { m with samples := m.samples.map fun x => if x.1 = seg then (x.1, modNth x.2 p (· + 1)) else x }
    else if m.samples.length < 1024 then { m with samples := m.samples ++ [(seg, modNth [0, 0, 0, 0] p (· + 1))] }
    else m

/-! ### Arrival -/

/-- The tracked form of a request that passed its checks. -/
def buildReq (s : State) (p : Nat) (op : Op) (r : Request) (flits : List Nat) : Req :=
  let a := r.addr.toNat
  let n := match op with
    | .fence | .fullFence | .declare => 0
    | _ => (lenOf r.lenCode.toNat).getD 0
  let e := curEntry s (a / 2 ^ 22)
  let parts := if op.hasAddress then partsOf s e.place e.fostered r n else []
  { id := s.nextReq, port := p, op := op, r := r, bytes := n, entry := 8 * p + r.group.val,
    charge := if op.hasAddress then chargeOfReq a n else 0, seg := a / 2 ^ 22, cur := e,
    parts := if op.isRead then markUnknown s parts else parts, collective := r.collective, flits := flits }

/-- Set or clear a sharer group's bit (R314). -/
def setSharer (seg g : Nat) (v : Bool) (s : State) : State :=
  s.onMap fun m => { m with sharers := put 0 seg (setBit (look 0 seg m.sharers) g v) m.sharers }

/-- What the lookup of an accepted request does at once (R303, R314, R81). -/
def lookupEffects (r : Req) (s : State) : State :=
  let g := bits r.r.opField.toNat 5 0
  let s := match r.op with
    | .fill => if r.cur.replica && r.cur.state ≠ .absent then setSharer r.seg g true s else s
    | .release => setSharer r.seg g false (bump 0x8700 2 1 s)
    | .combined | .combinedFetch => s.onFabric fun f => { f with totals := f.totals.modify 3 (· + bits r.r.opField.toNat 23 8) }
    | _ => s
  if r.op.hasAddress then samplePlacement r.port r.seg s else s

/-- An FP request rejected for its package field (R298): counted, with notice 0x8030 at most once per 1 ms. -/
def misdirected (r : Request) (s : State) : State :=
  let n := s.fabric.misdirected + 1
  let due := match s.fabric.misdirAt with
    | some t => decide (t + 1000000 ≤ s.clk.hub)
    | none => true
  let s := bump 0x8700 4 1 s
  if due then
    let s := s.onFabric fun f => { f with misdirected := 0, misdirAt := some s.clk.hub }
    notify .hub 0x8030 1 (leBytes 1 r.package.toNat ++ leBytes 1 (objGet s 0x4C10 0) ++ leBytes 2 r.tag.toNat ++ leBytes 4 n) s
  else s.onFabric fun f => { f with misdirected := n }

/-- Whether the package check of R298 is what rejected a request with status 0x01. -/
def wrongPackage (s : State) (p : Nat) (r : Request) : Bool :=
  p == 4 && r.package.toNat ≠ objGet s 0x4C10 0

/-- Reject a request that holds its tag, and give its flits' credits back. -/
def rejectHeld (p : Nat) (op : Op) (status : Nat) (r : Request) (flits : List Nat) (s : State) : State :=
  let s := if status = 0x01 && wrongPackage s p r then misdirected r s else s
  reject p status (opcodeOf op) r (returnFlits p flits s)

/-- Take a tag, counted (R97, object 0x8100). -/
def takeTag (p : Nat) (r : Request) (s : State) : State :=
  bump 0x8100 (p + 1) 1 (updPort p (fun d => { d with tags := d.tags ++ [r.tag.toNat] }) s)

/-- Notice 0x8002 (R98). -/
def tagReuse (p : Nat) (r : Request) (s : State) : State := notify .hub 0x8002 1 (leBytes 1 (p + 1) ++ leBytes 2 r.tag.toNat) s

/-- A combined atomic counts on receipt (object 0x8700:03). -/
def countCombined (op : Op) (s : State) : State :=
  if op = .combined || op = .combinedFetch then bump 0x8700 3 1 s else s

/-! ### Locked sequences (R109 to R113) -/

/-- Sectors a member counts: twice for a write of part of a sector (R110). -/
def memberSectors (r : Req) : Nat :=
  let k := sectorsOf r.r.addr.toNat r.bytes
  if r.op.isWrite && (r.r.addr.toNat % 32 ≠ 0 || r.bytes % 32 ≠ 0) then
    total ((List.range k).map fun i =>
      let lo := r.r.addr.toNat / 32 * 32 + 32 * i
      let whole := decide (r.r.addr.toNat ≤ lo) && decide (lo + 32 ≤ r.r.addr.toNat + r.bytes)
      if whole then 1 else 2)
  else k

/-- The first two conditions of R110, judged against the first member. -/
def memberOk (first : Option Request) (op : Op) (r : Request) : Bool :=
  let kind := op = .read || op = .write || op = .atomic || op = .atomicFetch
  let n := (lenOf r.lenCode.toNat).getD 0
  let f := first.getD r
  kind && r.addr.toNat / 256 == f.addr.toNat / 256 && (r.addr.toNat + n - 1) / 256 == f.addr.toNat / 256 && r.domain == f.domain

/-- Answer a member of a failed sequence. -/
def answerMember (p : Nat) (m : Nat × Option Nat) (s : State) : State :=
  match reqAt s m.1 with
  | none => s
  | some r =>
    let s := returnFlits p r.flits (updReq r.id (fun q => { q with status := some (m.2.getD 0x0F), parts := [] }) s)
    let status := m.2.getD 0x0F
    let s := lastError p status (opcodeOf r.op) r.r s
    respond p { kind := 3, tag := r.r.tag.toNat, status := status, opcode := opcodeOf r.op, req := some r.id } s

/-- A sequence fails: every member received so far is answered (R113). -/
def failSequence (p : Nat) (s : State) : State :=
  match (portAt s p).assembly with
  | none => s
  | some a => forEach a.members (answerMember p) (updPort p (fun d => { d with assembly := some { a with failed := true, members := [] } }) s)

/-- A header that is no member breaks a sequence (R113). -/
def breakSequence (p : Nat) (s : State) : State := updPort p (fun d => { d with assembly := none }) (failSequence p s)

/-- A header of the request channel that is a member of a locked sequence. -/
def inSequence (r : Request) : Bool := r.lock && !r.mgmt

/-- Any other header of the request channel breaks a sequence (R109, R113). -/
def breaksSequence (r : Request) : Bool := !r.lock && !r.mgmt

/-- Locked sequences of a port that are not executed (R113). -/
def lockedCount (s : State) (p : Nat) : Nat :=
  (s.reqs.filter fun r => r.port == p && r.locked.head? == some r.id && r.status.isNone).length
    + b2n ((portAt s p).assembly.isSome)

/-- The lock end has arrived: the sequence executes as one unit, or fails (R111, R113). -/
def closeSequence (p : Nat) (s : State) : State :=
  match (portAt s p).assembly with
  | none => s
  | some a =>
    let rs := a.members.filterMap fun m => reqAt s m.1
    let bad := a.failed || a.members.any (·.2.isSome) || decide (8 < total (rs.map memberSectors)) || decide (a.since + 100 < s.clk.hub)
    if bad then breakSequence p s
    else
      let ids := a.members.map (·.1)
      let s := updPort p (fun d => { d with assembly := none }) s
      let s := forEach ids (fun id s => updReq id (fun q => { q with locked := ids }) s) s
      match ids.head?.bind (reqAt s) with
      | some r => if mustHold s r then s else enterQueue r.id s
      | none => s

/-- The sequence a member's header belongs to: the one being assembled, or a new one that it opens. -/
def assemblyOf (p : Nat) (r : Request) (s : State) : Assembly :=
  (portAt s p).assembly.getD { since := s.clk.hub, first := some r }

/-- A locked header that is answered or discarded on its own fails its sequence (R112). -/
def failMember (p : Nat) (r : Request) (s : State) : State :=
  if !inSequence r then s else
  let s := failSequence p (updPort p (fun d => { d with assembly := some (assemblyOf p r s) }) s)
  if r.lockEnd then closeSequence p s else s

/-- A member of a locked sequence arrives (R110 to R113). -/
def arriveMember (p : Nat) (op : Op) (r : Request) (flits : List Nat) (s : State) : State :=
  let a := assemblyOf p r s
  let st := memChecks s p op r (memberOk a.first op r)
  let q := { buildReq s p op r flits with held := true }
  let q := if st.isSome then { q with parts := [], charge := 0 } else q
  let s := lookupEffects (if st.isSome then { q with op := .fence } else q) (addReq q s)
  let s := if st = some 0x01 && wrongPackage s p r then misdirected r s else s
  let s := updPort p (fun d => { d with assembly := some { a with members := a.members ++ [(q.id, st)] } }) s
  let s := if a.failed || st.isSome then failSequence p s else s
  if r.lockEnd then closeSequence p s else s

/-! ### The arrival of a request -/

/-- A fence of FP flushes Basket lines of its scope before it waits (R308 event 5). -/
def fenceFlush (p : Nat) (op : Op) (r : Request) (s : State) : State :=
  if p = 4 && (op = .fence || op = .fullFence) then fenceBasket (if bit r.opField.toNat 0 then some r.group else none) s else s

/-- Accept a request that passed its checks (R97, R105). -/
def accept (p : Nat) (op : Op) (r : Request) (flits : List Nat) (s : State) : State :=
  let s := fenceFlush p op r s
  let q := { buildReq s p op r flits with held := true }
  let s := lookupEffects q (addReq q s)
  if mustHold s q then s else enterQueue q.id s

/-- A request header arrives at a port's front end (R92 to R101). -/
def arrive (p : Nat) (op : Op) (r : Request) (s : State) : State :=
  if !takesRequests s p then s
  else if inSequence r && (portAt s p).assembly.isNone && decide (1024 ≤ lockedCount s p) then s
  else
    let (flits, s) := takeInbox p (opcodeOf op) r s
    let s := if breaksSequence r then breakSequence p s else s
    if (portAt s p).tags.contains r.tag.toNat && tagInRange p r then failMember p r (tagReuse p r (returnFlits p flits s))
    else if !portAccepts p (opcodeOf op) then
      failMember p r (rejectHeld p op 0x04 r flits (if tagInRange p r then takeTag p r s else s))
    else if !tagInRange p r then failMember p r (reject p 0x03 (opcodeOf op) r (returnFlits p flits s))
    else
      let s := countCombined op (takeTag p r s)
      if inSequence r then arriveMember p op r flits s
      else match memChecks s p op r true with
        | some st => rejectHeld p op st r flits s
        | none => accept p op r flits s

/-- An opcode of Table 4.3 or Table 10.1, on whatever port. -/
def listedOpcode (o : Nat) : Bool := portAccepts 0 o || portAccepts 4 o

/-- A received header of an unlisted opcode is answered with status 0x04 when it is the oldest of its channel (R93). -/
def answerUnlisted : Nat → Nat → State → State
  | 0, _, s => s
  | n + 1, p, s =>
    let heads := [false, true].filterMap fun c => (portAt s p).inbox.find? fun x => x.2.1.mgmt == c
    match heads.find? fun x => !listedOpcode x.1 with
    | none => s
    | some x =>
      let s := updPort p (fun d => { d with inbox := dropFirst (· == x) d.inbox }) s
      let s := if breaksSequence x.2.1 then breakSequence p s else s
      let s := returnFlits p x.2.2 s
      let used := (portAt s p).tags.contains x.2.1.tag.toNat
      let s := if tagInRange p x.2.1 && used then tagReuse p x.2.1 s
        else reject p 0x04 x.1 x.2.1 (if tagInRange p x.2.1 then takeTag p x.2.1 s else s)
      answerUnlisted n p (failMember p x.2.1 s)

/-- A request arrives, and unlisted opcodes behind it are answered. -/
def arriveNext (p : Nat) (op : Op) (r : Request) (s : State) : State :=
  let s := arrive p op r s
  answerUnlisted (portAt s p).inbox.length p s

/-! ### The commands of Table 4.3 and Table 10.1 -/

/-- READ (R100). -/
def execRead (port : PortId) (r : Request) (s : State) : Answered := whenReleased s (arriveNext port .read r)
/-- WRITE (R103). -/
def execWrite (port : PortId) (r : Request) (s : State) : Answered := whenReleased s (arriveNext port .write r)
/-- WRITE_ZERO (R233). -/
def execWriteZero (port : PortId) (r : Request) (s : State) : Answered := whenReleased s (arriveNext port .zero r)
/-- POISON (R119). -/
def execPoison (port : PortId) (r : Request) (s : State) : Answered := whenReleased s (arriveNext port .poison r)
/-- ATOMIC (R289). -/
def execAtomic (port : PortId) (r : Request) (s : State) : Answered := whenReleased s (arriveNext port .atomic r)
/-- ATOMIC_FETCH (R287). -/
def execAtomicFetch (port : PortId) (r : Request) (s : State) : Answered := whenReleased s (arriveNext port .atomicFetch r)
/-- OUTING_START (R258 to R260). -/
def execOutingStart (port : PortId) (r : Request) (s : State) : Answered := whenReleased s (arriveNext port .outing r)
/-- REPLICA_FILL (R314). -/
def execReplicaFill (port : PortId) (r : Request) (s : State) : Answered := whenReleased s (arriveNext port .fill r)
/-- REPLICA_RELEASE (R314). -/
def execReplicaRelease (port : PortId) (r : Request) (s : State) : Answered := whenReleased s (arriveNext port .release r)
/-- COMBINED_ATOMIC (R303). -/
def execCombinedAtomic (port : PortId) (r : Request) (s : State) : Answered := whenReleased s (arriveNext port .combined r)
/-- COMBINED_ATOMIC_FETCH (R303). -/
def execCombinedAtomicFetch (port : PortId) (r : Request) (s : State) : Answered :=
  whenReleased s (arriveNext port .combinedFetch r)
/-- COLLECTIVE_DECLARE (R115). -/
def execCollectiveDeclare (port : PortId) (r : Request) (s : State) : Answered := whenReleased s (arriveNext port .declare r)

/-- WRITE_FENCE (R105). -/
def execWriteFence (port : PortId) (r : Request) (s : State) : Answered := whenReleased s (arriveNext port .fence r)
/-- FULL_FENCE (R105). -/
def execFullFence (port : PortId) (r : Request) (s : State) : Answered := whenReleased s (arriveNext port .fullFence r)

/-- LOCK_TIMEOUT (R113): 100 ns of hub time after the first member. -/
def execLockTimeout (port : PortId) (s : State) : Answered :=
  whenReleased s fun s =>
    match (portAt s port).assembly with
    | some a => if s.clk.hub < a.since + 100 then s else failSequence port s
    | none => s

/-! ### Completion -/

/-- A served request's response with the far bit of the quadrants that served it (R67, R99). -/
def withFar (s : State) (r : Req) (x : Resp) : Resp := { x with far := (r.parts.filter (·.copy.isNone)).any (servedFar s r.port) }

/-- The Done response of a request. -/
def doneOf (r : Req) (sectors : Nat) : Resp :=
  { kind := 1, tag := r.r.tag.toNat, req := some r.id, opcode := opcodeOf r.op, sectors := sectors }

/-- An Error response with a status. -/
def errorOf (r : Req) (status sectors : Nat) : Resp :=
  { kind := 3, tag := r.r.tag.toNat, status := status, req := some r.id, opcode := opcodeOf r.op, sectors := sectors }

/-- Every earlier request of a fence's scope has got as far as the fence asks, one that was rejected among them, and every sweep
of a generation that held writes of that scope is acknowledged (R105, R108). -/
def fenceReady (s : State) (f : Req) : Bool :=
  let mine := s.reqs.filter fun r => r.port == f.port && decide (r.id < f.id) && r.op ≠ .flush && inScope f r
  let done := fun (r : Req) =>
    if f.op = .fullFence then false else !r.op.isWrite || r.status.isSome
  let swept := fun (w : Sweep) => !(w.writes.any fun x => decide (x.1 < f.id) && (!bit f.r.opField.toNat 0 || x.2 == f.r.group.val))
  let answered := fun (x : Resp) => !(x.order.any fun o => decide (o.1 ≤ f.id) && (!bit f.r.opField.toNat 0 || o.2 == f.r.group.val))
  f.released && mine.all done && (portAt s f.port).sweeps.all swept && (f.op ≠ .fullFence || (portAt s f.port).resps.all answered)

/-- FENCE_COMPLETE (R108). -/
def execFenceComplete (port : PortId) (tag : BitVec 16) (s : State) : Answered :=
  whenReleased s fun s =>
    match s.reqs.find? fun r => r.port == port.val && r.r.tag == tag && (r.op = .fence || r.op = .fullFence) && r.status.isNone with
    | none => s
    | some f =>
      if !fenceReady s f then s else
      let s := updReq f.id (fun q => { q with status := some 0 }) s
      wakeHeld port (respond port (doneOf f 0) s)

/-- A full fence of FP waits for a write of FP and holds a fill that came after it (R105). -/
def fenceBetween (s : State) (w x : Req) : Bool :=
  let ids := if w.merged.isEmpty then [w.id] else w.merged.map (·.1)
  w.port == 4 && s.reqs.any fun f => f.port == 4 && f.op = .fullFence && f.status.isNone && decide (f.id < x.id) && inScope f x
    && ids.any fun i => decide (i < f.id) && match reqAt s i with
      | some o => inScope f o
      | none => false

/-- Replica fills of an overlapping range that arrived before a write's visibility and are not answered (R316). One that waits,
behind a full fence, for the write itself reads after it (DESIGN CHOICE, assumption 64). -/
def fillsPending (s : State) (w : Req) : Bool :=
  s.reqs.any fun r => r.op = .fill && r.seg == w.seg && !fenceBetween s w r && decide (r.r.addr.toNat < w.r.addr.toNat + w.bytes)
    && decide (w.r.addr.toNat < r.r.addr.toNat + r.bytes)

/-- Bytes of a segment that a write changed: offset and count. -/
def writtenRange (r : Req) : Nat × Nat :=
  match r.line with
  | some l =>
    let ks := (List.range 64).filter fun i => bit l.mask i || l.held.any fun h =>
      decide (h.1 ≤ i) && decide (i < h.1 + elemBits ((l.atomic.getD (0, 0)).2) / 8)
    let lo := ks.head?.getD 0
    let hi := ks.getLast?.getD 0
    (r.r.addr.toNat % 2 ^ 22 + lo, hi + 1 - lo)
  | none => (r.r.addr.toNat % 2 ^ 22, r.bytes)

/-- Every part of a write has passed its comparison and its parity entries (R103, R289). -/
def writeVisible (r : Req) : Bool :=
  r.op.isWrite && r.status.isNone && !r.parts.isEmpty && r.parts.all (·.stage = .done) && r.debts = 0

/-- A merged request touches a poisoned sector of its line. -/
def hitByPoison (poison : Nat) (m : Nat × Nat × Nat) : Bool :=
  (List.range 2).any fun k => bit poison k && decide (m.2.1 < 32 * k + 32) && decide (32 * k < m.2.2)

/-- A visible write changed memory: an atomic, or an atomic-mode line, wrote nothing where it met poison (R289, R310). -/
def wroteMemory (r : Req) : Bool :=
  let poison := ((r.parts.head?).map (·.poison)).getD 0
  match r.line with
  | some l => l.atomic.isNone || !((List.range 2).any fun k => bit poison k && l.held.any fun h => decide (h.1 / 32 = k))
  | none => !r.op.isAtomic || r.parts.any (·.poison == 0)

/-- A visible write sends an invalidation first: it went to a shared replica segment and changed memory (R315). -/
def invalidates (s : State) (r : Req) : Bool :=
  let e := curEntry s r.seg
  e.replica && e.state ≠ .absent && !fixedMapOn s && wroteMemory r

/-- The invalidation a write to a shared replica segment sends first (R315), and its number. -/
def invalidateFor (r : Req) (s : State) : State × Option Nat :=
  if invalidates s r then (invalidate r.seg (writtenRange r).1 (writtenRange r).2 s, invalidMark s r.seg) else (s, none)

/-- An invalidation has left the hub, or was discarded: it is not among FP's responses (R315). -/
def leftHub (s : State) (m : Nat) : Bool := (portAt s 4).resps.all (·.mark != some m)

/-- The response of a visible write: Done, the prior value, or status 0x05 (R100, R119, R289). -/
def writeResponse (r : Req) : Resp :=
  let poisoned := r.op.isAtomic && r.parts.any (·.poison ≠ 0)
  let n := r.charge / 32
  if poisoned then errorOf r 0x05 n
  else if r.op.fetches then
    { kind := 2, tag := r.r.tag.toNat, data := (r.parts.flatMap (·.data)), req := some r.id, opcode := opcodeOf r.op, sectors := n,
      corrected := r.parts.any (·.corrected) }
  else doneOf r n

/-- A write of ENG is visible: its issuer goes on once the invalidation has left (R315). -/
def engineVisible (r : Req) (s : State) : State :=
  match r.behind with
  | some m => if leftHub s m then engineWriteDone r s else s
  | none =>
    match invalidateFor r s with
    | (s, some m) => updReq r.id (fun q => { q with behind := some m }) s
    | (s, none) => engineWriteDone r s

/-- VISIBILITY_POINT (R103): the response waits for the write's invalidation (R315). -/
def execVisibilityPoint (reqId : Nat) (s : State) : Answered :=
  whenReleased s fun s =>
    match reqAt s reqId with
    | none => s
    | some r =>
      if !writeVisible r || r.op = .flush || fillsPending s r then s
      else if r.port ≥ 5 then engineVisible r s
      else
        let (s, m) := invalidateFor r s
        let resp := { withFar s r (writeResponse r) with behind := m }
        let s := updReq r.id (fun q => { q with status := some resp.status }) s
        let s := if resp.status = 0 then s else lastError r.port resp.status (opcodeOf r.op) r.r s
        wakeHeld r.port (respond r.port resp s)

/-- One request that Basket merged into a flush is answered: status 0x05 where an atomic line's poisoned sector holds its
bytes (R119, R310). -/
def answerMerged (f : Req) (m : Nat × Nat × Nat) (s : State) : State :=
  match reqAt s m.1 with
  | none => s
  | some r =>
    let atomic := (f.line.bind (·.atomic)).isSome
    let poison := ((f.parts.head?).map (·.poison)).getD 0
    let st := if atomic && hitByPoison poison m then 0x05 else 0
    let s := updReq r.id (fun q => { q with status := some st }) s
    let s := if st = 0 then s else lastError 4 st (opcodeOf r.op) r.r s
    respond 4 (withFar s r (if st = 0 then doneOf r (r.charge / 32) else errorOf r st (r.charge / 32))) s

/-- BASKET_FLUSH_VISIBLE (R310): one response for each merged request, in arrival order. -/
def execBasketFlushVisible (reqId : Nat) (s : State) : Answered :=
  whenReleased s fun s =>
    match reqAt s reqId with
    | none => s
    | some f =>
      if !writeVisible f || f.op ≠ .flush || fillsPending s f then s else
      wakeHeld 4 (dropReq f.id (forEach f.merged (answerMerged f) (invalidateFor f s).1))

end Sys2Proof.Machine
end

