-- ==== Sys2Proof/Machine/Link.lean ====
section
/-!
DEFINITION. The link layer of the compute and fabric links (R86 to R91): flits, slots, credits, replay, and the responses
that leave.
-/
namespace Sys2Proof.Machine

/-! ### The trailer (Table 4.1) -/

/-- The trailer of a flit as a number. -/
def trailer (flit : Bytes) : Nat := field flit 256 8
def flitSeq (f : Bytes) : Nat := bits (trailer f) 11 0
def flitAck (f : Bytes) : Nat := bits (trailer f) 27 16
def flitControl (f : Bytes) : Nat := bits (trailer f) 43 40
/-- Response channel credits that an inbound flit returns. -/
def flitCredits (f : Bytes) : Nat := bits (trailer f) 35 28
def flitMgmt (f : Bytes) : Bool := bit (trailer f) 44
/-- Slot i is a header slot. -/
def flitHeader (f : Bytes) (i : Nat) : Bool := bit (trailer f) (12 + i)
/-- The flit passes its link check. -/
def flitPasses (f : Bytes) : Bool := f.length == 264 && linkCheck (f.take 262) == field f 262 2

/-! ### Headers and data slots (R91) -/

/-- The opcode and request of a 16-byte header. -/
def parseHeader (bs : Bytes) (mgmt : Bool) : Nat × Request :=
  let w := leNat bs
  (bits w 5 0,
   { tag := BitVec.ofNat 16 (bits w 23 8), domain := BitVec.ofNat 6 (bits w 29 24), lenCode := BitVec.ofNat 4 (bits w 35 32),
     lock := bit w 36, lockEnd := bit w 37, collective := bit w 38, group := Fin.ofNat 8 (bits w 42 40),
     addr := BitVec.ofNat 41 (bits w 88 48), package := BitVec.ofNat 8 (bits w 103 96), opField := BitVec.ofNat 24 (bits w 127 104),
     mgmt := mgmt })

/-- Data bytes that follow a header (R93, R287). -/
def dataBytes (opcode : Nat) (r : Request) : Nat :=
  let n := (lenOf r.lenCode.toNat).getD 0
  if opcode = 0x04 || opcode = 0x19 || opcode = 0x20 then n
  else if opcode = 0x08 || opcode = 0x09 || opcode = 0x2A || opcode = 0x2B then
    if bits r.opField.toNat 3 0 = 9 then 2 * n else n
  else 0

/-- A flit holds one more request (R188). -/
def holdFlit (id : Nat) (d : Port) : Port :=
  { d with flits := d.flits.map fun f => if f.1 = id then (f.1, f.2.1, f.2.2.1, f.2.2.2 + 1) else f }

/-- Headers whose data is complete are delivered, in order. -/
def deliver (d : Port) : Port :=
  let ready := d.pend.takeWhile fun x => x.2.2.1 = 0
  { d with pend := d.pend.drop ready.length,
           inbox := d.inbox ++ ready.map fun x => (x.1, { x.2.1 with data := x.2.1.data.take (dataBytes x.1 x.2.1) }, x.2.2.2) }

/-- One header of a header slot. -/
def takeHeader (id : Nat) (mgmt : Bool) (bs : Bytes) (d : Port) : Port :=
  let (op, r) := parseHeader bs mgmt
  if op = 0 then d else
  holdFlit id { d with pend := d.pend ++ [(op, r, ceilDiv (dataBytes op r) 64, [id])] }

/-- One data slot: it belongs to the first header whose data is still due. -/
def takeData (id : Nat) (bs : Bytes) (d : Port) : Port :=
  match d.pend.findIdx? fun x => decide (0 < x.2.2.1) with
  | none => d
  | some i =>
    let x := nth d.pend i (0, { tag := 0 }, 0, [])
    let new := !x.2.2.2.contains id
    let y := (x.1, { x.2.1 with data := x.2.1.data ++ bs }, x.2.2.1 - 1, if new then x.2.2.2 ++ [id] else x.2.2.2)
    let d := { d with pend := d.pend.set i y }
    if new then holdFlit id d else d

/-- One slot of a flit. -/
def takeSlotOf (id : Nat) (f : Bytes) (d : Port) (i : Nat) : Port :=
  let bs := slice f (64 * i) 64
  deliver (if flitHeader f i then (List.range 4).foldl (fun d j => takeHeader id (flitMgmt f) (slice bs (16 * j) 16) d) d
           else takeData id bs d)

/-- A flit in sequence is delivered; one that holds no request returns its credit at once. -/
def deliverFlit (bundle : Nat) (f : Bytes) (d : Port) : Port :=
  let id := d.nextFlit
  let d := { d with nextFlit := id + 1, flits := d.flits ++ [(id, bundle, flitMgmt f, 0)], expect := (d.expect + 1) % 4096,
                    discarding := false, fails := 0 }
  let d := (List.range 4).foldl (takeSlotOf id f) d
  match d.flits.find? fun x => x.1 = id && x.2.2.2 = 0 with
  | none => d
  | some _ =>
    let d := { d with flits := d.flits.filter (·.1 ≠ id) }
    if flitMgmt f then { d with oweB := modNth d.oweB bundle (· + 1) } else { d with oweA := modNth d.oweA bundle (· + 1) }

/-- Flits held out of order that have become next in sequence are delivered. -/
def deliverEarly : Nat → Port → Port
  | 0, d => d
  | n + 1, d =>
    match d.early.find? (·.1 = d.expect) with
    | none => d
    | some x => deliverEarly n (deliverFlit x.2.1 x.2.2 { d with early := d.early.filter (·.1 ≠ x.1) })

/-- Discard a flit, and return its credit at once (R89). -/
def discardFlit (bundle : Nat) (mgmt : Bool) (d : Port) : Port :=
  if mgmt then { d with oweB := modNth d.oweB bundle (· + 1) } else { d with oweA := modNth d.oweA bundle (· + 1) }

/-- A flit takes one of the client's credits; none when it holds none (R90). -/
def spendCredit (bundle : Nat) (mgmt : Bool) (d : Port) : Option Port :=
  let have_ := nth (if mgmt then d.mgmtCr else d.reqCr) bundle 0
  if have_ = 0 then none
  else some (if mgmt then { d with mgmtCr := modNth d.mgmtCr bundle (· - 1) } else { d with reqCr := modNth d.reqCr bundle (· - 1) })

/-- Sequence a is at or before b in the 4,096-flit cycle. -/
def seqUpTo (a b : Nat) : Bool := decide ((b + 4096 - a) % 4096 < 2048)

/-- An inbound flit's acknowledgement and credits (R87, R88). -/
def takeAck (bundle : Nat) (f : Bytes) (d : Port) : Port :=
  { d with acked := flitAck f, window := d.window.filter fun w => !seqUpTo w.1 (flitAck f),
           respCr := modNth d.respCr bundle (· + flitCredits f) }

/-- Every later flit goes as well, its credit back, until the flit that is asked for comes (R89). -/
def discardLater (d : Port) : Port :=
  let d := d.early.foldl (fun d x => discardFlit x.2.1 (flitMgmt x.2.2) d) d
  { d with discarding := true, wantReplay := true, early := [] }

/-- A link protocol error: discard, replay, notice 0x8001 (R90, Table 4.10). -/
def protocolError (p bundle cause : Nat) (s : State) : State :=
  let s := updPort p discardLater s
  notify .hub 0x8001 1 (leBytes 1 (p + 1) ++ leBytes 1 bundle ++ leBytes 1 cause) s

/-- A bundle is treated as failing: it is due for retrain, and within 1 s of its last retrain due to drop (R443, R444). -/
def failBundle (p b : Nat) (s : State) : State :=
  updLink (portGroup p) (fun g =>
    let again := g.lastRetrain.any fun t => t.1 == b && decide (s.clk.hub < t.2 + 1000000000)
    { g with due := insertNat b g.due, failing := if again then insertNat b g.failing else g.failing }) s

/-- The live bundle that carries the next flit: the one after the bundle of the flit before it, among those on which the complex
holds a response credit (R42, R87; DESIGN CHOICE, assumption 112). -/
def nextBundle (s : State) (p : Nat) : Option Nat :=
  let d := portAt s p
  let ok := (liveBundles (linkAt s (portGroup p))).filter fun b => decide (0 < nth d.respCr b 0)
  (ok.find? fun b => decide (d.lastBundle < b)).or ok.head?

/-- The oldest flit that is due again leaves, where a bundle has a credit for it; it counts as a replay (R42, R89). -/
def replayFlit (p : Nat) (s : State) : State :=
  match (portAt s p).again, nextBundle s p with
  | q :: rest, some b =>
    if !((portAt s p).window.any (·.1 = q)) then updPort p (fun d => { d with again := rest }) s else
    bump 0x8801 (portGroup p + 1) 1 (updPort p (fun d => { d with
      again := rest, lastBundle := b, respCr := modNth d.respCr b (· - 1),
      window := d.window.map fun w => if w.1 = q then (w.1, b, w.2.2.1, w.2.2.2 + 1) else w }) s)
  | _, _ => s

/-- Flits that are due again leave as credits allow, in sequence order. -/
def replayFlits (p : Nat) (s : State) : State := forEach (portAt s p).again (fun _ s => replayFlit p s) s

/-- Sent flits after a sequence are due again; a bundle that last carried one replayed 8 times without success is failing (R89). -/
def resend (p acked : Nat) (s : State) : State :=
  let due := (portAt s p).window.filter fun w => !seqUpTo w.1 acked
  let s := updPort p (fun d => { d with again := due.map (·.1) }) s
  let failing := ((due.filter fun w => 8 ≤ w.2.2.2).map (·.2.1)).eraseDups
  forEach failing (failBundle p) (replayFlits p s)

/-- A flit has failed its check on a bundle: it and every later flit go, and a replay is asked for; the eighth replay of one
sequence that fails makes the bundle failing (R89). -/
def failedFlit (p bundle : Nat) (mgmt : Bool) (s : State) : State :=
  let d := portAt s p
  let n := if d.wantReplay then d.fails else d.fails + 1
  let s := updPort p (fun d => { discardLater ((spendCredit bundle mgmt d).elim d (discardFlit bundle mgmt)) with fails := n }) s
  if 8 < n then failBundle p bundle s else s

/-- A flit that passed its check, holds a credit, and lies at, after or before the expected sequence (R89). -/
def acceptFlit (p bundle : Nat) (f : Bytes) (s : State) : State :=
  let d := portAt s p
  let ahead := (flitSeq f + 4096 - d.expect) % 4096
  if ahead = 0 then
    updPort p (fun d => let d := deliverFlit bundle f d; deliverEarly d.early.length d) s
  else if d.discarding || decide (2048 < ahead) then updPort p (discardFlit bundle (flitMgmt f)) s
  else if ahead < 2048 then updPort p (fun d => { d with early := d.early ++ [(flitSeq f, bundle, f)] }) s
  else protocolError p bundle 2 (updPort p (discardFlit bundle (flitMgmt f)) s)

/-- The bundle is live in the port's link group. -/
def bundleLive (s : State) (p bundle : Nat) : Bool := bit (linkAt s (portGroup p)).live bundle

/-- FLIT_RECEIVED (R40, R86 to R91). -/
def execFlitReceived (port : PortId) (bundle : Fin 16) (flit : Bytes) (s : State) : Answered :=
  whenReleased s fun s =>
    if !takesRequests s port || !bundleLive s port bundle then s
    else if !flitPasses flit then
      failedFlit port bundle (flitMgmt flit) (bump 0x8802 (portGroup port + 1) 1 s)
    else
      let s := updPort port (takeAck bundle flit) s
      let s := if flitControl flit = 1 then resend port (flitAck flit) s else replayFlits port s
      if flitControl flit = 2 then s
      else
        let s := bump 0x8800 (portGroup port + 1) 1 s
        match spendCredit bundle (flitMgmt flit) (portAt s port) with
        | none => protocolError port bundle 1 s
        | some d =>
          let s := acceptFlit port bundle flit (updPort port (fun _ => d) s)
          answerUnlisted (portAt s port).inbox.length port s

/-- LINK_REPLAY (R89): the client asks for every flit after a sequence again. -/
def execLinkReplay (port : PortId) (acked : BitVec 12) (s : State) : Answered :=
  whenReleased s fun s => if (portAt s port).up && !(portAt s port).mute then resend port acked.toNat s else s

/-! ### Responses leaving (R42, R87, R91, R99) -/

/-- The slots of a response: its header slot, then its data. -/
def respSlots (r : Resp) : List (Bool × Bytes) :=
  (true, padTo 64 (leBytes 8 (respHeader r))) ::
    (List.range (ceilDiv r.data.length 64)).map fun i => (false, slice r.data (64 * i) 64)

/-- Groups of four slots; a place no slot fills is a header slot of empty positions. -/
def flitSlots (slots : List (Bool × Bytes)) : List (List (Bool × Bytes)) :=
  (List.range (ceilDiv slots.length 4)).map fun i =>
    (List.range 4).map fun j => nth slots (4 * i + j) (true, List.replicate 64 0)

/-- An outbound flit (Table 4.1). -/
def makeFlit (seq acked creditsA creditsB control : Nat) (slots : List (Bool × Bytes)) : Bytes :=
  let kinds := total (slots.zipIdx.map fun x => if x.1.1 then 2 ^ x.2 else 0)
  let body := slots.flatMap (·.2) ++
    leBytes 6 (seq + kinds * 2 ^ 12 + acked * 2 ^ 16 + creditsA * 2 ^ 28 + creditsB * 2 ^ 36 + control * 2 ^ 40)
  body ++ leBytes 2 (linkCheck body)

/-- One flit of slots leaves, with a credit: it carries the credits owed and the acknowledgement. -/
def sendFlit (p : Nat) (slots : List (Bool × Bytes)) (s : State) : State :=
  match nextBundle s p with
  | none => s
  | some bundle =>
    let f := fun (d : Port) =>
      let a := Nat.min 255 (nth d.oweA bundle 0)
      let b := Nat.min 15 (nth d.oweB bundle 0)
      let flit := makeFlit d.sendSeq ((d.expect + 4095) % 4096) a b (b2n d.wantReplay) slots
      { d with sendSeq := (d.sendSeq + 1) % 4096, window := d.window ++ [(d.sendSeq, bundle, flit, 0)], wantReplay := false,
               lastBundle := bundle, respCr := modNth d.respCr bundle (· - 1), oweA := modNth d.oweA bundle (· - a),
               oweB := modNth d.oweB bundle (· - b), reqCr := modNth d.reqCr bundle (· + a), mgmtCr := modNth d.mgmtCr bundle (· + b) }
    bump 0x8801 (portGroup p + 1) 1 (updPort p f s)

/-- Response credits that the complex holds on the live bundles of a port's link. -/
def creditsHeld (s : State) (p : Nat) : Nat :=
  total ((liveBundles (linkAt s (portGroup p))).map fun b => nth (portAt s p).respCr b 0)

/-- Four slots with nothing in them. -/
def emptySlots : List (Bool × Bytes) := List.replicate 4 (true, List.replicate 64 0)

/-- Credits owed go back in an idle flit on each bundle that owes some: it takes no credit and no sequence number (R87,
R88). -/
def sendIdle (p : Nat) (s : State) : State :=
  let s := updPort p (fun d => { d with idle := [] }) s
  updPort p (fun d => (liveBundles (linkAt s (portGroup p))).foldl (fun d b =>
    let x := Nat.min 255 (nth d.oweA b 0)
    let y := Nat.min 15 (nth d.oweB b 0)
    if x = 0 && y = 0 then d else
    let flit := makeFlit d.sendSeq ((d.expect + 4095) % 4096) x y 2 emptySlots
    { d with oweA := modNth d.oweA b (· - x), oweB := modNth d.oweB b (· - y), reqCr := modNth d.reqCr b (· + x),
             mgmtCr := modNth d.mgmtCr b (· + y), idle := d.idle ++ [(b, flit)] }) d) s

/-- With no response to carry it, a replay request leaves in a flit of empty slots where the complex holds a credit, and
owed credits in idle flits (R89). -/
def sendEmpty (p : Nat) (s : State) : State :=
  if (portAt s p).wantReplay && decide (0 < creditsHeld s p) then sendFlit p emptySlots s else sendIdle p s

/-- Send the flits of a response; none when credits are short. -/
def sendResponse (p : Nat) (r : Resp) (s : State) : Option State :=
  let groups := flitSlots (respSlots r)
  if creditsHeld s p < groups.length then none else some (forEach groups (sendFlit p) s)

/-- Set bits of a mask of 8. -/
def popCount (x : Nat) : Nat := ((List.range 8).filter fun i => bit x i).length

/-- What a sent response counts (objects 0x8101 to 0x8104, 0x8700:01). -/
def countResponse (p : Nat) (r : Resp) (s : State) : State :=
  let read := r.opcode = 0x01 || r.opcode = 0x28
  let s := if read && r.kind = 2 then bump 0x8101 (p + 1) r.sectors s else s
  let s := if !read && (r.kind = 1 || r.kind = 2) then bump 0x8102 (p + 1) r.sectors s else s
  let s := if r.status ≠ 0 then bump 0x8103 (p + 1) 1 s else s
  let s := if r.kind = 2 then bump 0x8104 (p + 1) (popCount r.poison) s else s
  if r.opcode = 0x28 && r.kind = 2 && r.final then bump 0x8700 1 1 s else s

/-- A request's final response has left: its latency (R209). -/
def requestServed (id : Nat) (s : State) : State :=
  match reqAt s id with
  | none => s
  | some q => recordLatency q.entry q.queuedAt s

/-- A response may leave: the invalidation that it follows has left the hub (R315, R318). -/
def mayLeave (s : State) (r : Resp) : Bool := r.behind.all (leftHub s)

/-- The oldest response that may leave does so once credits cover its flits; while none does, owed credits go back (R40). -/
def sendOldest (p : Nat) (s : State) : State :=
  match (portAt s p).resps.find? (mayLeave s) with
  | none => sendEmpty p s
  | some r =>
    match sendResponse p r s with
    | none => sendIdle p s
    | some s =>
      let s := countResponse p r (updPort p (fun d => { d with resps := dropFirst (· == r) d.resps }) s)
      let s := match r.req with
        | some id => if r.final then requestServed id s else s
        | none => s
      endResponse p r s

/-- Notice 0x8005 once a port's queue has space after a drop (R124). -/
def saidDrops (p : Nat) (s : State) : State :=
  let d := portAt s p
  if d.unsaid = 0 || 256 ≤ d.notices.length then s else
  let n : Notice := { code := 0x8005, severity := 1, stamp := hubStamp s, payload := leBytes 1 (p + 1) ++ leBytes 4 d.unsaid }
  journalNotice n (portQueue p n (updPort p (fun d => { d with unsaid := 0 }) s))

/-- The oldest notice of a compute port leaves as a Notice response (R124). -/
def sendNotice (p : Nat) (s : State) : State :=
  match (portAt s p).notices with
  | [] => s
  | n :: rest =>
    match sendResponse p { kind := 8, tag := n.code, data := noticeBody n false } s with
    | none => s
    | some s => saidDrops p (updPort p (fun d => { d with notices := rest }) s)

/-- RESPONSE_SENT (R42): a response, or a notice of the port's queue, leaves, once no flit is due again (R89). -/
def execResponseSent (port : PortId) (notice : Bool) (s : State) : Answered :=
  whenReleased s fun s =>
    if !(portAt s port).up || (portAt s port).mute then s
    else if !(portAt s port).again.isEmpty then sendIdle port (replayFlits port s)
    else if notice then sendNotice port s else sendOldest port s

end Sys2Proof.Machine
end

