-- ==== Sys2Proof/Machine/Ports.lean ====
section
/-!
DEFINITION. A port going quiet, resetting and training again (R117, R118, R183, R431, R441), and its quiet chatter.
-/
namespace Sys2Proof.Machine

/-- Operation of an opcode that travels on the request channel. -/
def opOfOpcode : Nat → Option Op
  | 0x01 => some .read | 0x04 => some .write | 0x05 => some .zero | 0x06 => some .poison | 0x08 => some .atomic
  | 0x09 => some .atomicFetch | 0x10 => some .fence | 0x11 => some .fullFence | 0x14 => some .declare | 0x20 => some .outing
  | 0x28 => some .fill | 0x29 => some .release | 0x2A => some .combined | 0x2B => some .combinedFetch | _ => none

/-- Requests the link has delivered are taken before the port goes quiet (R118). -/
def drainInbox (p : Nat) (s : State) : State :=
  forEach ((portAt s p).inbox.filter fun x => !x.2.1.mgmt) (fun x s =>
    match opOfOpcode x.1 with
    | some o => arriveNext p o x.2.1 s
    | none => s) s

/-- Forget a request: it leaves its regulation queue, its flits' credits return, its tag frees. -/
def retireReq (r : Req) (s : State) : State :=
  let s := updEntry r.entry (fun x => { x with queue := x.queue.filter (· ≠ r.id) }) s
  freeTag r.port r.r.tag.toNat (dropReq r.id (returnFlits r.port r.flits s))

/-- Retire what R183 retires of a port: parts that no root lane has granted, of requests that are neither writes nor in a
complete locked sequence. What has been granted continues. -/
def retireReads (p : Nat) (s : State) : State :=
  let mine := s.reqs.filter fun r => r.port == p && !r.op.isWrite && r.locked.isEmpty && r.owner.isNone
  let s := retireUnits (fun u => u.level == 0 && u.port == p && !u.write) s
  forEach mine (fun r s =>
    let granted := r.parts.any fun x => x.stage = .tree || x.stage = .queue
    if granted then
      updReq r.id (fun q => { q with discard := true, parts := q.parts.filter fun x => x.stage ≠ .hub && x.stage ≠ .root }) s
    else retireReq r s) s

/-- An incomplete locked sequence is dropped (R118). -/
def dropAssembly (p : Nat) (s : State) : State :=
  match (portAt s p).assembly with
  | none => s
  | some a =>
    let s := forEach a.members (fun m s => match reqAt s m.1 with
      | some r => retireReq r s
      | none => s) s
    updPort p (fun d => { d with assembly := none }) s

/-- No further engine request is issued for a port's outings; notice 0x8020, cause 1 (R294). -/
def silenceOutings (p : Nat) (s : State) : State :=
  forEach (s.engines.outings.filter fun o => o.2.port == p && !o.2.silent) (fun o s =>
    let s := s.onEngines fun g => { g with outings := g.outings.map fun x =>
      if x.1 = o.1 then (x.1, { x.2 with silent := true, stopped := true }) else x }
    notify (.med (Fin.ofNat 4 o.1.1)) 0x8020 1 (leBytes 1 (p + 1) ++ leBytes 2 o.2.tag ++ leBytes 1 o.1.1 ++ leBytes 1 1) s) s

/-- Queued responses are discarded (R118). -/
def discardResponses (p : Nat) (s : State) : State :=
  let rs := (portAt s p).resps
  forEach rs (endResponse p) (updPort p (fun d => { d with resps := [] }) s)

/-- Every sharer mask clears; notice 0x8041 follows when FP's link is up (R319). -/
def clearSharers (cause : Nat) (s : State) : State :=
  (s.onMap fun m => { m with sharers := [] }).onFabric fun f => { f with resetCause := some cause }

/-- Root inputs of a port (Table 6.2). -/
def portInputs (p : Nat) : List Nat := (List.range 8).map (8 * p + ·)

/-- The port's side goes silent: what R118, R183, R319 and R412 give a port that becomes quiet or resets. What the link has
delivered is taken first (R118). -/
def silencePort (p : Nat) (quiet : Bool) (s : State) : State :=
  let s := drainInbox p s
  let s := updPort p (fun d => { d with quiet := d.quiet || quiet }) s
  let s := updPort p (fun d => { d with inReset := true, pend := [], inbox := [], early := [], notices := [], unsaid := 0, dict := [],
                                        challenge := none, role := if p < 4 then objGet s 0x1121 (p + 1) else d.role }) s
  let s := if p < 4 then s.onObjs (·.filter fun e => e.1 != objKey 0x1131 (p + 1)) else clearSharers (if (portAt s p).quiet then 2 else 3) s
  let s := s.onTree fun t => { t with masked := (portInputs p).foldl (fun m i => insertNat i m) t.masked }
  let before := s
  let s := dropAssembly p (discardResponses p s)
  let s := silenceOutings p (retireReads p s)
  wakeHeld p (examineHeads before (pumpHub s))

/-- Start a port reset; notice 0x7080 (R441). Cause 1 host, 2 retrain failed, 3 quiet. -/
def startPortReset (p cause : Nat) (hold : Bool) (s : State) : State :=
  let s := if (portAt s p).inReset then updPort p (fun d => { d with quiet := d.quiet || cause == 3 }) s else silencePort p (cause == 3) s
  let s := updPort p (fun d => { d with cause := cause, hold := d.hold || hold }) s
  notify .hub 0x7080 0 (leBytes 1 (p + 1) ++ leBytes 1 cause) s

/-- Work of a port's requests inside the complex has ended (R118, R441). -/
def workEnded (s : State) (p : Nat) : Bool :=
  s.reqs.all (fun r => r.port != p) && s.engines.outings.all (fun o => o.2.port != p) && s.image.waiting.all fun w => match w.1 with
    | .cp q _ _ => q.val != p
    | _ => true

/-- The port's side as a link retrain leaves it (Table 14.4): tags free, sequences at 0, credits afresh. -/
def freshSide (live : List Nat) (d : Port) : Port :=
  let per := fun (n : Nat) => (List.range 16).map fun b => if live.contains b then n else 0
  { d with up := true, trained := true, inReset := false, failures := 0, fails := 0, idle := [], expect := 0, sendSeq := 0, acked := 0,
           discarding := false, wantReplay := false, early := [], reqCr := per 152, mgmtCr := per 8, respCr := per d.advertised,
           oweA := List.replicate 16 0, oweB := List.replicate 16 0, window := [], again := [], lastBundle := 15,
           pend := [], inbox := [], flits := [],
           tags := [], resps := [], assembly := none, notices := [], unsaid := 0 }

/-- The first response on FP's link when it is up again, and the same notice to subscribers (R319). -/
def announceSharersReset (s : State) : State :=
  match s.fabric.resetCause with
  | none => s
  | some c =>
    let n : Notice := { code := 0x8041, severity := 1, stamp := hubStamp s, payload := leBytes 1 c, seq := (portAt s 4).noticeSeq }
    let s := s.onFabric fun f => { f with resetCause := none }
    let s := updPort 4 (fun d => { d with noticeSeq := d.noticeSeq + 1 }) s
    let s := respond 4 { kind := 8, tag := 0x8041, data := noticeBody n false } s
    notify .hub 0x8041 1 (leBytes 1 c) s

/-- A link is up: credits, unmasked inputs; after a port reset dropped bundles are back (R88, R183, R444). -/
def linkUp (p : Nat) (back : Bool) (s : State) : State :=
  let s := updLink (portGroup p) (fun g =>
    let out := if back then 0 else g.dropped
    { g with live := 2 ^ g.size - 1 - out, dropped := out, due := [], failing := [] }) s
  let s := updPort p (freshSide (liveBundles (linkAt s (portGroup p)))) s
  let s := s.onTree fun t => { t with masked := t.masked.filter fun i => !(portInputs p).contains i }
  if p = 4 then announceSharersReset s else s

/-! ### Commands -/

/-- The last 25 samples all show a level (R117). -/
def steady25 (samples : List Bool) (v : Bool) : Bool :=
  decide (25 ≤ samples.length) && (samples.drop (samples.length - 25)).all (· == v)

/-- A port becomes quiet: its reset starts, and its urgency levels are 0 (R117, R195, R441). -/
def becomeQuiet (p : Nat) (s : State) : State :=
  if (portAt s p).quiet then s else
  forEach (List.range 8) (fun g s => setLevel (8 * p + g) 0 s) (startPortReset p 3 false s)

/-- PORT_QUIET_ENTER (R117). -/
def execPortQuietEnter (port : Fin 4) (samples : List Bool) (s : State) : Answered :=
  whenReleased s fun s =>
    if steady25 samples true && (portAt s port).chatter.isNone then becomeQuiet port s else s

/-- PORT_QUIET_LEAVE (R117): the link retrains once its work has ended. -/
def execPortQuietLeave (port : Fin 4) (samples : List Bool) (s : State) : Answered :=
  whenReleased s fun s =>
    if steady25 samples false && (portAt s port).chatter.isNone then
      updPort port (fun d => { d with quiet := false, role := objGet s 0x1121 (port.val + 1) }) s
    else s

/-- QUIET_CHATTER (R117). -/
def execQuietChatter (port : Fin 4) (changes : Nat) (s : State) : Answered :=
  whenReleased s fun s =>
    if changes ≤ 16 then s
    else updPort port (fun d => { d with chatter := some (Nat.max (d.chatter.getD 0) changes) }) (becomeQuiet port s)

/-- QUIET_CHATTER_END (R117): 10 µs without change. The notice shows at most 255 changes (DESIGN CHOICE, assumption 88). -/
def execQuietChatterEnd (port : Fin 4) (quietNs : Nat) (level : Bool) (s : State) : Answered :=
  whenReleased s fun s =>
    match (portAt s port).chatter with
    | none => s
    | some n =>
      if quietNs < 10000 then s else
      let s := updPort port (fun d => { d with chatter := none, quiet := level,
                                                      role := if level then d.role else objGet s 0x1121 (port.val + 1) }) s
      notify .hub 0x8003 1 (leBytes 1 (port.val + 1) ++ leBytes 1 (Nat.min 255 n)) s

/-- LINK_RETRAIN (R88, R118, R441): after the work has ended, out of quiet and of a hold, the client advertises its credits
afresh. The third failure in a row starts a port reset. -/
def execLinkRetrain (port : PortId) (credits : Option Nat) (s : State) : Answered :=
  whenReleased s fun s =>
    let d := portAt s port
    if !d.inReset || d.quiet || d.hold || !workEnded s port || !isReady s || s.power.shutdown ≠ 0 then s
    else match credits.filter fun n => decide (32 ≤ n) with
    | some n => linkUp port true (updPort port (fun d => { d with advertised := n }) s)
    | none =>
      let s := updPort port (fun d => { d with up := false, failures := (d.failures + 1) % 3 }) s
      if d.failures = 2 then startPortReset port 2 false s else s

/-- LINK_TRAINING (R88, R431). -/
def execLinkTraining (port : PortId) (accepted : Bool) (credits : Nat) (s : State) : Answered :=
  whenReleased s fun s =>
    let d := portAt s port
    if !isReady s || d.up || d.inReset || !accepted || credits < 32 || s.power.shutdown ≠ 0 then s
    else linkUp port false (updPort port (fun d => { d with advertised := credits }) s)

/-- Whether a write of object 0x7021 is accepted; 3 on a port that is not held changes nothing (assumption
127). -/
def portResetAllowed (v : Nat) : Bool := decide (1 ≤ v) && decide (v ≤ 3)

/-- The effect of a write of object 0x7021 (R441). -/
def writePortReset (p v : Nat) (s : State) : State :=
  if v = 3 then updPort p (fun d => { d with hold := false }) (stopTests (groupTarget (portGroup p)) 2 s) else startPortReset p 1 (v = 2) s

end Sys2Proof.Machine
end

