-- ==== Sys2Proof/Machine/Spares.lean ====
section
/-!
DEFINITION. Retirement of frames (R337), column repairs due (R341), the fostered bits
of the segment map (R76, R82), and the spares left (R325, R342).
-/
namespace Sys2Proof.Machine

/-- A spare of Table 11.1 is brought in by the complex itself (R324): bit of object 0x5001. -/
def sparingOn (s : State) (b : Nat) : Bool := bit (objGet s 0x5001 0) b

/-- The MED of a channel. -/
def medOf (gch : Nat) : Die := .med (Fin.ofNat 4 (quadOf gch))

/-- Spare rows and columns free in a bank of a slot (R342). -/
def bankSpares (s : State) (c bank : Nat) : Nat × Nat :=
  match (stackAt s (stackOf c)).rows.find? fun r => r.1 == c % 66 * 64 + bank with
  | some r => r.2
  | none => (48, 2)

def setBankSpares (c bank rows cols : Nat) (s : State) : State :=
  updStack (stackOf c) (fun t => { t with rows := t.rows.filter (fun r => r.1 != c % 66 * 64 + bank)
    ++ (if rows == 48 && cols == 2 then [] else [(c % 66 * 64 + bank, rows, cols)]) }) s

/-- Banks of a slot with no free spare row. -/
def barrenBanks (s : State) (c : Nat) : Nat :=
  ((stackAt s (stackOf c)).rows.filter fun r => r.1 / 64 == c % 66 && r.2.1 == 0).length

/-- A bit of a stack's SW02. -/
def stackCap (s : State) (stack n : Nat) : Bool := bit (nth (stackAt s stack).words 2 0) n

/-- Soft repairs the ledger holds (object 0x5033). -/
def softRepairs (s : State) : List Repair := s.start.repairs.filter fun r => r.action == 1 || r.action == 2

/-- A stack repair record (Table 11.9, kind 0x08). -/
def repairRecord (r : Repair) : Bytes :=
  leBytes 1 r.stack ++ leBytes 1 r.pch ++ leBytes 1 r.bank ++ leBytes 1 r.action ++ leBytes 2 r.addr ++ leBytes 2 0

/-- Keep a repair in the ledger's list. -/
def addRepair (r : Repair) (s : State) : State :=
  ledger 0x08 (repairRecord r) (s.onStart fun t => { t with repairs := t.repairs ++ [r] })

/-! ### The fostered bits (R75, R76) -/

/-- Set fostered in every entry whose slot holds a re-homed frame, each by a flip: the number of entries changed. -/
def refreshFostered (s : State) : State × Nat :=
  forEach (liveSegs s) (fun x (acc : State × Nat) =>
    let s := acc.1
    let e := curEntry s x.1
    if e.state = .moving then
      let f := fun (y : Entry) => { y with fostered := slotFostered s y.place }
      let g := segAt s x.1
      (updSeg x.1 (Seg.setBoth f) s, if f g.ivory = g.ivory && f g.sable = g.sable then acc.2 else acc.2 + 1)
    else
      let v := slotFostered s e.place
      if v == e.fostered then acc else (updSeg x.1 (Seg.flip { e with fostered := v }) s, acc.2 + 1)) (s, 0)

/-- Begin a rebuild pass of the map (R82): its flips are made at its start, its notice at its end (DESIGN CHOICE,
assumption 20). A pass that begins while another runs ends after it. -/
def beginMapPass (s : State) : State :=
  let (s, n) := refreshFostered s
  s.onMap fun m => if m.rebuild.isNone then { m with rebuild := some n } else { m with later := m.later ++ [n] }

/-- An action that moves a channel runs on a slot (R347). -/
def actionOn (s : State) (c : Nat) : Bool := s.rehomes.any fun h => h.source == c || h.dest == some c

/-! ### Lanes that are due (R331, R332) -/

/-- The lane position a lane carries: a spare in use carries the one it replaces. -/
def lanePosition (s : State) (c lane : Nat) : Option Nat :=
  let w := swAt s c 16
  if lane = 36 then (if bits w 5 0 = 63 then none else some (bits w 5 0))
  else if lane = 37 then (if bits w 11 6 = 63 then none else some (bits w 11 6))
  else if lane = 48 then (if bits (swAt s c 17) 3 0 = 15 then none else some (38 + bits (swAt s c 17) 3 0))
  else some lane

/-- Free good spare lanes of a slot for a position, the lowest first. -/
def freeLanes (s : State) (c pos : Nat) : List Nat :=
  let ok := fun (l : Nat) => !(stackAt s (stackOf c)).badLanes.contains (c % 66, l)
  if pos < 38 then
    (if bits (swAt s c 16) 5 0 = 63 && ok 36 then [36] else []) ++ (if bits (swAt s c 16) 11 6 = 63 && ok 37 then [37] else [])
  else if bits (swAt s c 17) 3 0 = 15 && ok 48 then [48] else []

/-- The due positions of a slot with their causes, the oldest first. -/
def duePositions (s : State) (c : Nat) : List (Nat × Nat) :=
  (chanAt s c).dueLanes.filterMap fun e => (lanePosition s c e.1).map fun p => (p, e.2)

/-- The due position a pause would spare now, with its cause and its spare. -/
def pauseTarget (s : State) (c : Nat) : Option (Nat × Nat × Nat) :=
  (duePositions s c).findSome? fun p =>
    if sparingOn s 0 || p.2 == 5 then ((freeLanes s c p.1).head?).map fun l => (p.1, p.2, l) else none

/-- A lane pause of a slot may take place (R332, R347). -/
def mayPause (s : State) (c : Nat) : Bool :=
  (channelOf s c).isSome && (pauseTarget s c).isSome && !actionOn s c && !slotUnderTest s c && !inSlate s (quadOfSlot c)

/-! ### Frame retirement (R337) -/

/-- Live unguarded segments with a frame of a channel that has no home (R78, R247). -/
def homeless (s : State) (gch : Nat) : List Nat :=
  ((liveSegs s).filter fun x => !x.2.guarded && x.2.place.inStack s.variant (gch / 64) &&
    (let (f, n) := x.2.place.frames s.variant
     (List.range n).any fun i => (homeRow s gch (f + i) 0 0).isNone)).map (·.1)

/-- Notice 0x4022 and object 0x4041: segments that lost data (R247). -/
def reportLoss (g : Nat) (segs : List Nat) (s : State) : State :=
  if segs.isEmpty then s else
  let ns := sortBy id segs
  let s := s.onCodec fun c => { c with lost := ns.take 64 }
  notify .hub 0x4022 2 (leBytes 2 g ++ leBytes 4 ns.length ++ (List.range 8).flatMap fun i => leBytes 4 (nth ns i 0)) s

/-- Spare columns of a bank that neither hold a column nor are promised to a queued one (R341). -/
def columnsLeft (s : State) (c bank : Nat) : Nat :=
  (bankSpares s c bank).2
    - (s.start.repairs.filter fun r => r.stack == stackOf c && r.pch == c % 66 && r.bank == bank && r.action == 6).length

/-- Retired sectors at one logical slot in at least 8 rows of a bank queue a column repair while a spare column is free
(R341). -/
def queueColumns (c bank : Nat) (s : State) : State :=
  let es := (chanAt s c).sectors.filter (·.1 == bank)
  forEach ((es.map (·.2.2.1)).eraseDups) (fun i s =>
    let rows := (es.filter (·.2.2.1 == i)).length
    let have_ := s.start.repairs.any fun r => r.stack == stackOf c && r.pch == c % 66 && r.bank == bank && r.action == 6 && r.addr == i
    if decide (8 ≤ rows) && !have_ && decide (0 < columnsLeft s c bank) then addRepair ⟨stackOf c, c % 66, bank, 6, i⟩ s else s) s

/-! ### Logical channels ceasing to be live -/

/-- Stripe Guard sets a channel's frames belong to, and its live unguarded segments. -/
def channelHolds (s : State) (gch : Nat) : Nat × List Nat :=
  let here := fun (p : Place) => p.inStack s.variant (gch / 64)
  let sets := s.map.guards.filter fun g => here g.parity || g.members.any fun m => here m.2
  let un := (liveSegs s).filter fun x => here x.2.place && !x.2.guarded
  (sets.length, un.map (·.1))

end Sys2Proof.Machine
end

