-- ==== Sys2Proof/Machine/ChanQueue.lean ====
section
/-!
DEFINITION. What enters a channel controller (R145 to R148, R151, R235, R289): comparison with its queues, reads served from
a queued write, merging, parity and block-sum entries, atomics, locked sequences.
-/
namespace Sys2Proof.Machine

/-! ### Reads leaving the channel -/

/-- Sector k of a part: byte range within the part, and within the sector. -/
def partSector (p : Part) (k : Nat) : Nat × Nat × Nat :=
  let base := p.off / 32 * 32
  let lo := Nat.max p.off (base + 32 * k)
  let hi := Nat.min (p.off + p.len) (base + 32 * k + 32)
  (lo - p.off, hi - lo, lo - (base + 32 * k))

/-- The Data response of a part whose last sector has come (R96, R99, R100); a read of ENG goes back to its issuer. -/
def answerPart (id n : Nat) (s : State) : State :=
  match reqAt s id with
  | none => s
  | some r => match r.parts.find? (·.n == n) with
    | none => s
    | some p =>
      let final := r.parts.all fun q => q.n == n || q.sent
      let s := updPart id n (fun q => { q with stage := .done, sent := true }) s
      let s := if final then updReq id (fun q => { q with status := some 0 }) s else s
      if r.port ≥ 5 then (match (reqAt s id).filter fun _ => final with
        | some q => engReadDone q 0 s
        | none => s)
      else
      let s := respond r.port { kind := 2, tag := r.r.tag.toNat, part := n, final := final, corrected := p.corrected,
                                far := servedFar s r.port p, poison := p.poison, data := p.data, req := some id, opcode := opcodeOf r.op,
                                sectors := sectorsOf p.off p.len } s
      if final then wakeHeld r.port s else s

/-- A sector of a read part has its value: zero bytes and a mask bit where it is poisoned (R119). -/
def deliverSector (id n k : Nat) (v : Bytes × Nat) (fixed : Bool) (s : State) : State :=
  match (reqAt s id).bind fun r => r.parts.find? (·.n == n) with
  | none => s
  | some p =>
    let (o, len, from_) := partSector p k
    let poison := tagPoison v.2
    let bs := if poison then List.replicate len 0 else slice v.1 from_ len
    let s := updPart id n (fun q => { q with data := q.data.take o ++ bs ++ q.data.drop (o + len), left := q.left - 1,
                                             poison := q.poison ||| (if poison then 2 ^ k else 0), corrected := q.corrected || fixed }) s
    if p.left ≤ 1 && !p.unknown then answerPart id n s else s

/-- The touch bit of a part's row is known: data that waited for it is released (R73). -/
def releaseTouch (id n : Nat) (s : State) : State :=
  match (reqAt s id).bind fun r => r.parts.find? (·.n == n) with
  | none => s
  | some p =>
    let s := updPart id n (fun q => { q with unknown := false }) s
    if p.left = 0 && p.unknown && !p.sent then answerPart id n s else s

/-! ### The sectors of a part -/

/-- Row and logical sector of a byte of a part's granule: where the frame is served now, or by the fixed map. -/
def cellOfPart (s : State) (p : Part) (byte : Nat) : Option (RowAt × Nat) :=
  if fixedMapOn s then (servingSlot s p.gch).map fun c =>
    let a := cellAt p.frame p.e byte
    (⟨c, p.gch, a.bank, a.row⟩, a.sector)
  else homeRow s p.gch p.frame p.e byte

/-- Row and logical sector of sector k of a part. -/
def rowOfPart (s : State) (p : Part) (k : Nat) : Option (RowAt × Nat) := cellOfPart s p ((p.off / 32 + k) * 32)

/-- Writer code of a requester (Table 8.2). -/
def writerOf (port : Nat) : Nat := if port < 6 then port else 6

/-- The segment entry of the slot that a part goes to. -/
def entryOf (r : Req) (p : Part) : Entry := p.copy.getD r.cur

/-- Granule of its segment that a part names. -/
def slotGranule (r : Req) (p : Part) : Nat := granuleOf r p % 16384

/-- The write entry of sector k of a part: none where a Basket line holds no byte of it. -/
def sectOfPart (s : State) (r : Req) (p : Part) (k : Nat) : Option Sect :=
  let (o, len, from_) := partSector p k
  let mask := match r.line with
    | some l => bits l.mask (32 * k + 31) (32 * k)
    | none => (2 ^ len - 1) * 2 ^ from_
  let data := match r.op with
    | .write | .flush => List.replicate from_ 0 ++ slice p.data o len ++ List.replicate (32 - from_ - len) 0
    | _ => List.replicate 32 0
  if mask = 0 then none else
  some { act := .write, bank := 0, row := 0, slot := 0, data := data, mask := mask,
         poison := r.op = .poison || (r.port == 5 && bit p.poison k),
         guard := if r.copiesFrame then frameGuard s p.gch p.frame else b2n (entryOf r p).guarded,
         writer := writerOf r.port, epoch := writeEpoch s p.gch, strength := (entryOf r p).strength, cls := r.cls, req := some (r.id, p.n) }

/-! ### Parity and block-sum entries (R239, R243) -/

/-- The stripe's parity sector for a sector of a guarded slot. -/
def guardTarget (s : State) (p : Place) (G k : Nat) : Option (RowAt × Nat) :=
  match guardOf s p with
  | none => none
  | some (g, i) =>
    let x := interleave s.variant p G
    let (gch, frame) := stripeMember s.variant i 0 x.gch (x.frame - (p.frames s.variant).1) g.parity
    homeRow s gch frame x.e (32 * k)

/-- Send an XOR entry to its channel: it enters the arbiter tree there. The response of the request that it follows waits for
it. -/
def sendXor (id : Option Nat) (t : RowAt × Nat) (data : Bytes) (mask : Nat) (flip : Bool) (guard input strength : Nat) (s : State) : State :=
  let e : Sect := { act := .xor, bank := t.1.bank, row := t.1.row, slot := t.2, data := data, mask := mask, poison := flip,
                    guard := guard, epoch := writeEpoch s t.1.gch, strength := strength, req := id.map fun i => (i, 0) }
  let s := match id with
    | some i => updReq i (fun r => { r with debts := r.debts + 1 }) s
    | none => s
  addUnit { id := 0, level := 2, arb := chanArb t.1.c, input := input, parts := [], sects := [e], slot := t.1.c, gch := t.1.gch,
            write := true, quad := quadOf t.1.gch } s

/-- The XOR entry of a change of a guarded slot's sector to its parity sector: none in Slate mode (R243, R254). -/
def sendGuard (id : Option Nat) (pl : Place) (G k strength : Nat) (old new : Bytes × Nat) (s : State) : State :=
  match guardTarget s pl G k with
  | none => s
  | some t =>
    if inSlate s (quadOf t.1.gch) then s else
    sendXor id t (xorBytes old.1 new.1) (2 ^ 32 - 1) (tagPoison old.2 != tagPoison new.2) 3 2 strength s

/-- The XOR entry of a change of a sector to its block's word (R239). -/
def sendSum (id : Option Nat) (pl : Place) (G k : Nat) (old new : Bytes × Nat) (s : State) : State :=
  let o := G * 256 + 32 * k
  let (g, w) := blockWord s.variant pl (o / 65536)
  match blockCell s g w with
  | none => s
  | some (a, i, b) =>
    if inSlate s (quadOf a.gch) then s else
    let x := leBytes 4 (crc0 (xorBytes old.1 new.1) (65536 - (o % 65536 + 32)))
    sendXor id (a, i) (List.replicate b 0 ++ x ++ List.replicate (28 - b) 0) (15 * 2 ^ b) false 0 4 3 s

/-- The XOR entries that follow a write of a sector of a segment. -/
def sendDeltas (id : Option Nat) (e : Entry) (G k : Nat) (old new : Bytes × Nat) (s : State) : State :=
  let s := if e.guarded then sendGuard id e.place G k e.strength old new s else s
  if e.blockSum then sendSum id e.place G k old new s else s

/-! ### Entering a write (R147, R235) -/

/-- The same sector. -/
def Sect.same (a b : Sect) : Bool := a.bank == b.bank && a.row == b.row && a.slot == b.slot
/-- A write entry that holds the whole sector. -/
def Sect.whole (e : Sect) : Bool := e.act == .write && e.mask == 2 ^ 32 - 1

/-- A later write's bytes replace those of the older entry, which keeps its place. -/
def mergeWrite (old new : Sect) : Sect :=
  let kept := { new with seq := old.seq, old := old.old, asked := old.asked }
  if new.whole then kept
  else if old.poison then { old with writer := new.writer, epoch := new.epoch }
  else { kept with mask := old.mask ||| new.mask,
                   data := (List.range 32).map fun i => if bit new.mask i then nth new.data i 0 else nth old.data i 0 }

/-- XOR entries of one sector combine. -/
def mergeXor (old new : Sect) : Sect :=
  let lay := fun (x : Sect) => (List.range 32).map fun i => if bit x.mask i then nth x.data i 0 else 0
  { old with data := xorBytes (lay old) (lay new), mask := old.mask ||| new.mask, poison := old.poison != new.poison, epoch := new.epoch }

/-- The write queue with an entry merged into the newest entry of its sector, when that is of its kind and no read waits
between them (R147, R235). -/
def mergeInto (e : Sect) (c : Chan) : Option (List Sect) :=
  let newest := (c.writes.filter e.same).foldl (fun (m : Option Sect) x => match m with
    | some y => if y.seq < x.seq then some x else m
    | none => some x) none
  match newest with
  | none => none
  | some o =>
    let between := c.reads.any fun r => r.same e && decide (o.seq < r.seq)
    if o.act != e.act || (between && e.act == .write) then none
    else some (c.writes.map fun x => if x.seq == o.seq then (if e.act == .write then mergeWrite x e else mergeXor x e) else x)

/-- An entry enters the write queue. -/
def pushWrite (e : Sect) (c : Chan) : Chan :=
  match mergeInto e c with
  | some ws => { c with writes := ws, next := c.next + 1 }
  | none => { c with writes := c.writes ++ [{ e with seq := c.next }], next := c.next + 1 }

/-- An entry enters the queue of each slot that holds the row (R344), and that of the destination of its frame once a map-out
has copied it (R345 step 3). -/
def enterSect (a : RowAt) (e : Sect) (s : State) : State :=
  let rows := if touched s a.gch a.bank a.row then copiesOf s a else [a]
  let e := { e with epoch := writeEpoch s a.gch }
  let t := forEach rows (fun b s => updChan b.c (pushWrite e) s) s
  match alsoHome s a e.slot with
  | some (b, j) => updChan b.c (pushWrite { e with bank := b.bank, row := b.row, slot := j }) (ensureBuilt b t)
  | none => t

/-- A sector of a slot that has no home (R78): what its stripe gives where it is guarded, else poisoned. -/
def lostAt (s : State) (e : Entry) (G k : Nat) : Bytes × Nat :=
  let x := interleave s.variant e.place G
  match if e.guarded && !fixedMapOn s then reconstruct s e.place G k else none with
  | some v => (v.1, tagWord v.2 2 (writeEpoch s x.gch) 6)
  | none => (List.replicate 32 0, tagWord true 0 (writeEpoch s x.gch) 6)

/-- Sector k of a part without a home. -/
def lostSector (s : State) (r : Req) (p : Part) (k : Nat) : Bytes × Nat :=
  lostAt s (entryOf r p) (slotGranule r p) (p.off / 32 + k)

/-- A queued read whose row has no home any more. An atomic finds poison there. -/
def loseRead (e : Sect) (s : State) : State :=
  match e.req.bind fun x => (reqAt s x.1).bind fun r => (r.parts.find? (·.n == x.2)).map fun p => (r, p) with
  | none => s
  | some (r, p) => match e.act with
    | .read => deliverSector r.id p.n e.mask (lostSector s r p e.mask) false s
    | .touch => releaseTouch r.id p.n s
    | .fetch => updPart r.id p.n (fun q => { q with poison := q.poison ||| 2 ^ e.mask, stage := .done }) s
    | _ => s

/-- A write of a sector of a segment's slot enters its channel, with what the segment's protection adds; where the sector has
no home, its stripe alone takes the new value. -/
def landWrite (r : Req) (en : Entry) (G k8 : Nat) (at_ : Option (RowAt × Nat)) (e : Sect) (s : State) : State :=
  let local_ := fixedMapOn s || !r.op.hasAddress
  match at_ with
  | none =>
    if local_ || !en.guarded then s else
    let old := lostAt s en G k8
    sendDeltas (some r.id) en G k8 old (applySect old e) s
  | some (a, i) =>
    let s := ensureBuilt a s
    let old := priorSector s a i
    let s := enterSect a { e with bank := a.bank, row := a.row, slot := i } s
    if local_ then s else sendDeltas (some r.id) en G k8 old (applySect old e) s

/-- A sector of a request's write enters its channel. -/
def writeSector (r : Req) (p : Part) (k : Nat) (e : Sect) (s : State) : State :=
  landWrite r (entryOf r p) (slotGranule r p) (p.off / 32 + k) (rowOfPart s p k) e s

/-- The new value of a sector that an atomic or a locked sequence writes goes to the other slots of a segment that moves: an
entry at input 5 of each one's channel arbiter, and the response waits for it (R79 step 4, R82). -/
def sendMirror (r : Req) (p : Part) (k : Nat) (e : Sect) (s : State) : State :=
  let G := slotGranule r p
  let k8 := p.off / 32 + k
  forEach (alsoWrites s r G) (fun en s =>
    match segSector s en.place G k8 with
    | none => landWrite r en G k8 none e s
    | some (a, i) =>
      let e := { e with bank := a.bank, row := a.row, slot := i, guard := b2n en.guarded, strength := en.strength, req := some (r.id, p.n) }
      addUnit { id := 0, level := 2, arb := chanArb a.c, input := 5, parts := [], sects := [e], mirror := some en, slot := a.c,
                gch := a.gch, write := true, quad := quadOf a.gch } (updReq r.id (fun r => { r with debts := r.debts + 1 }) s)) s

/-! ### Entering a read (R146) -/

/-- What a read entering now returns without a stack command (R72, R146): an untouched row, a whole queued write, or a
partial one already merged with the stored sector, and no XOR entry. A write without an accumulator has its stored sector in its
entry as well. -/
def servedNow (s : State) (a : RowAt) (i : Nat) : Option (Bytes × Nat) :=
  let q := queuedWrites s a i
  if !(q.all (·.act == .write)) then none
  else if !touched s a.gch a.bank a.row || q.any Sect.whole then currentSector s a i
  else match q with
    | w :: _ => w.old.map fun o => q.foldl applySect ((soundSector s a i).getD o)
    | [] => none

/-- The reads of a stripe that a reconstruction needs go to their channels, at input 1 of their arbiters (Table 6.3). -/
def readStripe (a : RowAt) (i : Nat) (s : State) : State :=
  forEach (stripeReads s a i) (fun x s =>
    addJob x.1.c x.1.gch 1 { kind := .member, bank := x.1.bank, row := x.1.row, slot := slotOfSector s x.1 x.2 } s) s

/-- The copy of a row that a read uses: the one whose read queue is shorter (R344); an atomic's reads all use the first. -/
def readSide (s : State) (act : Act) (a : RowAt) : RowAt :=
  if act == .fetch then (copiesOf s a).headD a
  else (bestOf (fun (x y : RowAt) => decide ((chanAt s x.c).reads.length < (chanAt s y.c).reads.length)) (copiesOf s a)).getD a

/-- Row and logical sector of half a touch line in its channel's metadata frames (Table 3.2): line number gch × 512 + line. -/
def touchCell (s : State) (line half : Nat) : Option (RowAt × Nat) :=
  let l := line % 512
  homeRow s (line / 512) (524224 + l / 32) (l % 32 / 4) (l % 4 * 64 + 32 * half)

/-- The read of the touch line of a touch-unknown part joins the part's own reads, unless a queued line write gives it
(R73, R146). -/
def readTouch (r : Req) (p : Part) (s : State) : State :=
  if !p.unknown then s else
  match (rowOfPart s p 0).bind fun x =>
      let k := touchKey x.1.gch x.1.bank x.1.row
      touchCell s (k / 512) (k % 512 / 256) with
  | none => releaseTouch r.id p.n s
  | some (a, i) =>
    if !(unbuilt s a).isEmpty || (queuedWrites s a i).any Sect.whole then releaseTouch r.id p.n s else
    let b := readSide s .touch a
    updChan b.c (fun c => { c with next := c.next + 1, reads := c.reads ++
      [{ act := .touch, bank := a.bank, row := a.row, slot := i, seq := c.next, cls := r.cls, req := some (r.id, p.n) }] }) s

/-- Sector k of a part as an entry of the read queue. -/
def readSector (act : Act) (r : Req) (p : Part) (k : Nat) (s : State) : State :=
  match rowOfPart s p k with
  | none => if act == .read then deliverSector r.id p.n k (lostSector s r p k) false s else s
  | some (a, i) =>
    if act == .read && !(unbuilt s a).isEmpty then
      let v := (rebuiltSector s a.gch (frameOfRow a.bank a.row + i / 64) (i % 64 / 8) (i % 8 * 32)).1
      deliverSector r.id p.n k v false (readStripe a i s)
    else
    let s := ensureBuilt a s
    let now := if p.unknown && !(queuedWrites s a i).any Sect.whole then none else servedNow s a i
    match now, act with
    | some v, .read => deliverSector r.id p.n k v false (updChan a.c (fun c => { c with next := c.next + 1 }) s)
    | _, _ =>
      let b := readSide s act a
      updChan b.c (fun c => { c with next := c.next + 1, reads := c.reads ++
        [{ act := act, bank := a.bank, row := a.row, slot := i, seq := c.next, cls := r.cls, req := some (r.id, p.n),
           mask := k, old := if act == .fetch then now else none }] }) s

/-! ### Atomics (R289) -/

/-- Entries of an atomic's reads. -/
def fetchesOf (s : State) (c id n : Nat) : List Sect :=
  sortBy (·.mask) ((chanAt s c).reads.filter fun e => e.act == .fetch && e.req == some (id, n))

/-- The new bytes of an atomic over its prior bytes. -/
def atomResult (r : Req) (prior : Bytes) : Bytes :=
  match r.line with
  | some l => applyLine l prior
  | none => match atomFields r.r with
    | (some o, f) => atomBytes o f prior r.r.data
    | (none, _) => prior

/-- An atomic, or a Basket flush in atomic mode, has every sector it reads: one poisoned sector that it touches ends it and the
stack is not written, otherwise its write-back goes to input 5 of the channel arbiter (R119, R289, R310). -/
def finishAtomic (c id n : Nat) (s : State) : State :=
  match (reqAt s id).bind fun r => (r.parts.find? (·.n == n)).map fun p => (r, p) with
  | none => s
  | some (r, p) =>
    let fs := fetchesOf s c id n
    if fs.length < sectorsOf p.off p.len || fs.any (·.old.isNone) then s else
    let vals := fs.map fun e => e.old.getD zeroSector
    let poison := total (vals.zipIdx.map fun x => if tagPoison x.1.2 then 2 ^ x.2 else 0)
    let s := updChan c (fun x => { x with reads := x.reads.filter fun e => !(e.act == .fetch && e.req == some (id, n)) }) s
    let raw := vals.flatMap (·.1)
    let o := p.off % 32
    let prior := slice raw o p.len
    let touches := fun (k : Nat) => match r.line with
      | some l => l.held.any fun h => decide (h.1 / 32 == k)
      | none => true
    let s := updPart id n (fun q => { q with poison := poison }) s
    if (List.range 2).any fun k => bit poison k && touches k then updPart id n (fun q => { q with stage := .done }) s
    else
      let next := raw.take o ++ atomResult r prior ++ raw.drop (o + p.len)
      let es := fs.zipIdx.filterMap fun x =>
        if !touches x.2 then none else
        some { x.1 with act := .write, data := slice next (32 * x.2) 32, mask := 2 ^ 32 - 1, old := none, asked := false,
                        guard := b2n r.cur.guarded, writer := writerOf r.port, epoch := writeEpoch s p.gch,
                        strength := r.cur.strength }
      let s := updPart id n (fun q => { q with data := prior }) s
      if es.isEmpty then updPart id n (fun q => { q with stage := .done }) s
      else addUnit { id := 0, level := 2, arb := chanArb c, input := 5, parts := [(id, n)], sects := es, slot := c, gch := p.gch,
                     write := true, quad := quadOf p.gch } s

/-! ### Locked sequences (R111, R151) -/

/-- Sector k of a part of a locked sequence takes a new value at once, from its present one; its XOR entries and the copies at
the segment's other slots follow (R111, R239, R243). -/
def storePart (r : Req) (p : Part) (k : Nat) (f : Bytes × Nat → Bytes × Bool) (s : State) : State :=
  let new := fun (v : Bytes × Nat) =>
    let x := f v
    (if x.2 then List.replicate 32 0 else x.1, tagWord x.2 (b2n (entryOf r p).guarded) (writeEpoch s p.gch) (writerOf r.port))
  let entry := fun (v : Bytes × Nat) =>
    ({ act := .write, bank := 0, row := 0, slot := 0, data := (new v).1, poison := (f v).2, writer := writerOf r.port,
       epoch := writeEpoch s p.gch, strength := r.cur.strength } : Sect)
  match rowOfPart s p k with
  | none =>
    let old := lostSector s r p k
    sendMirror r p k (entry old) (landWrite r r.cur (slotGranule r p) (p.off / 32 + k) none (entry old) s)
  | some (a, i) =>
    let old := priorSector s a i
    let s := storeSector a i r.cur.strength new s
    if fixedMapOn s then s else
    sendMirror r p k (entry old) (sendDeltas (some r.id) r.cur (slotGranule r p) (p.off / 32 + k) old (new old) s)

/-- A part of a request takes effect at once, behind what its channel's queue already holds. -/
def runPart (id n : Nat) (s : State) : State :=
  match (reqAt s id).bind fun r => (r.parts.find? (·.n == n)).map fun p => (r, p) with
  | none => s
  | some (r, p) =>
    let ks := List.range (sectorsOf p.off p.len)
    let value := fun (k : Nat) => match rowOfPart s p k with
      | some (a, i) => ((currentSector s a i).or (stripeValue s a i)).getD (List.replicate 32 0, 1)
      | none => lostSector s r p k
    if r.op.isRead then
      forEach ks (fun k s => deliverSector id n k (value k) false s) (updPart id n (fun q => { q with left := ks.length, unknown := false }) s)
    else if r.op.isAtomic || (r.line.bind (·.atomic)).isSome then
      let vals := ks.map value
      let poison := total (vals.zipIdx.map fun x => if tagPoison x.1.2 then 2 ^ x.2 else 0)
      let raw := vals.flatMap (·.1)
      let o := p.off % 32
      let prior := slice raw o p.len
      let touches := fun (k : Nat) => match r.line with
        | some l => l.held.any fun h => decide (h.1 / 32 == k)
        | none => true
      let s := updPart id n (fun q => { q with poison := poison, stage := .done }) s
      if ks.any fun k => bit poison k && touches k then s
      else
        let next := raw.take o ++ atomResult r prior ++ raw.drop (o + p.len)
        let s := forEach ks (fun k s => if !touches k then s else
          storePart r p k (fun _ => (slice next (32 * k) 32, false)) s) s
        bump 0x8601 (quadOf p.gch + 1) 1 (updPart id n (fun q => { q with data := prior }) s)
    else
      let s := forEach ks (fun k s => match sectOfPart s r p k with
        | some e => storePart r p k (fun v => let x := applySect v e; (x.1, tagPoison x.2)) s
        | none => s) s
      updPart id n (fun q => { q with stage := .done }) s

/-- One member of a locked sequence takes effect at its granule. -/
def runMember (id : Nat) (s : State) : State :=
  match reqAt s id with
  | none => s
  | some r => forEach r.parts (fun p s => runPart id p.n s) s

/-- Members of the sequence a carrier request carries. -/
def memberIds (s : State) (id : Nat) : List Nat :=
  match reqAt s id with
  | some r => if r.locked.isEmpty then [id] else r.locked
  | none => []

/-- The granule of a locked unit: row and its first sector. -/
def lockGranule (s : State) (id : Nat) : Option (RowAt × Nat) :=
  ((reqAt s id).bind fun r => r.parts.head?).bind fun p => cellOfPart s p 0

/-- Some member of a sequence writes. -/
def lockWrites (s : State) (id : Nat) : Bool := (memberIds s id).any fun m => match reqAt s m with
  | some r => r.op.isWrite
  | none => false

/-- Sectors of the granule that members touch, and those that members write. -/
def lockSectors (s : State) (id : Nat) (writes : Bool) : List Nat :=
  ((memberIds s id).flatMap fun m => match reqAt s m with
    | some r => if writes && !r.op.isWrite then [] else
      r.parts.flatMap fun p => (List.range (sectorsOf p.off p.len)).map (p.off / 32 + ·)
    | none => []).eraseDups

/-- The column commands of a locked unit as its row stands: none when it only reads an untouched row (R151). -/
def lockCmds (s : State) (id : Nat) : List Col :=
  match lockGranule s id with
  | none => []
  | some (a, base) =>
    let held := (accumOf s a).isSome
    let parity := (List.range (paritySlots (rowStrength s a))).map (128 + ·)
    let sect := fun (k : Nat) => slotOfSector s a (base + k)
    let w := lockWrites s id
    if touched s a.gch a.bank a.row then
      (lockSectors s id false).map (fun k => Col.fetch (sect k)) ++ (if w && !held then parity.map Col.fetch else [])
        ++ (if w then (lockSectors s id true).map (fun k => Col.wr (sect k)) ++ (if held then [] else parity.map Col.wr) else [])
    else if w then (List.range 136).map Col.wr else []

/-- The members of a sequence take effect in port order as one; an atomic that meets poison fails the sequence, and none takes
effect: each such atomic answers with status 0x05 (R111 to R113). -/
def runMembers (id : Nat) (s : State) : State :=
  let ids := memberIds s id
  let t := forEach ids runMember s
  let hits := (ids.filterMap (reqAt t)).filter fun r => r.op.isAtomic && r.parts.any (·.poison ≠ 0)
  match hits with
  | [] => t
  | r :: _ => forEach ids (fun m s => answerMember r.port (m, if hits.any (·.id = m) then some 0x05 else none) s) s

/-- A locked unit reaches its channel: a unit of commands, which waits for the entries queued before it on its granule; one
with nothing to wait for and nothing to issue takes effect. -/
def enterLocked (id : Nat) (s : State) : State :=
  match lockGranule s id with
  | none => s
  | some (a, base) =>
    let s := ensureBuilt a s
    let cmds := lockCmds s id
    let x := chanAt s a.c
    let before := (x.reads ++ x.writes).any fun e => e.bank == a.bank && e.row == a.row && decide (base ≤ e.slot) && decide (e.slot < base + 8)
    let s := forEach (memberIds s id) (fun m s => updReq m (fun r => { r with parts := r.parts.map fun p => { p with stage := .queue } }) s) s
    if cmds.isEmpty && !before then runMembers id s
    else updChan a.c (fun c => { c with next := c.next + 1, units := c.units ++
      [{ kind := .locked, bank := a.bank, row := a.row, cmds := cmds, rank := 2, svc := 3, seq := c.next, req := some id }] }) s

/-! ### CHANNEL_QUEUE_ENTRY -/

/-- Sectors, as (bank, row, logical sector), that a granted unit touches in its channel. -/
def unitSectors (s : State) (u : TUnit) : List (Nat × Nat × Nat) :=
  if u.locked then
    match u.parts.head?.bind fun x => lockGranule s x.1 with
    | some (a, base) => (List.range 8).map fun k => (a.bank, a.row, base + k)
    | none => []
  else if !u.sects.isEmpty then u.sects.map fun e => (e.bank, e.row, e.slot)
  else u.parts.flatMap fun x =>
    match (reqAt s x.1).bind fun r => r.parts.find? (·.n == x.2) with
    | some p => (List.range (sectorsOf p.off p.len)).filterMap fun k => (rowOfPart s p k).map fun y => (y.1.bank, y.1.row, y.2)
    | none => []

/-- Sectors that an atomic in progress claims in a controller (R289), and the granules of its locked units (R151). -/
def claimed (s : State) (c : Nat) : List (Nat × Nat × Nat) :=
  let x := chanAt s c
  ((x.reads.filter (·.act == .fetch)).map fun e => (e.bank, e.row, e.slot))
    ++ (s.tree.units.filter fun u => u.slot == c && u.input == 5 && !u.sects.isEmpty).flatMap (fun u => u.sects.map fun e => (e.bank, e.row, e.slot))
    ++ (x.units.filter (·.kind == .locked)).flatMap fun u => match u.req.bind (lockGranule s) with
        | some (a, base) => (List.range 8).map fun k => (a.bank, a.row, base + k)
        | none => []

/-- Sectors of a controller that lie in a granule under copy by a map-out: its read has entered, and its write at the destination
is not visible yet. Writes wait for it (R79 step 5, R345 step 3). -/
def underCopy (s : State) (c : Nat) : List (Nat × Nat × Nat) :=
  match (s.rehomes.find? fun h => h.kind == 3 && h.source == c).bind fun h =>
      (copyRun s h.gch).bind fun x => (h.busy.bind (reqAt s)).map fun r => (h, x, r) with
  | none => []
  | some (h, x, r) =>
    let begun := if r.op.isRead then (r.parts.filter fun p => p.stage = .queue || p.stage = .done).map (·.e) else List.range 8
    begun.flatMap fun e => match homeRow s h.gch (x.first + x.copied.getD 0) e 0 with
      | some (a, i) => (List.range 8).map fun k => (a.bank, a.row, i + k)
      | none => []

/-- The granted unit that enters next: the first, in grant order, that neither a claim, a copy nor an earlier granted unit on one
of its sectors holds back. Write-backs pass the claim of their own atomic. -/
def nextEntry (s : State) (c : Nat) : Option TUnit :=
  let copied := underCopy s c
  let granted := s.tree.units.filter fun u => u.level == 3 && u.slot == c && !(u.job.any fun j => j.kind == .scrub || j.kind == .copy)
  let claims := claimed s c
  go copied claims granted []
where
  go (copied claims : List (Nat × Nat × Nat)) : List TUnit → List (Nat × Nat × Nat) → Option TUnit
    | [], _ => none
    | u :: us, held =>
      let mine := unitSectors s u
      if u.write && mine.any copied.contains then go copied claims us (held ++ mine)
      else if (u.input == 5 || !(mine.any claims.contains)) && (u.input == 5 || !(mine.any held.contains)) then some u else go copied claims us (held ++ mine)

/-- A part enters its channel's queues. -/
def enterPart (r : Req) (p : Part) (s : State) : State :=
  let ks := List.range (sectorsOf p.off p.len)
  let s := updPart r.id p.n (fun q => { q with stage := .queue }) s
  let atomicFlush := (r.line.bind (·.atomic)).isSome
  if r.op.isRead then readTouch r p (forEach ks (fun k s => readSector .read r p k s) s)
  else if r.op.isAtomic || atomicFlush then
    if (rowOfPart s p 0).isNone then updPart r.id p.n (fun q => { q with poison := 2 ^ ks.length - 1, stage := .done }) s else
    let s := forEach ks (fun k s => readSector .fetch r p k s) s
    forEach (s.chans.map (·.1)) (fun c s => finishAtomic c r.id p.n s) s
  else
    let s := forEach ks (fun k s => match sectOfPart s r p k with
      | some e => writeSector r p k e s
      | none => s) s
    updPart r.id p.n (fun q => { q with stage := .done }) s

/-- An entry of the read queue enters anew. -/
def pushRead (e : Sect) (c : Chan) : Chan := { c with reads := c.reads ++ [{ e with seq := c.next }], next := c.next + 1 }

/-- An internal entry enters: the copy of a write at a further slot of its segment, or an XOR entry; the debt that it settles
goes. A read whose channel changed its slot enters its queue there. -/
def enterOne (u : TUnit) (e : Sect) (s : State) : State :=
  let a : RowAt := ⟨u.slot, u.gch, e.bank, e.row⟩
  if e.act ≠ .write && e.act ≠ .xor then updChan u.slot (pushRead e) (ensureBuilt a s) else
  let part := e.req.bind fun x => (reqAt s x.1).bind fun r => (r.parts.find? (·.n == x.2)).map fun p => (r, p)
  let s := match u.mirror, part with
    | some en, some (r, p) => landWrite r en (slotGranule r p) (e.slot % 8) (some (a, e.slot)) e s
    | _, _ => enterSect a e (ensureBuilt a s)
  match e.req with
  | some (id, _) => updReq id (fun r => { r with debts := r.debts - 1 }) s
  | none => s

/-- Internal entries enter: an atomic's write-back with its protection entries, or entries that settle debts. -/
def enterSects (u : TUnit) (s : State) : State :=
  match u.parts with
  | [x] =>
    match (reqAt s x.1).bind fun r => (r.parts.find? (·.n == x.2)).map fun p => (r, p) with
    | none => s
    | some (r, p) =>
      let s := forEach u.sects (fun e s =>
        let k := e.slot % 8 - p.off / 32
        sendMirror r p k e (writeSector r p k e s)) s
      bump 0x8601 (quadOf p.gch + 1) 1 (updPart r.id p.n (fun q => { q with stage := .done }) s)
  | _ => forEach u.sects (enterOne u) s

/-- Slots that a unit which decodes a whole row reads: its data, the parity its strength uses where no accumulator holds it,
and its spares in use (R224). -/
def rowSlots (s : State) (a : RowAt) : List Nat :=
  let par := if (accumOf s a).isSome then [] else (List.range (paritySlots (rowStrength s a))).map (128 + ·)
  List.range 128 ++ par ++ sparesUsed s a

/-- A granted internal operation becomes a unit of its controller. -/
def enterJob (u : TUnit) (j : Job) (s : State) : State :=
  let cmds := if j.kind == .member then [Col.fetch j.slot] else (rowSlots s ⟨u.slot, u.gch, j.bank, j.row⟩).map Col.fetch
  let s := updChan u.slot (fun c => { c with next := c.next + 1, units := c.units ++
    [{ kind := j.kind, bank := j.bank, row := j.row, cmds := cmds, waiting := j.waiting, seq := c.next, rank := if j.kind == .escalation then 1 else 6 }] }) s
  if j.kind == .escalation then bump 0x8501 (quadOfSlot u.slot + 1) 1 s else s

/-- CHANNEL_QUEUE_ENTRY (R145 to R147): the next granted unit enters the controller. -/
def execChannelQueueEntry (stack : Fin 32) (pch : Fin 66) (s : State) : Answered :=
  whenReleased s fun s =>
    match nextEntry s (slotNo stack pch) with
    | none => s
    | some u =>
      let s := onUnits (·.filter (·.id != u.id)) s
      if u.locked then match u.parts with
        | x :: _ => enterLocked x.1 s
        | [] => s
      else if let some j := u.job then enterJob u j s
      else if !u.sects.isEmpty then enterSects u s
      else forEach u.parts (fun x s =>
        match (reqAt s x.1).bind fun r => (r.parts.find? (·.n == x.2)).map fun p => (r, p) with
        | some (r, p) => enterPart r p s
        | none => s) s

end Sys2Proof.Machine
end

