-- ==== Sys2Proof/Machine/ChanTiming.lean ====
section
/-!
DEFINITION. The stack interface from the controller's side: command words (Table 5.1), the spacings of Table 5.2 in slots,
slot skipping (R364), and what one command does to the bank state and the counts.
-/
namespace Sys2Proof.Machine

/-! ### Commands -/

/-- A command the issue stage sends (Table 5.1). A column command names what it serves: a queued entry by its arrival
sequence, or the unit that owns the bank. -/
inductive Cmd where
  | act (bank row : Nat)
  | pre (bank : Nat)
  | prea
  | refpb (bank : Nat)
  | nrf (bank row : Nat)
  | sww (word value : Nat)
  | sre
  | srx
  | errclr
  | rd (bank : Nat) (auto : Bool) (why : Col)
  | wr (bank slot : Nat) (auto : Bool) (entry : Option Nat)
  | rdt (pattern : Nat)
  | swr (word : Nat)
  | wrt
  deriving DecidableEq, Repr

/-- It goes in a row half-slot. -/
def Cmd.isRow : Cmd → Bool
  | .rd _ _ _ | .wr _ _ _ _ | .rdt _ | .swr _ | .wrt => false
  | _ => true

/-- Slot a column read addresses. -/
def Col.slotNo : Col → Nat
  | .rd k _ | .fetch k | .wr k => k

/-- The command word (R130, R131): opcode, fields, and the bit that makes its ones even. -/
def Cmd.word (m : Cmd) : Nat :=
  let w := match m with
    | .act b r => 1 + b * 2 ^ 4 + r * 2 ^ 10
    | .pre b => 2 + b * 2 ^ 4
    | .prea => 3
    | .refpb b => 4 + b * 2 ^ 4
    | .nrf b r => 5 + b * 2 ^ 4 + r * 2 ^ 10
    | .sww n v => 6 + n * 2 ^ 4 + v * 2 ^ 9
    | .sre => 7
    | .srx => 8
    | .errclr => 9
    | .rd b auto y => (if auto then 2 else 1) + b * 2 ^ 4 + y.slotNo * 2 ^ 10
    | .wr b k auto _ => (if auto then 4 else 3) + b * 2 ^ 4 + k * 2 ^ 10
    | .rdt p => 5 + p * 2 ^ 4
    | .swr n => 6 + n * 2 ^ 4
    | .wrt => 7
  let ones := ((List.range 39).filter (bit w)).length
  if ones % 2 == 0 then w else w + 2 ^ 39

/-- The command that a word of a half-slot stands for; what a column command serves is not in its word. -/
def cmdOfWord (column : Bool) (w : Nat) : Option Cmd :=
  let b := bits w 9 4
  let k := bits w 17 10
  if column then match bits w 3 0 with
    | 1 => some (.rd b false (.fetch k)) | 2 => some (.rd b true (.fetch k))
    | 3 => some (.wr b k false none) | 4 => some (.wr b k true none)
    | 5 => some (.rdt (bits w 5 4)) | 6 => some (.swr (bits w 8 4)) | 7 => some .wrt
    | _ => none
  else match bits w 3 0 with
    | 1 => some (.act b (bits w 21 10)) | 2 => some (.pre b) | 3 => some .prea | 4 => some (.refpb b)
    | 5 => some (.nrf b (bits w 21 10)) | 6 => some (.sww (bits w 8 4) (bits w 24 9))
    | 7 => some .sre | 8 => some .srx | 9 => some .errclr
    | _ => none

/-- CA lanes ca[0] to ca[10] in a beat of a half-slot that carries a word (R129): bit 10b + l on lane l, but for the lane
that SW17 replaces, whose bits the spare carries. -/
def caLanes (sw17 word beat : Nat) : List Bool :=
  let lost := bits sw17 3 0
  (List.range 10).map (fun l => l != lost && bit word (10 * beat + l)) ++ [decide (lost < 10) && bit word (10 * beat + lost)]

/-! ### Spacings (R128, R137, R138) -/

/-- Slots of a spacing in ns at the tCK in force. -/
def slotsFor (s : State) (stack ns : Nat) : Nat := ceilDiv (ns * pinRate s) (8000 * (stackAt s stack).step)

def tRL (s : State) (n : Nat) : Nat := slotsFor s n 26
def tWL (s : State) (n : Nat) : Nat := slotsFor s n 6
/-- tRTW = RL + 1 + 2 − WL in slots. -/
def tRTW (s : State) (n : Nat) : Nat := tRL s n + 3 - tWL s n
/-- Layer of a bank (R65). -/
def layerOf (bank : Nat) : Nat := bank / 16

/-- Weight of activations within the last tFAW slots (R139). -/
def fawWeight (s : State) (n : Nat) (x : Chan) : Nat :=
  total ((x.acts.filter fun a => decide (x.slot < a.1 + slotsFor s n 11)).map (·.2.1))

/-- R162 and R163 permit an ACT of a row now. -/
def actPermitted (s : State) (c : Nat) (x : Chan) (b : Bank) (bank row : Nat) : Bool :=
  let now := quadTime s (quadOfSlot c)
  decide (0 < b.tokens) && !(b.nrfDue.any (·.1 == row))
    && (match x.offenders.find? fun o => o.1 == bank && o.2.1 == row with
        | some o => decide (o.2.2 + 2000 ≤ now)
        | none => true)
    && (!b.spaced || decide (b.lastAct + 500 ≤ now))

/-- The first slot from which the spacings of Table 5.2 admit a command; tFAW is judged apart. -/
def readySlot (s : State) (n : Nat) (x : Chan) (m : Cmd) : Nat :=
  let t := slotsFor s n
  let after := fun (since : Option Nat) (gap : Nat) => match since with
    | none => 0
    | some k => k + gap
  let reads := fun (_ : Unit) => Nat.max (after x.lastCol 1) (after x.lastWr (tWL s n + 1 + t 6))
  let writes := fun (_ : Unit) => Nat.max (after x.lastCol 1) (after x.lastRd (tRTW s n))
  let shut := fun (b : Bank) => Nat.max b.preAt (after b.actAt (t 30))
  let all := fun (f : Bank → Nat) => (x.banks.map fun e => f e.2).foldl Nat.max 0
  Nat.max x.quietTo (match m with
  | .act k _ =>
    let b := bankAt x k
    (x.acts.map fun a => if a.2.1 == 2 then 0 else a.1 + (if a.2.2 == layerOf k then t 3 else t 2)).foldl Nat.max
      (Nat.max b.readyAt (after b.actAt (t 46)))
  | .pre k => shut (bankAt x k)
  | .prea => all fun b => if b.open_.isSome then shut b else 0
  | .refpb k | .nrf k _ => (bankAt x k).readyAt
  | .sre => all (·.readyAt)
  | .sww _ _ | .srx | .errclr => 0
  | .rd k _ _ => Nat.max (after (bankAt x k).actAt (t 16)) (reads ())
  | .wr k _ _ _ => Nat.max (after (bankAt x k).actAt (t 16)) (writes ())
  | .rdt _ | .swr _ => reads ()
  | .wrt => writes ())

/-- A command may issue in this slot: its spacings are met and its bank is as it needs (R137, R139, R162, R163). -/
def legal (s : State) (c : Nat) (x : Chan) (m : Cmd) : Bool :=
  let n := stackOf c
  decide (readySlot s n x m ≤ x.slot) && match m with
  | .act k r => (bankAt x k).open_.isNone && decide (fawWeight s n x + 1 ≤ 4) && actPermitted s c x (bankAt x k) k r
  | .refpb k => (bankAt x k).open_.isNone
  | .nrf k _ => (bankAt x k).open_.isNone && decide (fawWeight s n x + 2 ≤ 4)
  | .sre => x.banks.all fun e => e.2.open_.isNone
  | _ => true

/-! ### Skipping (R138, R364, R379) -/

/-- A level leaves a slot of its frame of 16 empty. -/
def skips (level slot : Nat) : Bool :=
  let i := slot % 16
  decide (1 ≤ level) && decide (level ≤ 8) && decide (i * level / 16 < (i + 1) * level / 16)

/-- The level whose slots a command uses: while an allowance lasts, the power level for collective commands and class 1,
level max(power level, 8) for the others. -/
def levelFor (s : State) (n : Nat) (favoured : Bool) : Nat :=
  match (heatAt s n).flask with
  | some _ => if favoured then s.power.level else Nat.max s.power.level 8
  | none => (heatAt s n).running

/-! ### What a command does -/

/-- Rows that a command closes, by bank. -/
def closes (x : Chan) (m : Cmd) : List (Nat × Nat) :=
  let of_ := fun (b : Nat) => match (bankAt x b).open_ with
    | some r => [(b, r)]
    | none => []
  match m with
  | .pre b | .rd b true _ | .wr b _ true _ => of_ b
  | .prea => x.banks.flatMap fun e => of_ e.1
  | _ => []

/-- Half-slot that comes next. -/
def Chan.half (x : Chan) : Nat := 2 * x.slot + b2n x.column

/-- Keep a word and its data for a replay: the last 512 half-slots (R134). -/
def logWord (m : Cmd) (data : Bytes) (closed : List (Nat × Nat)) (x : Chan) : Chan :=
  { x with replay := x.replay.filter (fun r => decide (x.half < r.half + 512)) ++ [⟨x.half, !m.isRow, m.word, data, closed⟩] }

/-- The tracker takes an activation of a row (R160): the tracker and the row's count. -/
def trackAct (row : Nat) (t : List (Nat × Nat)) : List (Nat × Nat) × Nat :=
  match t.find? (·.1 == row) with
  | some e => (t.map fun x => if x.1 == row then (row, e.2 + 1) else x, e.2 + 1)
  | none =>
    if t.length < 256 then (t ++ [(row, 1)], 1)
    else match bestOf (fun (a b : Nat × Nat) => decide (a.2 < b.2)) t with
      | some m => (t.filter (·.1 != m.1) ++ [(row, m.2 + 1)], m.2 + 1)
      | none => (t, 0)

/-- A channel's trackers and offenders clear (R160, R163). -/
def clearEpoch (x : Chan) : Chan :=
  { x with offenders := [], banks := x.banks.map fun e => (e.1, { e.2 with tracker := [], nrfs := [], spaced := false }) }

/-- A boundary of 16 ms of a quadrant; epochs of 32 ms end at every second one. -/
def epochAt (q k : Nat) (s : State) : State :=
  forEach (List.range 8) (fun u s =>
    let n := 8 * q + u
    if (stackAt s n).epoch = 16 || k % 2 = 0 then
      let s := s.onChans fun m => m.map fun e => if stackOf e.1 == n then (e.1, clearEpoch e.2) else e
      updStack n (fun t => { t with epoch := if t.hot then 16 else 32 }) s
    else s) s

/-- Every boundary of 16 ms that a quadrant's time has reached: the last two of them leave what all of them would (R49). -/
def endEpoch (q : Nat) (s : State) : State :=
  let k := quadTime s q / 16000000
  let old := (quadAt s q).epochs
  if k ≤ old then s else
  forEach (([k - 1, k]).filter (old < ·)) (epochAt q) (updQuad q (fun d => { d with epochs := k }) s)

/-- Port code and domain of the request an ACT serves (Table 5.10): internal work counts as ENG. -/
def blameOf (s : State) (req : Option Nat) : Nat × Nat :=
  match req.bind (reqAt s) with
  | some r => (r.port + 1, r.r.domain.toNat)
  | none => (6, 0)

/-- ACT: it counts in the epoch that quadrant time lies in (R49). -/
def doAct (c bank row : Nat) (req : Option Nat) (s : State) : State :=
  let s := endEpoch (quadOfSlot c) s
  let n := stackOf c
  let now := quadTime s (quadOfSlot c)
  let blame := blameOf s req
  let f := fun (x : Chan) =>
    let x := updBank bank (fun b =>
      let (t, k) := trackAct row b.tracker
      { b with open_ := some row, actAt := some x.slot, preAt := x.slot + slotsFor s n 30, hits := 0, due := false,
               tokens := b.tokens - 1, tokAt := if b.tokens = 12144 then now else b.tokAt, lastAct := now,
               tracker := t,
               nrfDue := if 1024 ≤ k && !(b.nrfDue.any (·.1 == row)) then b.nrfDue ++ [(row, blame)] else b.nrfDue }) x
    { x with acts := x.acts.filter (fun a => decide (x.slot < a.1 + 64)) ++ [(x.slot, 1, layerOf bank)],
             offenders := x.offenders.map fun o => if o.1 == bank && o.2.1 == row then (bank, row, now) else o }
  bump 0x8400 (n + 1) 1 (updChan c f s)

/-- A bank's row closes; its accumulator, without deltas, is freed, and old values read for its writes are read again when it is
next open (R230). -/
def closeRow (bank ready : Nat) (x : Chan) : Chan :=
  let row := (bankAt x bank).open_
  let x := updBank bank (fun b => { b with open_ := none, readyAt := Nat.max b.readyAt ready, due := false, hits := 0 }) x
  { x with accums := x.accums.filter (fun a => !(a.bank == bank && some a.row == row)),
           writes := x.writes.map fun e => if e.bank == bank && some e.row == row then { e with old := none, asked := false } else e }

/-- Slot from which the row may precharge after an auto precharge, plus tRP (R137). -/
def autoReady (s : State) (n : Nat) (b : Bank) (earliest : Nat) : Nat :=
  Nat.max earliest ((b.actAt.getD 0) + slotsFor s n 30) + slotsFor s n 16

/-- A queued entry has a column command of its own still to come: a write, or a read that has neither been issued nor its
value. -/
def Sect.pends (e : Sect) : Bool := e.act == .write || e.act == .xor || (!e.asked && e.old.isNone)

/-- Another row of a bank is wanted by a queued entry or a unit. -/
def conflictWaits (x : Chan) (bank : Nat) : Bool :=
  match (bankAt x bank).open_ with
  | none => false
  | some r => (x.reads ++ x.writes).any (fun e => e.bank == bank && e.row != r && e.pends)
      || x.units.any fun u => u.bank == bank && u.row != r && !u.cmds.isEmpty

/-- A read command's spacing effects and its burst. -/
def doRd (c bank : Nat) (auto : Bool) (why : Col) (s : State) : State :=
  let n := stackOf c
  let f := fun (x : Chan) =>
    let b := bankAt x bank
    let row := b.open_.getD 0
    let waits := conflictWaits x bank
    let raw := getSlot s c bank row why.slotNo
    let x := updBank bank (fun b => { b with preAt := Nat.max b.preAt (x.slot + slotsFor s n 4), lastCol := x.slot, due := false,
                                             hits := if waits then b.hits + 1 else b.hits }) x
    let x := { x with lastRd := some x.slot, lastCol := some x.slot,
                      bursts := x.bursts ++ [⟨bank, row, why.slotNo, raw, why, x.slot + tRL s n + 1⟩] }
    if auto then closeRow bank (autoReady s n b (x.slot + slotsFor s n 4)) x else x
  bump 0x8403 (n + 1) 1 (updChan c f s)

/-- A write command's spacing effects. -/
def doWr (c bank : Nat) (auto : Bool) (s : State) : State :=
  let n := stackOf c
  let f := fun (x : Chan) =>
    let b := bankAt x bank
    let waits := conflictWaits x bank
    let rec_ := x.slot + tWL s n + 1 + slotsFor s n 16
    let x := updBank bank (fun b => { b with preAt := Nat.max b.preAt rec_, lastCol := x.slot, due := false,
                                             hits := if waits then b.hits + 1 else b.hits }) x
    let x := { x with lastWr := some x.slot, lastCol := some x.slot }
    if auto then closeRow bank (autoReady s n b rec_) x else x
  bump 0x8404 (n + 1) 1 (updChan c f s)

/-- The gch a notice of a slot names: free where a spare slot, which serves none, is meant (assumption 79). -/
def noticeChannel (c : Nat) (s : State) : Nat × State :=
  match channelOf s c with
  | some g => (g, s)
  | none => (Config.choice s.draw % 2 ^ 16, s.drawn)
/-- A row's fourth NRF in an epoch makes it an offender (R163): spaced, or its whole bank when the channel holds 16, with
notice 0x3040 for at most 64 a second of the MED. -/
def offend (c bank row : Nat) (blame : Nat × Nat) (s : State) : State :=
  let q := quadOfSlot c
  let now := quadTime s q
  let s := updChan c (fun x =>
    if x.offenders.length < 16 then { x with offenders := x.offenders ++ [(bank, row, (bankAt x bank).lastAct)] }
    else updBank bank (fun b => { b with spaced := true }) x) s
  let (sec, sent, all) := (quadAt s q).offenders
  let used := if sec = now / 1000000000 then sent else 0
  let s := updQuad q (fun k => { k with offenders := (now / 1000000000, Nat.min 64 (used + 1), all + 1) }) s
  if 64 ≤ used then s else
  let (g, s) := noticeChannel c s
  notify (.med (Fin.ofNat 4 q)) 0x3040 1 (leBytes 2 g ++ leBytes 1 bank ++ leBytes 2 row ++ leBytes 1 blame.1 ++ leBytes 1 blame.2) s

/-- NRF (R160): it counts in the epoch that quadrant time lies in (R49). -/
def doNrf (c bank row : Nat) (s : State) : State :=
  let s := endEpoch (quadOfSlot c) s
  let n := stackOf c
  let b := bankAt (chanAt s c) bank
  let blame := ((b.nrfDue.find? (·.1 == row)).map (·.2)).getD (6, 0)
  let k := look 0 row b.nrfs + 1
  let s := updChan c (fun x =>
    let x := updBank bank (fun b => { b with readyAt := x.slot + slotsFor s n 60, nrfDue := b.nrfDue.filter (·.1 != row),
                                             tracker := b.tracker.map fun t => if t.1 == row then (row, 0) else t,
                                             nrfs := put 0 row k b.nrfs }) x
    { x with acts := x.acts ++ [(x.slot, 2, layerOf bank)] }) s
  let s := updQuad (quadOfSlot c) (fun d => { d with nrfs := d.nrfs + 1 }) (bump 0x8401 (n + 1) 1 s)
  if k = 4 then offend c bank row blame s else s

/-- REFPB (R156). -/
def doRef (c bank : Nat) (s : State) : State :=
  let n := stackOf c
  bump 0x8402 (n + 1) 1 (updChan c (fun x => updBank bank (fun b =>
    { b with readyAt := x.slot + slotsFor s n 100, owed := b.owed - 1 }) x) s)

/-- SWW (R141, R137). -/
def doSww (c word value : Nat) (s : State) : State :=
  setSw c word value (updChan c (fun x => { x with sww := dropFirst (· == (word, value)) x.sww,
                                                   quietTo := x.slot + slotsFor s (stackOf c) 8 }) s)

/-! ### Sequences (R134, R138, R159, R166) -/

/-- Slots pass with no command until a slot is reached. -/
def waitSlot (to_ : Nat) (x : Chan) : Chan := if x.slot < to_ then { x with slot := to_, column := false } else x

/-- The half-slot a command goes in, once its spacings are met, in a slot that the stack's level does not skip (R364). -/
def toHalf (s : State) (n : Nat) (favoured : Bool) (m : Cmd) (x : Chan) : Chan :=
  let x := waitSlot (readySlot s n x m) x
  let x := if m.isRow && x.column then { x with slot := x.slot + 1, column := false } else x
  let used := fun (i : Nat) => !skips (levelFor s n favoured) (x.slot + i)
  match (List.range 16).find? used with
  | some (i + 1) => { x with slot := x.slot + i + 1, column := !m.isRow }
  | _ => { x with column := !m.isRow }

/-- The slots that a controller lets pass are counted where the level leaves them empty (object 0x8405). -/
def passTo (c : Nat) (favoured : Bool) (m : Cmd) (s : State) : State :=
  let n := stackOf c
  let from_ := (chanAt s c).slot
  let t := updChan c (toHalf s n favoured m) s
  bump 0x8405 (n + 1) ((List.range ((chanAt t c).slot - from_)).filter fun i => skips (levelFor s n true) (from_ + i)).length t

/-- A half-slot has passed. -/
def Chan.step (x : Chan) : Chan := if x.column then { x with column := false, slot := x.slot + 1 } else { x with column := true }

/-- Code of a division step in SW10 (Table 5.3). -/
def dividerWord (k : Nat) : Nat := if k = 1 then 0 else if k = 2 then 1 else 2

/-- What SWR of a word of a slot returns (Table 5.3): stack-scope words as identified, SW30 and SW31 as the stack keeps
them, the rest as written. -/
def swrValue (s : State) (c word : Nat) : Nat :=
  let x := chanAt s c
  if word < 6 then nth (stackAt s (stackOf c)).words word 0
  else if word = 30 then (x.half - x.cleared) % 256
  else if word = 31 then b2n x.caError.isSome + 2 * b2n x.selfRefresh + x.caError.getD 0 * 256
  else swAt s c word

/-- PREA: every open row closes (Table 5.1). -/
def doPrea (c : Nat) (s : State) : State :=
  let gap := slotsFor s (stackOf c) 16
  updChan c (fun x => (x.banks.map (·.1)).foldl (fun x b =>
    if (bankAt x b).open_.isSome then closeRow b (x.slot + gap) x else x) x) s

/-- What a maintenance command does in the model, besides its word. -/
def doCmd (c : Nat) (m : Cmd) (req : Option Nat) (s : State) : State :=
  let n := stackOf c
  match m with
  | .act b r => doAct c b r req s
  | .pre b => updChan c (fun x => closeRow b (x.slot + slotsFor s n 16) x) s
  | .prea => doPrea c s
  | .refpb b => doRef c b s
  | .nrf b r => doNrf c b r s
  | .sww w v => doSww c w v s
  | .sre => updChan c (fun x => { x with selfRefresh := true }) s
  | .srx => updChan c (fun x => { x with selfRefresh := false, quietTo := x.slot + slotsFor s n 200 }) s
  | .errclr => updChan c (fun x => { x with caError := none, cleared := x.half + 1 }) s
  | .rd b auto _ | .wr b _ auto _ =>
    let f := fun (x : Chan) => if auto then closeRow b (autoReady s n (bankAt x b) x.slot) x else x
    updChan c f s
  | .rdt _ | .swr _ => bump 0x8403 (n + 1) 1 (updChan c (fun x => { x with lastRd := some x.slot, lastCol := some x.slot }) s)
  | .wrt => bump 0x8404 (n + 1) 1 (updChan c (fun x => { x with lastWr := some x.slot, lastCol := some x.slot }) s)

/-- A command of a sequence issues as soon as its spacings are met; the slots until then pass with NOPs. -/
def sendAs (favoured : Bool) (c : Nat) (m : Cmd) (s : State) : State :=
  let s := passTo c favoured m s
  let closed := closes (chanAt s c) m
  updChan c (fun x => (logWord m [] closed x).step) (doCmd c m none s)

/-- A command of maintenance, in class 1 of R149. -/
def sendNow (c : Nat) (m : Cmd) (s : State) : State := sendAs true c m s

/-- Write the slots of a row's parity as commands: their times, words and counts (R231). -/
def sendParity (c bank row st : Nat) (s : State) : State :=
  forEach (List.range (paritySlots st)) (fun k s =>
    let m := Cmd.wr bank (128 + k) false none
    let s := passTo c true m s
    let data := (getSlot s c bank row (128 + k)).bytes
    updChan c (fun x => (logWord m data [] x).step) (doWr c bank false s)) s

end Sys2Proof.Machine
end

