-- ==== Sys2Proof/Machine/ChanIssue.lean ====
section
/-!
DEFINITION. The scheduler and the issue stage (R127, R148 to R156, R230 to R235): drains, units, candidates in rank order,
and one half-slot.
-/
namespace Sys2Proof.Machine

/-! ### Queues and drains (R148, R150) -/

/-- An arrival sequence is aged (R150). -/
def Chan.aged (x : Chan) (seq : Nat) : Bool := decide (seq + 1025 ≤ x.next)

/-- Start and end of a drain (R148). -/
def drainNow (s : State) (x : Chan) (c : Nat) : Bool :=
  let old := x.writes.any fun e => x.aged e.seq
  let start := decide (slotObj s c 0x3020 1 ≤ x.writes.length) || x.reads.isEmpty || old
  let stay := x.draining && !(decide (x.writes.length ≤ slotObj s c 0x3020 2) && !old)
  !x.writes.isEmpty && (start || stay)

/-- A read waits for an older queued entry of its sector (R146, R235). -/
def readWaits (x : Chan) (e : Sect) : Bool := x.writes.any fun w => w.same e && decide (w.seq < e.seq)

/-- A queued write waits for a read of its sector (R147). -/
def writeWaits (x : Chan) (w : Sect) : Bool := x.reads.any fun e => e.same w && decide (e.seq < w.seq) && !e.asked && e.old.isNone

/-- A write entry that a waiting read needs written or merged first. -/
def urgent (x : Chan) (w : Sect) : Bool := x.reads.any fun e => w.same e && decide (w.seq < e.seq) && !e.asked

/-- Locked units of a controller that have not begun, with their granules. -/
def lockedWaiting (s : State) (x : Chan) : List (ChanUnit × RowAt × Nat) :=
  x.units.filterMap fun u => if u.kind == .locked && !u.begun then (u.req.bind (lockGranule s)).map fun g => (u, g) else none

/-- An entry queued before a locked unit on its granule, which the unit waits for (R102, R151). -/
def beforeLock (s : State) (x : Chan) (w : Sect) : Bool :=
  (lockedWaiting s x).any fun (u, a, base) => decide (w.seq < u.seq) && w.bank == a.bank && w.row == a.row
    && decide (base ≤ w.slot) && decide (w.slot < base + 8)

/-- A locked unit that has not begun waits for older entries on its granule (R102, R151). -/
def lockHeld (s : State) (x : Chan) (u : ChanUnit) : Bool :=
  u.kind == .locked && !u.begun && ((x.writes.any fun w => decide (w.seq < u.seq) && beforeLock s x w)
    || x.reads.any fun e => decide (e.seq < u.seq) && !e.asked && e.old.isNone && beforeLock s x e)

/-- Write entries the scheduler offers. -/
def offeredWrites (s : State) (x : Chan) : List Sect :=
  x.writes.filter fun w => x.draining || x.aged w.seq || urgent x w || beforeLock s x w

/-- Read entries the scheduler offers: while a drain runs, the aged ones and those a queued write waits for only. -/
def offeredReads (x : Chan) : List Sect :=
  x.reads.filter fun e => !e.asked && e.old.isNone && !readWaits x e
    && (!x.draining || x.aged e.seq || x.writes.any fun w => w.same e && decide (e.seq < w.seq))

/-- Class of R149 for a request's command. -/
def entryClass (x : Chan) (svc seq : Nat) (column : Bool) : Nat :=
  if x.aged seq then 3 else if 1 ≤ svc then 4 else if column then 5 else 6

/-! ### Units (R153, R154, R221, R231, R232, R234) -/

/-- Entries of a row in the write queue. -/
def rowWrites (x : Chan) (bank row : Nat) : List Sect := x.writes.filter fun e => e.bank == bank && e.row == row

/-- Queued requests on a row, other than one entry. -/
def othersOn (x : Chan) (bank row but : Nat) : Bool :=
  (x.reads ++ x.writes).any fun e => e.bank == bank && e.row == row && e.seq != but && e.pends

/-- Units that still have commands on a row. -/
def unitOn (x : Chan) (bank row : Nat) : Bool := x.units.any fun u => u.bank == bank && u.row == row && u.kind != .escalation

def parityOf (st : Nat) : List Nat := (List.range (paritySlots st)).map (128 + ·)

/-- A write entry reaches a row of lower strength (R221). -/
def asksMore (s : State) (a : RowAt) (e : Sect) : Bool :=
  touched s a.gch a.bank a.row && decide (rowStrength s a < e.strength) && !isMetaRow a.bank a.row && !inSlate s (quadOf a.gch)

/-- A write entry needs its row raised first, as far as its retired sectors leave room. -/
def needsRaise (s : State) (a : RowAt) (e : Sect) : Bool :=
  asksMore s a e && decide (rowStrength s a < strengthFor s a e.strength)

/-- A row that a write entry would raise and that cannot be raised at all is reported (R221). -/
def noteShort (a : RowAt) (e : Sect) (s : State) : State :=
  let st := rowStrength s a
  if asksMore s a e && !needsRaise s a e then sayShort a st st e.strength s else s

/-- The unit or accumulator a write entry needs before it can go (none when it has it), and the controller with it. -/
def planEntry (s : State) (began : Bool) (a : RowAt) (e : Sect) : State :=
  let x := chanAt s a.c
  if unitOn x a.bank a.row || writeWaits x e then s else
  let s := noteShort a e s
  let unit := fun (k : UnitKind) (cmds : List Col) (narrow : Bool) (s : State) => updChan a.c (fun x => { x with units := x.units ++
    [{ kind := k, bank := a.bank, row := a.row, cmds := cmds, waiting := [e.seq], narrow := narrow, svc := e.cls, seq := e.seq,
       req := e.req.map (·.1) }] }) s
  if !touched s a.gch a.bank a.row then unit .init ((List.range 136).map Col.wr) false s
  else
    let es := rowWrites x a.bank a.row
    let full := began && !es.any (writeWaits x) && (List.range 128).all fun i => (es.filter (·.slot == i)).any Sect.whole
    let st := rowStrength s a
    if full then
      let top := if es.any (needsRaise s a) then strengthFor s a ((es.map (·.strength)).foldl Nat.max 0) else st
      unit .fullRow ((List.range 128).map (fun i => Col.wr (slotOfSector s a i)) ++ (parityOf top).map Col.wr) false s
    else if needsRaise s a e then
      unit .raise ((List.range 128).map (fun i => Col.fetch (slotOfSector s a i)) ++ (parityOf st).map Col.fetch
        ++ (parityOf (strengthFor s a e.strength)).map Col.wr) false s
    else if x.accums.any fun u => u.bank == a.bank && u.row == a.row then s
    else
      let rowClosed := (bankAt x a.bank).open_ != some a.row
      let narrow := rowClosed && !othersOn x a.bank a.row e.seq
      let fall := [Col.fetch (slotOfSector s a e.slot)] ++ (parityOf st).map Col.fetch ++ (parityOf st).map Col.wr
        ++ [Col.wr (slotOfSector s a e.slot)]
      if narrow then unit .fallback fall true s
      else if x.accums.length < 16 then
        unit .load ((parityOf st).map Col.fetch) false
          (updChan a.c (fun x => { x with accums := x.accums ++ [{ bank := a.bank, row := a.row, strength := st, parity := [] }] }) s)
      else bump 0x8504 (quadOfSlot a.c + 1) 1 (unit .fallback fall false s)

/-- The open row of a bank is due to close (R152). -/
def closeWanted (s : State) (x : Chan) (c bank : Nat) : Bool :=
  let b := bankAt x bank
  match b.open_ with
  | none => false
  | some r =>
    let queued := (x.reads ++ x.writes).filter fun e => e.bank == bank && e.pends
    let hit := queued.any (·.row == r) || x.units.any fun u => u.bank == bank && u.row == r && !u.cmds.isEmpty
    let conflict := conflictWaits x bank
    let taken := match b.actAt with
      | some t => decide (t < b.lastCol)
      | none => false
    b.due || decide (8 ≤ b.owed) || !b.nrfDue.isEmpty || (slotObj s c 0x3010 0 == 1 && taken && !hit) || (conflict && (!hit || decide (slotObj s c 0x3012 0 ≤ b.hits)))

/-- A row that is to close and whose accumulator holds deltas has its parity slots written first (R153). -/
def planFlush (s : State) (c bank : Nat) : State :=
  let x := chanAt s c
  match (bankAt x bank).open_ with
  | none => s
  | some r =>
    match x.accums.find? fun u => u.bank == bank && u.row == r && u.dirty with
    | some u =>
      if !closeWanted s x c bank || unitOn x bank r then s else
      updChan c (fun x => { x with units := x.units ++
        [{ kind := .flush, bank := bank, row := r, cmds := (parityOf u.strength).map Col.wr, seq := 0 }] }) s
    | none => s

/-- A locked unit's commands follow the state its row is in when it begins (R151). -/
def planLocked (c : Nat) (s : State) : State :=
  forEach ((chanAt s c).units.filter fun u => u.kind == .locked && !u.begun) (fun u s =>
    match u.req with
    | some id => updChan c (fun x => { x with units := x.units.map fun v => if v == u then { v with cmds := lockCmds s id } else v }) s
    | none => s) s

/-- The touch lines of a channel that are due go to its channel arbiter, as write entries of their metadata frames: a line
none of whose bits was ever set needs none (R153, R175). -/
def sendTouchLines (g : Nat) (s : State) : State :=
  let mine := s.map.touchDue.filter (· / 512 == g)
  if mine.isEmpty then s else
  let s := s.onMap fun m => { m with touchDue := m.touchDue.filter (· / 512 != g) }
  forEach mine (fun line s => forEach (List.range 2) (fun half s =>
    match touchCell s line half with
    | none => s
    | some (a, i) =>
      let data := touchBytes s line half
      if !touched s a.gch a.bank a.row && data.all (· == 0) then s else
      let e : Sect := { act := .write, bank := a.bank, row := a.row, slot := i, data := data, epoch := writeEpoch s a.gch, strength := 3 }
      addUnit { id := 0, level := 2, arb := chanArb a.c, input := 4, parts := [], sects := [e], slot := a.c, gch := a.gch,
                write := true, quad := quadOf a.gch } s) s) s

/-- The scheduler brings its drain and its units up to date. -/
def plan (c : Nat) (s : State) : State :=
  match channelOf s c with
  | none => s
  | some g =>
    let s := sendTouchLines g s
    let x := chanAt s c
    let d := drainNow s x c
    let began := d && !x.draining
    let s := if d == x.draining then s else updChan c (fun x => { x with draining := d }) s
    let s := forEach (sortBy (·.seq) (offeredWrites s (chanAt s c))) (fun e s => planEntry s began ⟨c, g, e.bank, e.row⟩ e) s
    planLocked c (forEach ((chanAt s c).banks.map (·.1)) (fun b s => planFlush s c b) s)

/-! ### Candidates (R127, R149) -/

/-- A candidate command. -/
structure Cand where
  cmd : Cmd
  cls : Nat
  svc : Nat := 0
  seq : Nat := 0
  /-- Request it serves. -/
  req : Option Nat := none
  /-- It uses the slots of the power level while a Flask allowance lasts (R379). -/
  favoured : Bool := false
  deriving DecidableEq, Repr

/-- Rank: class, in class 4 the service class, then the arrival sequence. -/
def Cand.key (k : Cand) : Nat := (k.cls * 4 + (if k.cls = 4 then 3 - Nat.min 3 k.svc else 0)) * 2 ^ 64 + k.seq

/-- A begun unit keeps its bank from every other command until its last one has issued (R151, R224). -/
def bankOwned (x : Chan) (bank : Nat) : Bool := x.units.any fun u => u.bank == bank && u.begun && !u.cmds.isEmpty

/-- The unit that may use a bank: one that has begun, a running escalation, else the first in line. A channel serves its
escalations one at a time, each until it is complete (R224). -/
def bankUnit (x : Chan) (bank : Nat) : Option ChanUnit :=
  let live := x.units.filter fun u => !u.cmds.isEmpty
  let first := x.units.find? (·.kind == .escalation)
  let mine := live.filter fun u => u.bank == bank && (u.kind != .escalation || first == some u)
  match mine.find? (·.kind == .escalation) with
  | some u => some u
  | none => match mine.find? (·.begun) with
    | some u => some u
    | none => mine.head?

/-- Whether a request carries the collective mark. -/
def isCollective (s : State) (req : Option Nat) : Bool :=
  match req.bind (reqAt s) with
  | some r => r.collective
  | none => false

/-- A row of a controller is being escalated, or its escalation waits for its grant: its units and writes wait (R224). -/
def escalating (s : State) (c bank row : Nat) : Bool :=
  ((chanAt s c).units.any fun e => e.kind == .escalation && e.bank == bank && e.row == row)
    || s.tree.units.any fun u => u.slot == c && u.job.any fun j => j.kind == .escalation && j.bank == bank && j.row == row

/-- The candidate of a unit. -/
def unitCand (s : State) (x : Chan) (c : Nat) (u : ChanUnit) : Option Cand :=
  let b := bankAt x u.bank
  let held := lockHeld s x u
    || (u.kind != .escalation && escalating s c u.bank u.row)
  let mk := fun (m : Cmd) (column : Bool) =>
    let serves := fun (_ : Unit) => x.writes.any fun w => w.bank == u.bank && w.row == u.row && beforeLock s x w
    let cls := if u.kind == .escalation then 1 else if u.kind == .locked || serves () then 2
      else if u.kind == .flush then (if decide (8 ≤ b.owed) || !b.nrfDue.isEmpty then 1 else 5) else entryClass x u.svc u.seq column
    ({ cmd := m, cls := cls, svc := u.svc, seq := u.seq, req := u.req,
       favoured := cls == 1 || isCollective s u.req } : Cand)
  if held then none else
  match b.open_, u.cmds with
  | _, [] => none
  | some r, k :: rest =>
    if r ≠ u.row then none
    else
      let auto := rest.isEmpty && (u.narrow || slotObj s c 0x3010 0 == 1) && !othersOn x u.bank u.row (u.waiting.head?.getD u.seq)
        && !(x.accums.any fun y => y.bank == u.bank && y.row == u.row)
      match k with
      | .wr slot => if u.got.length < u.asked then none else some (mk (.wr u.bank slot auto none) true)
      | y => some (mk (.rd u.bank false y) true)
  | none, _ => some (mk (.act u.bank u.row) false)

/-- The candidate of a queued entry. -/
def entryCand (s : State) (x : Chan) (c g : Nat) (e : Sect) : Option Cand :=
  let b := bankAt x e.bank
  let a : RowAt := ⟨c, g, e.bank, e.row⟩
  let slot := slotOfSector s a e.slot
  let req := e.req.map (·.1)
  let locked := beforeLock s x e
  let mk := fun (m : Cmd) (column : Bool) =>
    let cls := if locked then 2 else entryClass x e.cls e.seq column
    ({ cmd := m, cls := cls, svc := e.cls, seq := e.seq, req := req, favoured := isCollective s req } : Cand)
  let isRead := e.act == .read || e.act == .fetch || e.act == .touch
  if (bankUnit x e.bank).isSome && (bankOwned x e.bank || unitOn x e.bank e.row) then none
  else match b.open_ with
  | none => if !isRead && unitOn x e.bank e.row then none else some (mk (.act e.bank e.row) false)
  | some r =>
    if r ≠ e.row then none
    else if isRead then
      let first := match b.actAt with
        | some t => decide (b.lastCol < t)
        | none => false
      let auto := (slotObj s c 0x3010 0 == 1 || first) && !othersOn x e.bank e.row e.seq
        && !(x.accums.any fun y => y.bank == e.bank && y.row == e.row)
      some (mk (.rd e.bank auto (.rd slot e.seq)) true)
    else
      let older := x.writes.any fun w => w.same e && decide (w.seq < e.seq)
      let acc := x.accums.any fun y => y.bank == e.bank && y.row == e.row && y.loaded
      if older then none
      else if e.old.isNone then (if e.asked then none else some (mk (.rd e.bank false (.rd slot e.seq)) true))
      else if acc && !writeWaits x e && !escalating s c e.bank e.row then some (mk (.wr e.bank slot false (some e.seq)) true)
      else none

/-- A drain's old-data reads come before its batch's writes (R230); entries that are aged, or that a locked unit waits for,
keep their order (R150, R151). -/
def batchReads (x : Chan) (cs : List Cand) : List Cand :=
  let olds := x.draining && cs.any fun k => match k.cmd with
    | .rd _ _ (.rd _ seq) => decide (4 ≤ k.cls) && x.writes.any (·.seq == seq)
    | _ => false
  cs.map fun k => match k.cmd with
    | .wr _ _ _ (some _) => if olds && decide (4 ≤ k.cls) then { k with seq := k.seq + 2 ^ 62 } else k
    | _ => k

/-- The candidate of a bank's maintenance, closing and refresh. -/
def bankCand (s : State) (x : Chan) (c bank : Nat) : List Cand :=
  let b := bankAt x bank
  let must := decide (8 ≤ b.owed) || !b.nrfDue.isEmpty
  if bankOwned x bank then [] else
  match b.open_ with
  | some r =>
    let dirty := x.accums.any fun u => u.bank == bank && u.row == r && u.dirty
    if dirty || !closeWanted s x c bank then [] else
    let wants := (x.reads ++ x.writes).filter fun e => e.bank == bank && e.row != r && e.pends
    let units := x.units.filter fun u => u.bank == bank && u.row != r && !u.cmds.isEmpty
    let must := must || units.any (·.kind == .escalation)
    let ofUnit := fun (u : ChanUnit) => if u.kind == .locked then 2 else entryClass x u.svc u.seq false
    let cls := if must then 1 else ((wants.map fun e => entryClass x e.cls e.seq false) ++ units.map ofUnit).foldl Nat.min 6
    [{ cmd := .pre bank, cls := cls, svc := (wants.map (·.cls) ++ units.map (·.svc)).foldl Nat.max 0,
       seq := (wants.map (·.seq) ++ units.map (·.seq)).foldl Nat.min x.next, favoured := must }]
  | none =>
    let ref_ : List Cand := if 8 ≤ b.owed then [{ cmd := .refpb bank, cls := 1, favoured := true }] else []
    ref_ ++ match b.nrfDue with
      | r :: _ => [{ cmd := .nrf bank r.1, cls := 1, favoured := true }]
      | [] => []

/-- Refreshes that are not due: precharged banks without a queued request, the most owed first (DESIGN CHOICE, assumption
21). -/
def spareRefresh (x : Chan) : List Cand :=
  let idle := (List.range 64).filter fun k =>
    let b := bankAt x k
    b.open_.isNone && decide (-8 < b.owed) && !((x.reads ++ x.writes).any (·.bank == k)) && !(x.units.any (·.bank == k))
  idle.map fun k => { cmd := .refpb k, cls := 7, seq := (64 - (bankAt x k).owed).toNat }

/-- A command that a locked unit in execution keeps out of its channel (R151). -/
def Cmd.refreshes : Cmd → Bool
  | .refpb _ | .nrf _ _ => true
  | _ => false

/-- A slot's rest stop is due: its interval has passed (R164). -/
def restDue (s : State) (c : Nat) : Bool :=
  let x := chanAt s c
  x.owesRest || decide (Nat.max x.lastRest (stackAt s (stackOf c)).base + Nat.min x.interval (1000 * slotObj s c 0x3050 1) * 1000
    ≤ quadTime s (quadOfSlot c))

/-- At a division step of 2 or 4 rest stops are deferred for at most 256 ms (R167). -/
def restDeferred (s : State) (c : Nat) : Bool :=
  let t := stackAt s (stackOf c)
  t.step != 1 && decide (quadTime s (quadOfSlot c) < t.deferFrom + 256000000)

/-- A slot may take a rest stop now (R159, R164, R167). -/
def restReady (s : State) (c : Nat) : Bool :=
  restDue s c && !restDeferred s c && !slotUnderTest s c && !(chanAt s c).selfRefresh

/-- A slot has a use for its stack's token (R165). -/
def wantsToken (s : State) (c : Nat) : Bool := restReady s c || mayPause s c

/-- A slot holds its stack's token for a rest stop or a lane pause: its scheduler stops offering request commands (Tables
5.8 and 11.3, step 1). -/
def restCalled (s : State) (c : Nat) : Bool := (stackAt s (stackOf c)).token == some (c % 66) && wantsToken s c

/-- A slot holds the token for a lane pause (Table 11.3). -/
def pauseCalled (s : State) (c : Nat) : Bool := restCalled s c && !restReady s c

/-- While a row initialisation's writes issue, no other column command does (R153). -/
def initRuns (x : Chan) : Option Nat :=
  (x.units.find? fun u => u.stored && !u.cmds.isEmpty && (u.kind == .init || (u.kind == .locked && u.asked == 0))).map (·.bank)

/-- Bank of a column command. -/
def Cmd.colBank : Cmd → Option Nat
  | .rd b _ _ | .wr b _ _ _ => some b
  | _ => none

/-- The candidates of a half-slot, in rank order (R127, R130, R149): those of the half it is, and none that a locked unit
or a row initialisation under way keeps out. -/
def candidates (s : State) (c : Nat) : List Cand :=
  let x := chanAt s c
  let banks := x.banks.map (·.1)
  let sww : List Cand := (x.sww.take 1).map fun w => { cmd := .sww w.1 w.2, cls := 1, favoured := true }
  let own := match channelOf s c with
    | none => []
    | some g =>
      let touched_ := (banks ++ x.units.map (·.bank)).eraseDups
      let stops := restCalled s c
      let units := touched_.filterMap fun b =>
        ((bankUnit x b).filter fun u => !stops || u.begun || u.kind == .escalation).bind (unitCand s x c)
      units ++ batchReads x (if stops then [] else (offeredReads x ++ offeredWrites s x).filterMap (entryCand s x c g))
  let all := sww ++ own ++ banks.flatMap (bankCand s x c) ++ spareRefresh x
  let locked := x.units.any fun u => u.kind == .locked && u.begun && !u.cmds.isEmpty
  let init := initRuns x
  sortBy Cand.key (all.filter fun k => k.cmd.isRow != x.column && !(locked && k.cmd.refreshes)
    && (init.isNone || k.cmd.colBank.isNone || k.cmd.colBank == init))

/-! ### Effects of a unit's writes -/

/-- A row whose codeword cannot be decoded is written as a full-row unit, with the new data of the write entries given (R232,
R234). -/
def rewriteRow (a : RowAt) (r : RowRead) (over_ : List Sect) (s : State) : State :=
  pushWritten a r.strength (writeRow a r.strength
    ((rescuedCells s a r).zipIdx.map fun x => (over_.filter (·.slot == x.2)).foldl applySect x.1) s)

/-- Take write entries out of a controller's queue. -/
def dropWrites (c : Nat) (p : Sect → Bool) (s : State) : State := updChan c (fun x => { x with writes := x.writes.filter fun e => !p e }) s

/-- A unit's writes take effect, at the first of them; the stores of its entries happen in their order. -/
def unitStore (c g : Nat) (u : ChanUnit) (s : State) : State :=
  let a : RowAt := ⟨c, g, u.bank, u.row⟩
  let mine := fun (e : Sect) => e.bank == u.bank && e.row == u.row
  let es := sortBy (·.seq) ((chanAt s c).writes.filter mine)
  match u.kind with
  | .init =>
    let slots := (es.map (·.slot)).eraseDups
    let given := slots.map fun i => (i, (es.filter (·.slot == i)).foldl applySect zeroSector)
    dropWrites c mine (initRow a ((es.head?.map (·.strength)).getD 0) given s)
  | .fullRow =>
    let cells := (List.range 128).map fun i => (es.filter (·.slot == i)).foldl applySect zeroSector
    let want := if es.any (asksMore s a) then (es.map (·.strength)).foldl Nat.max 0 else 0
    let st := rowStrength s a
    let top := strengthFor s a want
    let s := dropWrites c mine (writeRow a top cells s)
    if want = 0 then s else sayShort a st top want s
  | .fallback =>
    match es.find? fun e => u.waiting.contains e.seq with
    | some e =>
      let old := (soundSector s a e.slot).getD zeroSector
      dropWrites c (fun x => x.seq == e.seq) (putSector a e.slot (applySect old e) s)
    | none => s
  | .raise => raiseStrength a ((es.map (·.strength)).foldl Nat.max 0) s
  | .flush => match accumOf s a with
    | some x => updChan c (fun y => { y with accums := y.accums.filter fun z => !(z.bank == u.bank && z.row == u.row) })
        (putParity a x.strength x.parity s)
    | none => s
  | .locked => match u.req with
    | some id =>
      let s := if touched s g u.bank u.row then s else initRow a ((((reqAt s id).map (·.cur.strength))).getD 0) [] s
      runMembers id s
    | none => s
  | .load | .escalation | .written | .member | .scrub | .copy => s

/-- A queued entry's write takes effect on the value its old-data read gave. -/
def entryStore (c g seq : Nat) (s : State) : State :=
  match (chanAt s c).writes.find? (·.seq == seq) with
  | none => s
  | some e =>
    let a : RowAt := ⟨c, g, e.bank, e.row⟩
    let old := (soundSector s a e.slot).getD (e.old.getD zeroSector)
    dropWrites c (·.seq == seq) (putSector a e.slot (applySect old e) s)

/-- Change the unit of a bank and row that has a command to issue. -/
def updUnit (c : Nat) (u : ChanUnit) (f : ChanUnit → ChanUnit) (s : State) : State :=
  updChan c (fun x => { x with units := x.units.map fun v => if v == u then f v else v }) s

/-- Units with nothing left to issue or to receive leave; a load fills its accumulator, a locked unit that only reads takes
effect. -/
def settleUnits (c : Nat) (s : State) : State :=
  match channelOf s c with
  | none => s
  | some g =>
    let over_ := (chanAt s c).units.filter fun u => u.cmds.isEmpty && decide (u.asked ≤ u.got.length) && u.kind != .escalation
      && !escalating s c u.bank u.row && !lockHeld s (chanAt s c) u
    forEach over_ (fun u s =>
      let s := updChan c (fun x => { x with units := x.units.filter (· != u) }) s
      let a : RowAt := ⟨c, g, u.bank, u.row⟩
      match u.kind with
      | .load =>
        let st := rowStrength s a
        let parity := soundParity s a st
        updChan c (fun x => { x with accums := x.accums.map fun z =>
          if z.bank == u.bank && z.row == u.row then { z with loaded := true, strength := st, parity := parity } else z }) s
      | .locked => if u.stored then s else match u.req with
        | some id => runMembers id s
        | none => s
      | _ => s) s

/-! ### One half-slot -/

/-- Issue a command. -/
def issue (c : Nat) (k : Cand) (s : State) : State :=
  let g := (channelOf s c).getD 0
  let x := chanAt s c
  match k.cmd with
  | .act b r =>
    let s := doAct c b r k.req s
    match bankUnit x b with
    | some u => if u.row = r then updUnit c u (fun v => { v with begun := true }) s else s
    | none => s
  | .rd b auto why =>
    let s := match why with
      | .rd _ seq => updChan c (fun x => { x with reads := x.reads.map (fun e => if e.seq == seq then { e with asked := true } else e),
                                                  writes := x.writes.map fun e => if e.seq == seq then { e with asked := true } else e }) s
      | _ => match bankUnit x b with
        | some u => updUnit c u (fun v => { v with begun := true, cmds := v.cmds.drop 1, asked := v.asked + 1 }) s
        | none => s
    doRd c b auto why s
  | .wr b _ auto entry =>
    let s := match entry with
      | some seq => entryStore c g seq s
      | none => match bankUnit x b with
        | some u =>
          let s := if u.stored then s else unitStore c g u s
          updUnit c u (fun v => { v with begun := true, stored := true, cmds := v.cmds.drop 1 }) s
        | none => s
    doWr c b auto s
  | m => doCmd c m none s

/-- Data a write command carries: the slot as stored, of the row open in the controller as it was. -/
def wrData (c : Nat) (x : Chan) (m : Cmd) (s : State) : Bytes :=
  match m with
  | .wr b k _ _ => (getSlot s c b (((bankAt x b).open_).getD 0) k).bytes
  | _ => []

/-- The issue stage of a slot takes candidates: its stack runs, its quadrant and the complex are in service, and no hard repair
runs in it (R340). -/
def stageRuns (s : State) (c : Nat) : Bool :=
  let x := chanAt s c
  let q := quadAt s (quadOfSlot c)
  (stackAt s (stackOf c)).running && !x.selfRefresh && !x.inRest && x.caError.isNone && q.lostAt.isNone && (q.resetAt.isNone || q.atStep6)
    && s.power.shutdown < 3 && !(s.start.hard.any fun r => r.stack == stackOf c && r.pch == c % 66)

/-- Only owed refreshes issue: the quadrant waits at step 6 of its reset (Table 14.5), or the slot is under test (R483). -/
def refreshOnly (s : State) (c : Nat) : Bool := (quadAt s (quadOfSlot c)).resetAt.isSome || slotUnderTest s c

/-- A per-bank refresh. -/
def Cmd.isRefresh : Cmd → Bool
  | .refpb _ => true
  | _ => false

/-- A half-slot passes. -/
def nextHalf (c : Nat) (s : State) : State := updChan c Chan.step s

/-- ISSUE_HALF_SLOT (R127): of at most 8 candidates in rank order, the first whose spacings are met, else NOP. -/
def execIssueHalfSlot (stack : Fin 32) (pch : Fin 66) (s : State) : Answered :=
  whenReleased s fun s =>
    let c := slotNo stack pch
    if !stageRuns s c then nextHalf c s else
    let only := refreshOnly s c
    let s := if only then s else settleUnits c (plan c s)
    let x := chanAt s c
    let open_ := fun (k : Cand) => !skips (levelFor s stack k.favoured) x.slot
    let offered := (candidates s c).filter fun k => !only || k.cmd.isRefresh
    let pick := (offered.take 8).find? fun k => open_ k && legal s c x k.cmd
    let s := if !x.column && skips (levelFor s stack true) x.slot then bump 0x8405 (stack + 1) 1 s else s
    match pick with
    | none => nextHalf c s
    | some k =>
      let s := issue c k s
      let s := updChan c (fun y => logWord k.cmd (wrData c x k.cmd s) (closes x k.cmd) y) s
      nextHalf c (if only then s else settleUnits c s)

/-- IDLE_CLOSE_TIMEOUT (R152): a row that took no column command for the time of object 0x3011 is due to close. -/
def execIdleCloseTimeout (stack : Fin 32) (pch : Fin 66) (bank : Fin 64) (s : State) : Answered :=
  whenReleased s fun s =>
    let c := slotNo stack pch
    let x := chanAt s c
    let b := bankAt x bank
    let since := Nat.max b.lastCol (b.actAt.getD 0)
    if b.open_.isNone || x.slot < since + slotsFor s stack (slotObj s c 0x3011 0) then s
    else planFlush (updChan c (updBank bank fun b => { b with due := true }) s) c bank

end Sys2Proof.Machine
end

