-- ==== Sys2Proof/Machine/ChanReturn.lean ====
section
/-!
DEFINITION. What comes back from a stack (R133 to R136, R223 to R228, R331): bursts and their checks, escalations, missing
bursts, CA alerts.
-/
namespace Sys2Proof.Machine

/-! ### Escalation (R224) -/

/-- Logical slot of a stored slot of a row: the sector a spare slot holds, else its own number (R217). -/
def logicalSlot (s : State) (a : RowAt) (slot : Nat) : Nat :=
  match (chanAt s a.c).sectors.find? fun e => e.1 == a.bank && e.2.1 == a.row && e.2.2.2 == slot with
  | some e => e.2.2.1
  | none => slot

/-- Escalate a row for an entry at input 1 of its channel arbiter, or join the escalation that reads it. -/
def escalate (a : RowAt) (seqs : List Nat) (s : State) : State :=
  let mine := fun (u : ChanUnit) => u.kind == .escalation && u.bank == a.bank && u.row == a.row
  let due := fun (u : TUnit) => u.slot == a.c && u.job.any fun j => j.kind == .escalation && j.bank == a.bank && j.row == a.row
  if (chanAt s a.c).units.any mine then
    updChan a.c (fun x => { x with units := x.units.map fun u => if mine u then { u with waiting := u.waiting ++ seqs } else u }) s
  else if s.tree.units.any due then
    onUnits (·.map fun u => if due u then { u with job := u.job.map fun j => { j with waiting := j.waiting ++ seqs } } else u) s
  else addJob a.c a.gch 1 { kind := .escalation, bank := a.bank, row := a.row, waiting := seqs } s

/-! ### Entries with their data -/

/-- Reads that waited for a partial write whose old data has come are served from the merged value (R146). -/
def serveMerged (c g : Nat) (bank row slot : Nat) (old : Bytes × Nat) (s : State) : State :=
  let x := chanAt s c
  let probe : Sect := { act := .read, bank := bank, row := row, slot := slot }
  let reads := sortBy (·.seq) (x.reads.filter fun e => e.same probe && e.act == .read && !e.asked)
  forEach reads (fun e s =>
    let ws := sortBy (·.seq) ((chanAt s c).writes.filter fun w => w.same e && decide (w.seq < e.seq))
    match !ws.isEmpty && ws.all (·.act == .write), e.req with
    | true, some (id, n) =>
      let base := (soundSector s ⟨c, g, bank, row⟩ slot).getD old
      let s := updChan c (fun x => { x with reads := x.reads.filter (·.seq != e.seq) }) s
      deliverSector id n e.mask (ws.foldl applySect base) false s
    | _, _ => s) s

/-- A queued entry has its stored value: a read is delivered, an atomic's read waits for its others, a write keeps it as
its old data. -/
def entryValue (c g seq : Nat) (v : Bytes × Nat) (fixed : Bool) (s : State) : State :=
  let x := chanAt s c
  match x.reads.find? (·.seq == seq) with
  | some e =>
    match e.act, e.req with
    | .fetch, some (id, n) =>
      let s := updChan c (fun x => { x with reads := x.reads.map fun y => if y.seq == seq then { y with old := some v } else y }) s
      let s := if fixed then updPart id n (fun p => { p with corrected := true }) s else s
      finishAtomic c id n s
    | .touch, some (id, n) => releaseTouch id n (updChan c (fun x => { x with reads := x.reads.filter (·.seq != seq) }) s)
    | _, some (id, n) =>
      deliverSector id n e.mask v fixed (updChan c (fun x => { x with reads := x.reads.filter (·.seq != seq) }) s)
    | _, none => updChan c (fun x => { x with reads := x.reads.filter (·.seq != seq) }) s
  | none =>
    match x.writes.find? (·.seq == seq) with
    | some e =>
      let open_ := (bankAt x e.bank).open_ == some e.row
      serveMerged c g e.bank e.row e.slot v
        (updChan c (fun x => { x with writes := x.writes.map fun y => if open_ && y.seq == seq then { y with old := some v } else y }) s)
    | none => s

/-! ### READ_BURST_RETURN (R214, R216, R223) -/

/-- A unit that takes what it reads as it comes: the decode that follows judges it. -/
def ChanUnit.decodes (u : ChanUnit) : Bool :=
  u.kind == .escalation || u.kind == .member

/-- The write that a unit without an accumulator makes, when a slot is its own sector's (R146, R232). -/
def fallbackEntry (s : State) (a : RowAt) (u : ChanUnit) (slot : Nat) : Option Nat :=
  if u.kind != .fallback then none else
  ((chanAt s a.c).writes.find? fun e => u.waiting.contains e.seq && slotOfSector s a e.slot == slot).map (·.seq)

/-- A burst arrives: it is checked, and its entry or unit goes on or the row escalates. -/
def burstArrives (c : Nat) (b : Burst) (v : Slot) (s : State) : State :=
  let g := (channelOf s c).getD 0
  let a : RowAt := ⟨c, g, b.bank, b.row⟩
  let blank := !touched s a.gch a.bank a.row
  let ok := blank || v.passes (a.word (logicalSlot s a b.slot))
  let s := if ok then s else bump 0x8500 (quadOfSlot c + 1) 1 s
  match b.why with
  | .rd _ seq =>
    if blank then entryValue c g seq zeroSector false s
    else if ok then entryValue c g seq (v.data, v.tag) false s else escalate a [seq] s
  | _ =>
    let owes := fun (u : ChanUnit) => u.bank == b.bank && u.row == b.row && decide (u.got.length < u.asked)
    let us := (chanAt s c).units.filter owes
    match (us.filter (·.kind != .escalation)).head?.or us.head? with
    | none => s
    | some u =>
      let s := updUnit c u (fun w => { w with got := w.got ++ [(b.slot, v)] }) s
      let own := (fallbackEntry s a u b.slot).toList
      if u.decodes then s
      else if ok then forEach own (fun seq s => entryValue c g seq (if blank then zeroSector else (v.data, v.tag)) false s) s
      else escalate a own s

/-- READ_BURST_RETURN: the oldest burst in flight, with the bits the lanes changed, once its last beat is at the PHY. -/
def execReadBurstReturn (stack : Fin 32) (pch : Fin 66) (noise : Bytes) (s : State) : Answered :=
  whenReleased s fun s =>
    let c := slotNo stack pch
    let x := chanAt s c
    match x.bursts with
    | [] => s
    | b :: rest =>
      if x.slot < b.back then s else
      let s := updChan c (fun x => { x with bursts := rest }) s
      settleUnits c (burstArrives c b (slotOf (xorBytes b.raw.bytes (padTo 36 noise))) s)

/-! ### ESCALATION_COMPLETE (R225 to R228) -/

/-- Quadrant times within the last second. -/
def lastSecond (now : Nat) (ts : List Nat) : List Nat := ts.filter fun t => decide (now < t + 1000000000)

/-- A corrected escalation counts, in its hour, its stack's wear and on the lanes in error (R331, R343, R355). -/
def countCorrected (c : Nat) (lanes : List Nat) (s : State) : State :=
  let now := quadTime s (quadOfSlot c)
  let hour := poweredNow s / 3600
  let s := updChan c (fun x =>
    let n := if x.wearHour = hour then x.corrected + 1 else 1
    let errs := (x.laneErrs.filter fun e => decide (now < e.2 + 1000000000)) ++ lanes.map (·, now)
    let due := (lanes.eraseDups).filter fun l =>
      decide (slotObj s c 0x5010 1 ≤ (errs.filter (·.1 == l)).length) && !(x.dueLanes.any (·.1 == l))
    { x with corrected := n, wearHour := hour, laneErrs := errs, dueLanes := x.dueLanes ++ due.map (·, 1) }) s
  let s := updStack (stackOf c) (fun t => { t with wearCorr := t.wearCorr + 1 }) s
  bump 0x8502 (quadOfSlot c + 1) 1 s

/-- Segment that holds a sector of a row, for notice 0x4001: zero where none does (DESIGN CHOICE, assumption 22). -/
def segmentAt (s : State) (a : RowAt) (i : Nat) : Nat :=
  let (g, y) := owner s a.gch (frameOfRow a.bank a.row + i / 64)
  match (liveSegs s).find? fun x => x.2.place.inStack s.variant (g / 64) &&
    let (f, n) := x.2.place.frames s.variant
    decide (f ≤ y) && decide (y < f + n) with
  | some x => x.1
  | none => 0

/-- An uncorrectable codeword is counted and, once a second for its row, reported (R228). -/
def countUncorrectable (a : RowAt) (bad lost : List Nat) (s : State) : State :=
  let q := quadOfSlot a.c
  let now := quadTime s q
  let s := updStack (stackOf a.c) (fun t => { t with wearUncorr := (t.wearUncorr + 1) % 2 ^ 32 }) (bump 0x8503 (q + 1) 1 s)
  let said := (chanAt s a.c).uncorrAt.any fun e => e.1 == a.bank && e.2.1 == a.row && decide (now < e.2.2 + 1000000000)
  if said then s else
  let s := updChan a.c (fun x => { x with uncorrAt :=
    (x.uncorrAt.filter fun e => decide (now < e.2.2 + 1000000000)) ++ [(a.bank, a.row, now)] }) s
  notify (.med (Fin.ofNat 4 q)) 0x4001 2
    (leBytes 2 a.gch ++ leBytes 1 a.bank ++ leBytes 2 a.row ++ leBytes 4 (segmentAt s a ((lost ++ bad).head?.getD 0)) ++ leBytes 1 lost.length) s

/-- The row of an escalation as its burst reads give it. -/
def rowOfUnit (s : State) (a : RowAt) (u : ChanUnit) : RowRead :=
  let at_ := fun (k : Nat) => match u.got.find? (·.1 == k) with
    | some e => e.2
    | none => getSlot s a.c a.bank a.row k
  let st := match accumOf s a with
    | some x => x.strength
    | none => let p := at_ 128; if p.passes (a.word 128) then tagState p.tag else tagState (at_ 129).tag
  decodeRow (swAt s a.c 16) a st ((List.range 128).map fun i => at_ (slotOfSector s a i)) ((parityOf st).map at_)
    ((accumOf s a).map (·.parity))

/-- The row of an escalation is decoded: corrected sectors are returned; else reconstructed or poisoned ones, and a row
that a write waits for is written whole. -/
def finishEscalation (a : RowAt) (u : ChanUnit) (s : State) : State :=
  let r := rowOfUnit s a u
  let s := updChan a.c (fun x => { x with units := x.units.filter (· != u) }) s
  let seqs := u.waiting
  let slotOfSeq := fun (s : State) (q : Nat) => ((chanAt s a.c).reads ++ (chanAt s a.c).writes).find? (·.seq == q)
  if !r.failed then
    let s := if r.symbols = 0 && r.fixed.isEmpty then s else countCorrected a.c r.lanes s
    forEach seqs (fun q s => match slotOfSeq s q with
      | some e => entryValue a.c a.gch q (nth r.sectors e.slot zeroSector) (r.fixed.contains e.slot) s
      | none => s) s
  else
    let got := r.bad.map fun i => (i, stripeValue s a i)
    let lost := (got.filter (·.2.isNone)).map (·.1)
    let s := forEach r.bad (fun i s => if inSlate s (quadOf a.gch) then s else readStripe a i s) s
    let s := countUncorrectable a r.bad lost s
    let value := fun (i : Nat) => match got.find? (·.1 == i) with
      | some (_, some v) => v
      | some (_, none) => (List.replicate 32 0, tagWord true 0 0 6)
      | none => nth r.sectors i zeroSector
    let writes := (chanAt s a.c).writes.filter fun e => seqs.contains e.seq
    let held := (chanAt s a.c).units.any fun v => v.bank == a.bank && v.row == a.row && v.kind != .escalation
    let s := forEach seqs (fun q s =>
      if writes.any (·.seq == q) then s else match slotOfSeq s q with
      | some e => entryValue a.c a.gch q (value e.slot) false s
      | none => s) s
    if writes.isEmpty && !held then s
    else dropWrites a.c (fun e => seqs.contains e.seq) (rewriteRow a r (sortBy (·.seq) writes) s)

/-- ESCALATION_COMPLETE: the oldest escalation of the channel whose reads have all come back. -/
def execEscalationComplete (stack : Fin 32) (pch : Fin 66) (s : State) : Answered :=
  whenReleased s fun s =>
    let c := slotNo stack pch
    match (chanAt s c).units.find? (·.kind == .escalation) with
    | none => s
    | some u =>
      if !u.cmds.isEmpty || u.got.length < u.asked then s
      else settleUnits c (finishEscalation ⟨c, (channelOf s c).getD 0, u.bank, u.row⟩ u s)

/-! ### MISSING_BURST_TIMEOUT (R135) -/

/-- MISSING_BURST_TIMEOUT: the oldest burst did not come and no alert followed within 120 ns × k of its first beat: a lane
fault, and the read is recovered as a failed one. -/
def execMissingBurstTimeout (stack : Fin 32) (pch : Fin 66) (s : State) : Answered :=
  whenReleased s fun s =>
    let c := slotNo stack pch
    let x := chanAt s c
    match x.bursts with
    | [] => s
    | b :: rest =>
      if x.slot + 1 < b.back + slotsFor s stack (120 * (stackAt s stack).step) then s else
      let now := quadTime s (quadOfSlot c)
      let s := updChan c (fun x => { x with bursts := rest, misses := lastSecond now x.misses ++ [now] }) s
      let s := recovered (300 * (stackAt s stack).step) s
      let g := (channelOf s c).getD 0
      let a : RowAt := ⟨c, g, b.bank, b.row⟩
      match b.why with
      | .rd _ seq => escalate a [seq] s
      | _ =>
        let us := (chanAt s c).units.filter fun u => u.bank == b.bank && u.row == b.row && decide (u.got.length < u.asked)
        match (us.filter (·.kind != .escalation)).head?.or us.head? with
        | none => s
        | some u =>
          let bad : Slot := { check := (sectorCheck (a.word (logicalSlot s a b.slot)) (List.replicate 32 0) 0) ^^^ 1 }
          let s := updUnit c u (fun w => { w with got := w.got ++ [(b.slot, bad)] }) s
          settleUnits c (if u.decodes then s else escalate a (fallbackEntry s a u b.slot).toList s)

/-! ### CA_ALERT (R133, R134, R136) -/

/-- Controllers of a stack that drive a slot: those that serve a channel and the good spares; none of a stack outside the
mask or not qualified (R29, R30). -/
def stackSlots (s : State) (n : Nat) : List Nat :=
  let t := stackAt s n
  if !s.variant.enables n || !t.qualified then [] else
  ((t.table.filter (· < 66)) ++ t.spares).map (slotNo n)

/-- The half-slot of a word whose SW30 count a stack kept: the newest one with that count of 8 bits (R133, R140). -/
def halfOfCount (x : Chan) (count : Nat) : Nat := x.half - (x.half - x.cleared + 256 - count % 256) % 256

/-- The bank state before a failed word: what its later words opened is shut, what they closed is open again, and their
activations have not happened (R134). -/
def restoreBanks (failed : Nat) (x : Chan) : Chan :=
  let lost := (x.replay.filter fun e => decide (failed ≤ e.half)).reverse
  let x := lost.foldl (fun x e =>
    let x := match cmdOfWord e.column e.word with
      | some (.act b _) => updBank b (fun k => { k with open_ := none }) x
      | _ => x
    e.closed.foldl (fun x k => updBank k.1 (fun v => { v with open_ := some k.2 }) x) x) x
  { x with acts := x.acts.filter fun a => decide (2 * a.1 < failed) }

/-- What a replayed word changes: bank state and spacings; its other effects have happened. -/
def replayStamp (s : State) (n : Nat) (m : Cmd) (x : Chan) : Chan :=
  let t := slotsFor s n
  let now := x.slot
  let f := fun (b : Nat) (g : Bank → Bank) => updBank b g x
  match m with
  | .act b r => { f b (fun k => { k with open_ := some r, actAt := some now, preAt := now + t 30 }) with acts := x.acts ++ [(now, 1, layerOf b)] }
  | .pre b => f b fun k => { k with open_ := none, readyAt := Nat.max k.readyAt (now + t 16) }
  | .prea => { x with banks := x.banks.map fun e => if e.2.open_.isSome then (e.1, { e.2 with open_ := none, readyAt := Nat.max e.2.readyAt (now + t 16) }) else e }
  | .refpb b => f b fun k => { k with readyAt := now + t 100 }
  | .nrf b _ => { f b (fun k => { k with readyAt := now + t 60 }) with acts := x.acts ++ [(now, 2, layerOf b)] }
  | .sww _ _ => { x with quietTo := now + t 8 }
  | .srx => { x with quietTo := now + t 200 }
  | .rd b auto _ =>
    { f b (fun k => if auto then { k with open_ := none, readyAt := autoReady s n k (now + t 4) } else { k with preAt := Nat.max k.preAt (now + t 4) })
      with lastRd := some now, lastCol := some now }
  | .wr b _ auto _ =>
    let rec_ := now + tWL s n + 1 + t 16
    { f b (fun k => if auto then { k with open_ := none, readyAt := autoReady s n k rec_ } else { k with preAt := Nat.max k.preAt rec_ })
      with lastWr := some now, lastCol := some now }
  | .rdt _ | .swr _ => { x with lastRd := some now, lastCol := some now }
  | .wrt => { x with lastWr := some now, lastCol := some now }
  | .sre | .errclr => x

/-- A word that a stack in its CA error state takes: SWR of SW31, and ERRCLR (R133). -/
def Sent.exempt (e : Sent) : Bool :=
  match cmdOfWord e.column e.word with
  | some (.swr 31) | some .errclr => true
  | _ => false

/-- Every word from the failed one on that the stack ignored goes out again in its order, with its data, every spacing counted
afresh; a burst of a replayed read comes after its replay (R134). -/
def replayFrom (failed : Nat) (s : State) (n : Nat) (x : Chan) : Chan :=
  let lost := x.replay.filter fun e => decide (failed ≤ e.half) && !e.exempt
  let x := restoreBanks failed { x with replay := x.replay.filter fun e => decide (e.half < failed) }
  let go := fun (acc : Chan × List Nat) (e : Sent) =>
    match cmdOfWord e.column e.word with
    | none => acc
    | some m =>
      let x := toHalf s n true m acc.1
      let backs := match m with
        | .rd _ _ _ => acc.2 ++ [x.slot + tRL s n + 1]
        | _ => acc.2
      let closed := closes x m
      ((logWord m e.data closed (replayStamp s n m x)).step, backs)
  let (x, backs) := lost.foldl go (x, [])
  let kept := x.bursts.length - backs.length
  { x with bursts := x.bursts.zipIdx.map fun b => if kept ≤ b.2 then { b.1 with back := nth backs (b.2 - kept) b.1.back } else b.1 }

/-- The MED of a slot. -/
def medOfSlot (c : Nat) : Die := .med (Fin.ofNat 4 (quadOfSlot c))

/-- A replay of a channel is counted, and more than 16 in a second are reported once a second (R136). -/
def countReplay (c : Nat) (s : State) : State :=
  let n := stackOf c
  let now := quadTime s (quadOfSlot c)
  let s := updStack n (fun t => { t with caReplays := (t.caReplays + 1) % 2 ^ 32, wearCa := (t.wearCa + 1) % 2 ^ 32 }) s
  let s := updChan c (fun x => { x with replays := lastSecond now x.replays ++ [now] }) s
  let x := chanAt s c
  let due := match x.caNotice with
    | some t => decide (t + 1000000000 ≤ now)
    | none => true
  if 16 < x.replays.length && due then
    let (g, s) := noticeChannel c s
    notify (medOfSlot c) 0x3001 1 (leBytes 2 g ++ leBytes 1 (c % 66) ++ leBytes 2 x.replays.length)
      (updChan c (fun x => { x with caNotice := some now }) s)
  else s

/-- CA_ALERT (R134): every controller of the stack reads SW31; the one whose SW31 [0] is set clears it with ERRCLR, takes its
banks back to the failed word and replays from it. No command is lost or executed twice: a replayed word's data, counts and
tracker entries stand as they are (assumption 28). -/
def execCaAlert (stack : Fin 32) (erring : Option (Fin 66 × Nat)) (clears : Bool) (s : State) : Answered :=
  whenReleased s fun s =>
    let slots := (stackSlots s stack).filter fun c => !(chanAt s c).selfRefresh
    let failed := erring.bind fun e => let c := slotNo stack e.1
      if slots.contains c then some (c, e.2, halfOfCount (chanAt s c) ((chanAt s c).caError.getD e.2)) else none
    let s := match failed with
      | some (c, v, _) => updChan c (fun x => { x with caError := some (x.caError.getD v % 256) }) s
      | none => s
    let s := forEach slots (fun c s => sendNow c (.swr 31) s) s
    match failed with
    | none => s
    | some (c, _, h) =>
      if !clears then s
      else recovered (300 * (stackAt s stack).step)
        (countReplay c (let s := sendNow c .errclr s; updChan c (replayFrom h s stack) s))

end Sys2Proof.Machine
end

