-- ==== Sys2Proof/Machine/ChanUpkeep.lean ====
section
/-!
DEFINITION. What a channel and its stack need in time: refreshes (R156, R157), hammer epochs and activation tokens (R160,
R162), temperature readings (R143, R144), rest stops under their token (R164 to R167).
-/
namespace Sys2Proof.Machine

/-! ### Refresh, tokens, epochs -/

/-- Average REFPB interval of a stack's banks, ns (Table 5.2). -/
def refreshInterval (s : State) (n : Nat) : Nat := if (stackAt s n).hot then 15000 else 30000

/-- REFRESH_DUE (R48, R156): one interval of a bank has passed on its PHY's stack-timing counter; the count of owed refreshes stops
at 8. -/
def execRefreshDue (stack : Fin 32) (pch : Fin 66) (bank : Fin 64) (s : State) : Answered :=
  whenReleased s fun s =>
    let c := slotNo stack pch
    let x := chanAt s c
    let last := Nat.max (bankAt x bank).refAt x.refBase
    let i := slotsFor s stack (refreshInterval s stack)
    if x.selfRefresh || !(stackSlots s stack).contains c || x.slot < last + i then s
    else updChan c (updBank bank fun b => { b with refAt := last + i, owed := if b.owed < 8 then b.owed + 1 else b.owed }) s

/-- ACTIVATION_TOKEN_REFILL (R162): one token per 128 ns, up to 12,144. -/
def execActivationTokenRefill (stack : Fin 32) (pch : Fin 66) (bank : Fin 64) (s : State) : Answered :=
  whenReleased s fun s =>
    let c := slotNo stack pch
    let b := bankAt (chanAt s c) bank
    if 12144 ≤ b.tokens || quadTime s (quadOfSlot c) < b.tokAt + 128 then s
    else updChan c (updBank bank fun b => { b with tokens := b.tokens + 1, tokAt := b.tokAt + 128 }) s

/-- HAMMER_EPOCH_BOUNDARY (R160). -/
def execHammerEpochBoundary (q : Fin 4) (s : State) : Answered := whenReleased s (endEpoch q)

/-! ### Temperature (R143, R144, R157, R355) -/

/-- A temperature word's reading, when it is valid. -/
def reading (w : BitVec 16) : Option Int :=
  if bit w.toNat 15 then
    let x := bits w.toNat 10 0
    some (if x < 1024 then x else (x : Int) - 2048)
  else none

/-- The stack temperature a frame gives: the highest valid reading of its 17 words. -/
def frameTemp : TempFrame → Option Int
  | none => none
  | some ws =>
    let rs := (ws.take 17).filterMap reading
    rs.foldl (fun m x => match m with
      | some y => some (if y < x then x else y)
      | none => some x) none

/-- Every slot of a stack is due a write of SW11 (R157). -/
def queueSw11 (n v : Nat) (s : State) : State :=
  forEach (stackSlots s n) (fun c s => updChan c (fun x => { x with sww := x.sww ++ [(11, v)] }) s) s

def medOfStack (n : Nat) : Die := .med (Fin.ofNat 4 (n / 8))

/-- A stack goes to the hot refresh interval. -/
def goHot (n : Nat) (s : State) : State :=
  if (stackAt s n).hot then s else
  let s := queueSw11 n 1 (updStack n (fun t => { t with hot := true, cool := 0 }) s)
  notify (medOfStack n) 0x3020 0 (leBytes 1 n ++ i32Bytes (stackAt s n).temp) s

/-- The refresh interval follows a reading: hot above 85.0 °C, normal at the eighth reading in a row of at most 83.0 °C. -/
def judgeHot (n : Nat) (temp : Int) (s : State) : State :=
  if 340 < temp then goHot n (updStack n (fun t => { t with cool := 0 }) s)
  else if (stackAt s n).hot then
    let k := if temp ≤ 332 then (stackAt s n).cool + 1 else 0
    if 8 ≤ k then
      let s := queueSw11 n 0 (updStack n (fun t => { t with hot := false, cool := 0 }) s)
      notify (medOfStack n) 0x3021 0 (leBytes 1 n ++ i32Bytes temp) s
    else updStack n (fun t => { t with cool := k }) s
  else s

/-- A good readout: temperature, wear, the end of a failure, the refresh interval. -/
def goodReading (n : Nat) (temp : Int) (s : State) : State :=
  let failed := decide (3 ≤ (stackAt s n).failed)
  let s := updStack n (fun t => { t with
    temp := temp, failed := 0, peak := if t.peak < temp then temp else t.peak,
    ms85 := if 340 < temp then t.ms85 + 1 else t.ms85, ms95 := if 380 < temp then t.ms95 + 1 else t.ms95 }) s
  let s := if failed then notify (medOfStack n) 0x3051 0 (leBytes 1 n ++ i32Bytes temp) s else s
  judgeHot n temp s

/-- A scheduled readout that failed with its repeat (R144). -/
def badReading (n : Nat) (s : State) : State :=
  let k := (stackAt s n).failed + 1
  let s := updStack n (fun t => { t with failed := k, cool := 0 }) s
  if k = 3 then goHot n (notify (medOfStack n) 0x3050 2 (leBytes 1 n) s) else s

/-- A word on the sideband with the stack's alert level in its two alert bits: most significant bit first, an alert bit after
the 8th data bit, an odd-parity bit, an alert bit (R142). The line is high for no alert. -/
def sidebandWord (w : Nat) (alert : Bool) : List Bool :=
  let data := (List.range 16).map fun i => bit w (15 - i)
  let odd := (data.filter id).length % 2 == 0
  data.take 8 ++ [!alert] ++ data.drop 8 ++ [odd, !alert]

/-- The words of a stack's answer, in which it pulls no alert: none when a word's parity is even or the frame is cut (R142, R144). -/
def sidebandRead (bits_ : List Bool) : Nat → Option (List Nat)
  | 0 => some []
  | n + 1 =>
    let x := bits_.take 19
    let data := x.take 8 ++ (x.drop 9).take 8
    let ok := x.length == 19 && (data.filter id).length % 2 != b2n (nth x 17 false)
    if !ok then none else
    (sidebandRead (bits_.drop 19) n).map fun ws => data.foldl (fun a b => 2 * a + b2n b) 0 :: ws

/-- The complex sends a request on a stack's sideband: a low start bit, then the request word of Table 5.4. -/
def askSideband (n kind arg : Nat) (s : State) : State :=
  updStack n (fun t => { t with sideband := false :: sidebandWord (kind * 4096 + arg) false }) s

/-- A scheduled readout, once per 1 ms of quadrant time: the reading taken, if any, and the state. -/
def takeReadout (n : Nat) (first repeated : TempFrame) (s : State) : State × Option Int × Bool :=
  let ms := quadTime s (n / 8) / 1000000
  if ms ≤ (stackAt s n).readMs || !s.variant.enables n || !(stackAt s n).qualified then (s, none, false) else
  let s := askSideband n 2 0 (updStack n (fun t => { t with readMs := ms }) s)
  match (frameTemp first).or (frameTemp repeated) with
  | some x => (goodReading n x s, some x, true)
  | none => (badReading n s, none, true)

/-! ### Rest stops (R164 to R167) -/

/-- A slot asks for its stack's token; an idle token is given at once (R165). -/
def askToken (n pch : Nat) (s : State) : State :=
  updStack n (fun t =>
    if t.token == some pch || t.asks.contains pch then t
    else if t.token.isNone then { t with token := some pch }
    else { t with asks := t.asks ++ [pch] }) s

/-- The token passes to the asking slot with the next higher pch, wrapping, among those that still have a use for it (R165). -/
def passToken (n pch : Nat) (s : State) : State :=
  let asks := (stackAt s n).asks.filter fun p => wantsToken s (slotNo n p)
  let key := fun (p : Nat) => (p + 66 - pch - 1) % 66
  match bestOf (fun a b => decide (key a < key b)) asks with
  | some p => updStack n (fun t => { t with token := some p, asks := asks.filter (· != p), lastSlot := pch }) s
  | none => updStack n (fun t => { t with token := none, asks := [], lastSlot := pch }) s

/-- A slot that holds the token and has no use for it any more passes it on (R165). -/
def idleToken (n pch : Nat) (s : State) : State :=
  let c := slotNo n pch
  if (stackAt s n).token == some pch && !(chanAt s c).inRest && !wantsToken s c then passToken n pch s else s

/-- REST_STOP_DUE (R164, R165, R167): the slot asks for the token; at a division step of 2 or 4 it defers. -/
def execRestStopDue (stack : Fin 32) (pch : Fin 66) (s : State) : Answered :=
  whenReleased s fun s =>
    let c := slotNo stack pch
    if (stackAt s stack).step ≠ 1 || !restReady s c || !(stackSlots s stack).contains c then s else askToken stack pch s

/-- REST_STOP_DEFERRAL_END (R167): 256 ms of deferral have passed. -/
def execRestStopDeferralEnd (stack : Fin 32) (pch : Fin 66) (s : State) : Answered :=
  whenReleased s fun s =>
    let c := slotNo stack pch
    if (stackAt s stack).step = 1 || !restReady s c || !(stackSlots s stack).contains c then s else askToken stack pch s

/-- Write the parity slots of an accumulator as commands. -/
def flushAccum (c : Nat) (u : Accum) (s : State) : State :=
  let g := (channelOf s c).getD 0
  if !(u.loaded && u.dirty) then s
  else sendParity c u.bank u.row u.strength (putParity ⟨c, g, u.bank, u.row⟩ u.strength u.parity s)

/-- Write the parity slots of every accumulator of a controller and free them (R231). -/
def flushAccums (c : Nat) (s : State) : State :=
  let s := forEach (chanAt s c).accums (flushAccum c) s
  updChan c (fun x => { x with accums := [] }) s

/-- PREA once tRAS, tRTP and tWR are met (Table 5.1, R152). -/
def prechargeAll (c : Nat) (s : State) : State :=
  if (chanAt s c).banks.any fun e => e.2.open_.isSome then sendNow c .prea s else s

/-- A bank's row closes, its accumulator written first (R153). -/
def closeBank (c b : Nat) (s : State) : State :=
  match (bankAt (chanAt s c) b).open_ with
  | none => s
  | some r =>
    let mine := (chanAt s c).accums.filter fun u => u.bank == b && u.row == r
    sendNow c (.pre b) (forEach mine (flushAccum c) s)

/-- Every REFPB of a bank that owes at least a number is issued, to the bank precharged (R156, R159). -/
def issueOwed (c least : Nat) (s : State) : State :=
  forEach ((chanAt s c).banks.filter fun e => decide ((least : Int) ≤ e.2.owed)) (fun e s =>
    forEach (List.range e.2.owed.toNat) (fun _ s => sendNow c (.refpb e.1) s) (closeBank c e.1 s)) s

/-- Nothing of a controller is under way: no burst in flight, no unit begun. -/
def quiescent (x : Chan) : Bool := x.bursts.isEmpty && x.units.all fun u => !u.begun || u.cmds.isEmpty

/-! ### A row as one sequence (R251, R344)

The table of operations lists a scrub row unit and a copy unit as steps, each whole and indivisible
(95_what_each_step_holds.md): their commands go out here one after another, each once its spacings are met. -/

/-- Slots pass until no activation lies within tFAW (R139). -/
def waitFaw (s : State) (n : Nat) (x : Chan) : Chan :=
  waitSlot ((x.acts.map fun a => a.1 + slotsFor s n 11).foldl Nat.max 0) x

/-- A column command of a sequence: its word, its spacings, its count, and what it is to the open row (R152, R154). -/
def sendColumn (c bank slot : Nat) (write : Bool) (s : State) : State :=
  let n := stackOf c
  let m := if write then Cmd.wr bank slot false none else .rd bank false (.fetch slot)
  let s := passTo c false m s
  let data := if write then (getSlot s c bank (((bankAt (chanAt s c) bank).open_).getD 0) slot).bytes else []
  let use := fun (x : Chan) => updBank bank (fun b => { b with
    lastCol := x.slot, due := false, hits := if conflictWaits x bank then b.hits + 1 else b.hits }) x
  let s := updChan c (fun x => (logWord m data [] (replayStamp s n m (use x))).step) s
  bump (if write then 0x8404 else 0x8403) (n + 1) 1 s

/-- The neighbour refreshes that a bank's rows are due, its row closed (R160). -/
def sendNrfs (c bank : Nat) (s : State) : State :=
  forEach ((bankAt (chanAt s c) bank).nrfDue.map (·.1)) (fun r s =>
    sendNow c (.nrf bank r) (updChan c (waitFaw s (stackOf c)) (closeBank c bank s))) s

/-- Slots pass until R162 and R163 permit an ACT of a row: a bank without a token takes the next one, and the row or its bank
keeps its spacing. -/
def waitAct (s : State) (n bank row : Nat) (x : Chan) : Chan :=
  let b := bankAt x bank
  let gap := if x.offenders.any fun o => o.1 == bank && o.2.1 == row then 2000 else if b.spaced then 500 else 0
  let x := if gap = 0 then x else waitSlot ((b.actAt.getD 0) + slotsFor s n gap) x
  if b.tokens ≠ 0 then x else
  updBank bank (fun b => { b with tokens := 1, tokAt := b.tokAt + 128 }) (waitSlot (x.slot + slotsFor s n 128) x)

/-- Open a row for a sequence: neighbour refreshes first, then PRE of another row and ACT (R137, R139, R160 to R163). -/
def openRow (c bank row : Nat) (s : State) : State :=
  let s := sendNrfs c bank s
  if (bankAt (chanAt s c) bank).open_ = some row then s
  else
    let s := updChan c (waitFaw s (stackOf c)) (closeBank c bank s)
    sendAs false c (.act bank row) (updChan c (waitAct s (stackOf c) bank row) s)

/-- A sequence may open a row now: no unit holds its bank or escalates it, and R162 and R163 permit an ACT once the
neighbour refreshes are done. -/
def mayOpen (s : State) (c bank row : Nat) : Bool :=
  let x := chanAt s c
  let b := bankAt x bank
  !x.inRest && !x.selfRefresh && (stackAt s (stackOf c)).running && !bankOwned x bank && !escalating s c bank row
    && (b.open_ = some row || actPermitted s c x { b with nrfDue := [] } bank row)

/-- Reads, then writes, of slots of a row. -/
def sendRow (c bank row : Nat) (reads writes : List Nat) (s : State) : State :=
  let s := openRow c bank row s
  forEach writes (fun k s => sendColumn c bank k true s) (forEach reads (fun k s => sendColumn c bank k false s) s)

/-- A unit that owns its bank issues what is left of it. -/
def completeUnit (c g : Nat) (u : ChanUnit) (s : State) : State :=
  let reads := u.cmds.filterMap fun k => match k with
    | .fetch i => some (i, getSlot s c u.bank u.row i)
    | _ => none
  let writes := u.cmds.length - reads.length
  let n := stackOf c + 1
  let s := bump 0x8404 n writes (bump 0x8403 n reads.length s)
  let s := if writes ≠ 0 && !u.stored then unitStore c g u s else s
  let done := { u with cmds := [], got := u.got ++ reads, asked := u.got.length + reads.length, stored := u.stored || writes ≠ 0 }
  let s := updUnit c u (fun _ => done) s
  if u.kind = .escalation then finishEscalation ⟨c, g, u.bank, u.row⟩ done s else s

/-- A locked unit in execution ends before anything closes its row (R151). -/
def endLocked (c : Nat) (s : State) : State :=
  match channelOf s c with
  | none => s
  | some g => settleUnits c
      (forEach ((chanAt s c).units.filter fun u => u.kind == .locked && u.begun && !u.cmds.isEmpty) (completeUnit c g) s)

/-- A controller stops for a rest stop, a pause or a division change: refreshes of banks that owe at least 6, accumulators,
PREA (R156, Tables 5.8 and 11.3). -/
def stopChannel (c : Nat) (s : State) : State := prechargeAll c (flushAccums c (issueOwed c 6 s))

/-- REST_STOP (R166): the slot that holds the token stops. -/
def execRestStop (stack : Fin 32) (pch : Fin 66) (s : State) : Answered :=
  whenReleased s fun s =>
    let c := slotNo stack pch
    let x := chanAt s c
    if (stackAt s stack).token != some pch.val || x.inRest || !quiescent x || !restReady s c then idleToken stack pch s
    else updChan c (fun x => { x with inRest := true }) (stopChannel c s)

/-- Training of a slot (Table 5.8, step 5): WRT and RDT bursts, the CA eyes by SWR, SW13 and SW14 written. How many bursts
it takes and what it writes are free: the manual does not give them. SW30 is cleared (Table 5.3). -/
def trainDone (c : Nat) (s : State) : State :=
  let n := stackOf c
  let s := sendNow c (.swr 31) (sendNow c (.rdt 1) (sendNow c .wrt s))
  let d := s.draw
  let s := { bump 0x8404 (n + 1) (Config.choice (d + 1)) (bump 0x8403 (n + 1) (Config.choice d) s) with draw := d + 2 }
  let s := updChan c (fun x => { x with cleared := x.half }) s
  sendNow c (.sww 14 (Config.trainedWord n s.draw 14).toNat) (sendNow c (.sww 13 (Config.trainedWord n s.draw 13).toNat) s)

/-- The lanes a rest stop found with narrow eyes are due for sparing (R331). -/
def narrowLanes (s : State) (c : Nat) (eyes : List (Nat × Nat)) : List Nat :=
  (eyes.filter fun e => decide (e.2 < slotObj s c 0x5010 2)).map (·.1)

/-- Mark lanes due with a cause of Table 11.9: 1 errors, 2 eye, 3 drift. -/
def dueLanes (c cause : Nat) (lanes : List Nat) (s : State) : State :=
  updChan c (fun x => { x with dueLanes := x.dueLanes ++
    ((lanes.eraseDups).filter fun l => !(x.dueLanes.any (·.1 == l))).map (·, cause) }) s

/-- The interval in µs that a drift leaves; `longest` is in µs too (R164). -/
def nextInterval (longest drift i : Nat) : Nat :=
  let i := Nat.min longest i
  if 4 ≤ drift then Nat.max 4000 (i / 2) else if drift ≤ 1 then Nat.min longest (2 * i) else i

/-- REST_STOP_END (R164, R165): the interval follows the drift, the token passes on. After four high drifts in a row the run
begins anew (DESIGN CHOICE, assumption 91). -/
def execRestStopEnd (stack : Fin 32) (pch : Fin 66) (drift worstLane : Nat) (eyes : List (Nat × Nat)) (s : State) : Answered :=
  whenReleased s fun s =>
    let c := slotNo stack pch
    let x := chanAt s c
    if !x.inRest || x.selfRefresh then s else
    let run := if x.interval = 4000 && decide (8 ≤ drift) then x.highRun + 1 else 0
    let s := updChan c (fun x => { x with
      inRest := false, owesRest := false, lastRest := quadTime s (quadOfSlot c), interval := nextInterval (1000 * slotObj s c 0x3050 1) drift x.interval,
      highRun := if run = 4 then 0 else run }) s
    let s := trainDone c (updStack stack (fun t => { t with rests := t.rests + 1 }) s)
    let s := dueLanes c 2 (narrowLanes s c eyes) s
    let s := if run = 4 then
        let (g, s) := noticeChannel c (dueLanes c 3 [worstLane] s)
        notify (medOfSlot c) 0x3030 1 (leBytes 2 g ++ leBytes 1 pch ++ leBytes 1 (Nat.min 255 drift)) s
      else s
    passToken stack pch s

end Sys2Proof.Machine
end

