-- ==== Sys2Proof/Machine/Counters.lean ====
section
/-!
DEFINITION. Counters as objects (R474 to R476) and the bandwidth windows (R478).
-/
namespace Sys2Proof.Machine

/-- An index of a counter (R18). -/
def isCounter (index : Nat) : Bool := decide (0x8100 ≤ index) && decide (index ≤ 0x88FF)

/-- Group of a counter (R476). -/
def counterGroup (index : Nat) : Nat := bits index 11 8 - 1

/-- A counter's value (R474). -/
def counterValue (s : State) (index sub : Nat) : Nat :=
  counted s index sub + (if s.cnt.ovf.contains (objKey index sub) then 2 ^ 63 else 0)

/-- Object 0x8001:00. -/
def overflowSummary (s : State) : Nat :=
  total ((List.range 8).map fun g => if s.cnt.ovf.any fun k => counterGroup (k / 256) == g then 2 ^ g else 0)

/-- A write of object 0x8002:00 (R476). -/
def clearOverflow (mask : Nat) (s : State) : State :=
  s.onCnt fun c => { c with ovf := c.ovf.filter fun k => !bit mask (counterGroup (k / 256)) }

/-- Read and write sector counts of the six port entries. -/
def sectorCounts (s : State) : List Nat := s.cnt.sectors

/-- BANDWIDTH_WINDOW (R478). -/
def execBandwidthWindow (s : State) : Answered :=
  whenReleased s fun s => s.onCnt (Counters.endWindow s.clk.hub (objGet s 0x8010 0))

end Sys2Proof.Machine
end

