-- ==== Sys2Proof/Machine/Settings.lean ====
section
/-!
DEFINITION. The settings store (R424, R425): records of RWS values in a ring of 16 sectors, its compaction and its errors.
-/
namespace Sys2Proof.Machine

/-- Bytes of a settings record: the fields of Table 11.8 around index, subindex, reserved byte and value. -/
def settingBytes (size : Nat) : Nat := 36 + roundUp (4 + size) 4

/-- Size of an object's value, 0 where the dictionary does not hold it. -/
def objSize (key : Nat) : Nat := match objRow (key / 256) (key % 256) with
  | some r => r.size
  | none => 0

/-- Good sectors of the store. -/
def storeGood (n : Nor) : Nat := 16 - n.storeBad

/-- A record of so many bytes goes after the newest one, in a fresh sector when the present one has no room. -/
def placeSetting (bytes : Nat) (n : Nor) : Nor :=
  if n.written ≠ 0 && decide (n.written + bytes ≤ 4096) then { n with written := n.written + bytes }
  else { n with written := bytes, free := n.free - 1 }

/-- Sectors are erased, each unless its erase fails: a free value says so (assumption 52). A sector that fails is bad, and
notice 0x1021 says so (R425). -/
def eraseSectors : Nat → State → State
  | 0, s => s
  | k + 1, s =>
    if Config.choice s.draw % 2 == 0 then eraseSectors k s.drawn else
    let s := s.drawn.onNor fun n => { n with storeBad := n.storeBad + 1, free := n.free - 1 }
    eraseSectors k (notify .hub 0x1021 2 (leBytes 1 s.nor.free ++ leBytes 1 s.nor.storeBad) s)

/-- Every current value written afresh, the sectors of older records free. -/
def compacted (n : Nor) : Nor :=
  let here := n.settings.head?.any fun e => n.written ≠ 0 && decide (n.written + settingBytes (objSize e.1) ≤ 4096)
  let done := n.settings.foldl (fun m e => placeSetting (settingBytes (objSize e.1)) m) { n with free := 16 }
  { done with free := storeGood n - (16 - done.free) - b2n here }

/-- With fewer than 2 free sectors, every current value is written afresh and the sectors of older records are erased. -/
def compactSettings (s : State) : State :=
  if 2 ≤ s.nor.free then s else
  let n := compacted s.nor
  eraseSectors (n.free - s.nor.free) (s.onNor fun _ => n)

/-- Program a record into the store; a sector that fails its verify is bad, and the record goes on to the next. Whether a
sector fails is a free value of each try. The state, and whether a sector took the record. -/
def programSetting (bytes : Nat) : Nat → State → State × Bool
  | 0, s => (s, false)
  | fuel + 1, s =>
    if s.nor.free = 0 then (s, false) else
    let failed := Config.choice s.draw % 2 == 1
    let s := s.drawn
    if failed then
      let s := s.onNor fun n =>
        let n := if n.written ≠ 0 && decide (n.written + bytes ≤ 4096) then n else { n with free := n.free - 1 }
        { n with storeBad := n.storeBad + 1, written := 0 }
      programSetting bytes fuel (notify .hub 0x1021 2 (leBytes 1 s.nor.free ++ leBytes 1 s.nor.storeBad) s)
    else (s.onNor (placeSetting bytes), true)

/-- Persist the value of an RWS object; false when the store does not take it (R424, R425, R433). -/
def persist (index sub size v : Nat) (s : State) : State × Bool :=
  if !s.nor.present || decide (s.nor.free < 2) then (s, false) else
  let (s, ok) := programSetting (settingBytes size) 16 s
  let key := objKey index sub
  let s := if ok then s.onNor fun n => { n with settings := n.settings.filter (·.1 ≠ key) ++ [(key, v)] } else s
  (compactSettings s, ok)

/-- An object of access RWS. -/
def persists (key : Nat) : Bool := match objRow (key / 256) (key % 256) with
  | some r => r.access == 4
  | none => false

/-- Erase the store: RWS objects take their defaults, those of 0x1100 to 0x11FF at the next release (R425). -/
def eraseSettings (s : State) : State :=
  let n := s.nor.settings.length
  let s := eraseSectors (storeGood s.nor - s.nor.free) (s.onNor fun m => { m with settings := [], written := 0, free := storeGood m })
  let s := s.onObjs (·.filter fun e => !persists e.1 || e.1 / 65536 == 0x11)
  notify .hub 0x1020 0 (leBytes 2 n) s

/-- Apply the newest valid record of each RWS object at a start: a record of an undefined or other object, or of a wrong
size, is discarded (R425). -/
def applySettings (s : State) : State :=
  s.onObjs fun m => s.nor.settings.foldl (fun m e =>
    if persists e.1 && decide (e.2 < 256 ^ objSize e.1) then (e.1, e.2) :: m.filter (·.1 ≠ e.1) else m) m

end Sys2Proof.Machine
end

