-- ==== Sys2Proof/Machine/Values.lean ====
section
/-!
DEFINITION. Which values an object admits (R11): the range of its row, the reserved bits and the forms its text gives, and
the limits that one object sets another.
-/
namespace Sys2Proof.Machine

/-- Any entry of object 0x1130: reserved bytes zero, severity at most 3, reserved flags zero (R426). -/
def subscriptionOk (v : Nat) : Bool :=
  let bs := leBytes 16 v
  zeros bs 6 2 && decide (field bs 10 1 ≤ 3) && decide (field bs 11 1 ≤ 1) && zeros bs 12 4

/-- A MAC address override: 0, or locally administered and unicast in [47:0] (R395). -/
def overrideOk (v : Nat) : Bool := v == 0 || (decide (v < 2 ^ 48) && bit v 41 && !bit v 40)

/-- A value of a scalar or fixed-size object lies in its range and sets no reserved bit. -/
def valueOk (var : Variant) (index sub v : Nat) : Bool :=
  match objRow index sub with
  | none => false
  | some r =>
    decide (v < 256 ^ r.size) &&
    (if index = 0x1102 && sub = 2 then overrideOk v
    else if index = 0x1130 then subscriptionOk v
    else if index = 0x1131 then bits v 31 18 == 0 && bits v 15 10 == 0 && !bit v 0
    else if index = 0x6001 then decide (var.lowEnvelope ≤ v) && decide (v ≤ var.ceiling)
    else decide (r.min ≤ v) && decide (v ≤ r.max))

/-- The limits that another object's value sets: watermarks 32 apart, thresholds 6 °C apart (Table 5.9, R376). -/
def relationOk (s : State) (index sub v : Nat) : Bool :=
  if index = 0x3020 && sub = 1 then decide (objGet s 0x3020 2 + 32 ≤ v)
  else if index = 0x3020 && sub = 2 then decide (v + 32 ≤ objGet s 0x3020 1)
  else if index = 0x6010 && sub = 1 then decide (v + 6 ≤ objGet s 0x6010 2)
  else if index = 0x6010 && sub = 2 then decide (objGet s 0x6010 1 + 6 ≤ v)
  else true

/-- A BLOB whose size its own content declares, with its sizes: gate lists, reservation sets and images (R123). -/
def variableSize (index : Nat) : Option (Nat × Nat) :=
  if index = 0x3840 then some (8, 520)
  else if index = 0x3810 then some (16, 752)
  else if index = 0x7820 then some (4096, 1048576)
  else none

/-- The size a value's own content declares (R123). -/
def declaredSize (index : Nat) (bs : Bytes) : Nat :=
  if index = 0x3840 then 8 + 8 * field bs 0 1
  else if index = 0x3810 then 16 + 16 * field bs 1 1
  else 4096 * field bs 6 2

end Sys2Proof.Machine
end

