-- ==== Sys2Proof/Machine/Images.lean ====
section
/-!
DEFINITION. Configuration images (chapter 15): their layout and checks, staging, activation at a start, and the copy after it.
-/
namespace Sys2Proof.Machine

/-! ### Layout (R461, R462) -/

/-- Blocks of an image. -/
def blocksOf (bs : Bytes) : Nat := bs.length / 4096
/-- Payload stream: bytes 0 to 4,091 of every block but the manifest (R461). -/
def payload (bs : Bytes) : Bytes := (List.range (blocksOf bs - 1)).flatMap fun i => slice bs (4096 * (i + 1)) 4092
/-- Signed bytes (R462). -/
def signedBytes (bs : Bytes) : Bytes := bs.take 3996 ++ bs.drop 4096
/-- Image digest (R462). -/
def imageDigest (bs : Bytes) : Bytes := sha384 (signedBytes bs)

def imageFlags (bs : Bytes) : Nat := field bs 11 1
def imageVersion (bs : Bytes) : Nat := field bs 24 4
def imageSecurity (bs : Bytes) : Nat := field bs 28 2
def imageFormat (bs : Bytes) : Nat := field bs 30 2
def sectionCount (bs : Bytes) : Nat := field bs 32 2

/-- Kind, offset and length of section entry i (Table 15.2). -/
def sectionEntry (bs : Bytes) (i : Nat) : Nat × Nat × Nat :=
  (field bs (64 + 16 * i) 1, field bs (68 + 16 * i) 4, field bs (72 + 16 * i) 4)

/-- Bytes of the first section of a kind, its header first. -/
def sectionOf (bs : Bytes) (kind : Nat) : Option Bytes :=
  ((List.range (sectionCount bs)).find? fun i => (sectionEntry bs i).1 == kind).map fun i =>
    let (_, off, len) := sectionEntry bs i
    slice (payload bs) off len

/-- Bytes of one entry of a kind (Table 15.3); none for the records of kind 0x01, whose values differ in size. -/
def entrySize : Nat → Option Nat
  | 2 => some 40 | 3 => some 12 | 4 => some 4 | 5 => some 8 | 6 => some 4
  | _ => none

/-- An object default: index, subindex, size, value, and whether its reserved fields and padding are zero. -/
structure DefaultRec where
  index : Nat
  sub   : Nat
  size  : Nat
  value : Bytes
  clean : Bool
  deriving DecidableEq, Repr

/-- The n records of a kind 0x01 section; none when they do not fill it exactly. -/
def defaultRecords : Nat → Bytes → Option (List DefaultRec)
  | 0, bs => if bs.isEmpty then some [] else none
  | n + 1, bs =>
    let size := field bs 4 2
    let full := 8 + roundUp size 4
    if bs.length < full then none else
    let r : DefaultRec := ⟨field bs 0 2, field bs 2 1, size, slice bs 8 size,
      zeros bs 3 1 && zeros bs 6 2 && zeros bs (8 + size) (roundUp size 4 - size)⟩
    (defaultRecords n (bs.drop full)).map (r :: ·)

/-- Records of a section of kind 0x01. -/
def recordsOf (sec : Bytes) : Option (List DefaultRec) := defaultRecords (field sec 2 2) (sec.drop 4)
/-- Entries of a section of another kind. -/
def entriesOf (sec : Bytes) (size : Nat) : List Bytes := (List.range (field sec 2 2)).map fun i => slice sec (4 + size * i) size

/-! ### Checks of Table 15.4 -/

/-- Section entry i is well formed: kind, reserved fields, place in the stream, no overlap, header (Table 15.2). -/
def sectionFormed (bs : Bytes) (i : Nat) : Bool :=
  let (kind, off, len) := sectionEntry bs i
  let stream := 4092 * (blocksOf bs - 1)
  let sec := slice (payload bs) off len
  let others := (List.range i).map (sectionEntry bs)
  decide (1 ≤ kind) && decide (kind ≤ 6) && zeros bs (65 + 16 * i) 3 && zeros bs (76 + 16 * i) 4
  && off % 4 == 0 && decide (4 ≤ len) && decide (off + len ≤ stream)
  && others.all (fun o => o.1 != kind && (decide (o.2.1 + o.2.2 ≤ off) || decide (off + len ≤ o.2.1)))
  && field sec 0 1 == 1 && (if kind = 2 then field sec 1 1 != 0 else field sec 1 1 == 0)
  && (match entrySize kind with
      | some e => len == 4 + e * field sec 2 2
      | none => (recordsOf sec).isSome)

/-- Manifest fields that Table 15.1 fixes. -/
def manifestFormed (bs : Bytes) : Bool :=
  let n := sectionCount bs
  field bs 0 4 == 0x4D495A51 && field bs 4 1 == 1 && decide (field bs 5 1 ≤ 3) && decide (field bs 10 1 < 8)
  && decide (imageFlags bs < 2) && decide (1 ≤ n) && decide (n ≤ 6) && zeros bs 34 30 && zeros bs 160 3836
  && zeros bs (64 + 16 * n) (96 - 16 * n)

/-- A finite F32. -/
def f32Finite (x : Nat) : Bool := bits x 30 23 != 255

/-- An object default lies within its limits: it names no defined object of another access class or size (Table 15.4). -/
def defaultOk (var : Variant) (r : DefaultRec) : Bool :=
  r.clean && match objRow r.index r.sub with
  | none => true
  | some o =>
    (o.access == 1 || o.access == 3 || o.access == 4) &&
    (if r.index = 0x3840 then (gateListOf r.value).isSome else o.size == r.size && valueOk var r.index r.sub (leNat r.value))

/-- The entries of a section lie in their limits (Table 15.3). -/
def sectionLimits (s : State) (bs : Bytes) (i : Nat) : Bool :=
  let (kind, off, len) := sectionEntry bs i
  let sec := slice (payload bs) off len
  let n := field sec 2 2
  match kind with
  | 1 => match recordsOf sec with
    | some rs => rs.all (defaultOk s.variant)
    | none => false
  | 2 => decide (n ≤ 64) && (entriesOf sec 40).all fun e => zeros e 2 2 && (List.range 9).all fun j => f32Finite (field e (4 + 4 * j) 4)
  | 3 => n == 32 && (entriesOf sec 12).all fun e =>
      let tau := f32Rat (field e 0 4)
      (List.range 3).all (fun j => f32Finite (field e (4 * j) 4)) && decide (1 ≤ tau) && decide (tau ≤ 100)
  | 4 => decide (1 ≤ n) && decide (n ≤ 64) && (entriesOf sec 4).all fun e => zeros e 3 1
  | 5 => decide (n ≤ 64) && (entriesOf sec 8).all fun e => zeros e 3 1 && zeros e 5 1 && zeros e 7 1
  | _ =>
    let rate := field sec 4 2
    n == 1 && zeros sec 6 2 && rate % 100 == 0 && decide (6400 ≤ rate) && decide (rate ≤ s.variant.maxRate)

/-- Every power coefficient of an image is matched by a built-in one at least 1.2 times as large (R31, R361). -/
def belowBuiltin (bs : Bytes) : Bool :=
  ((List.range (sectionCount bs)).filter fun i => (sectionEntry bs i).1 == 2).all fun i =>
    let (_, off, len) := sectionEntry bs i
    (entriesOf (slice (payload bs) off len) 40).all fun e => (List.range 9).all fun j =>
      let x := field e (4 + 4 * j) 4
      !f32Finite x || decide (f32Rat x * 6 / 5 ≤ Config.builtinPower (BitVec.ofNat 16 (field e 0 2)) j)

/-- The signature verifies. Plynek signs no set that its built-in one does not exceed as R31 says: such an image is taken
as unsigned (assumption 78). -/
def signedByPlynek (bs : Bytes) : Bool :=
  Config.signatureValid (field bs 5 1) (signedBytes bs) (beNat (slice bs 3996 48)) (beNat (slice bs 4044 48)) && belowBuiltin bs

/-- The first failing check of Table 15.4 from 0x01 to 0x0A, with its detail; 0x00 when the image passes. `least` is the
security version in force. -/
def judgeImage (s : State) (least : Nat) (bs : Bytes) : Nat × Nat :=
  let n := blocksOf bs
  let badBlock := (List.range n).find? fun i => crc32c (slice bs (4096 * i) 4092) != field bs (4096 * i + 4092) 4
  let secs := List.range (sectionCount bs)
  let badSection := secs.find? fun i => !sectionFormed bs i
  let need := field bs 12 4
  if bs.length % 4096 ≠ 0 || n = 0 || 256 < n || field bs 6 2 ≠ n then (1, 0)
  else if badBlock.isSome then (2, badBlock.getD 0)
  else if !manifestFormed bs then (3, 0)
  else if badSection.isSome then (3, badSection.getD 0 + 1)
  else if field bs 8 2 ≠ 0x515A || !bit (field bs 10 1) s.variant.bitNo then (4, 0)
  else if field bs 16 8 ≠ 0 && field bs 16 8 ≠ fusedId then (5, 0)
  else if need &&& complexCaps s ≠ need then (6, 0)
  else if imageSecurity bs < least then (7, 0)
  else if 1 < imageFormat bs / 256 then (8, 0)
  else if !signedByPlynek bs then (9, 0)
  else match secs.find? fun i => !sectionLimits s bs i with
    | some i => (10, i + 1)
    | none => (0, 0)

/-- A result as objects 0x7821 and 0x7830 show it. -/
def imageWord (r : Nat × Nat) : Nat := r.1 + r.2 * 2 ^ 16

/-- Journal an image event (Table 15.8). -/
def imageEvent (event source : Nat) (r : Nat × Nat) (bs digest : Bytes) (seq : Nat) (s : State) : State :=
  journal 0x84 (leBytes 1 event ++ leBytes 1 source ++ leBytes 1 r.1 ++ [0] ++ leBytes 2 r.2 ++ leBytes 2 (imageSecurity bs)
    ++ leBytes 4 (imageVersion bs) ++ leBytes 4 seq ++ slice digest 0 12) s

/-! ### Staging (R464, R465) -/

/-- A staging write that no copy delays: the state, and whether it was accepted. -/
def stageImage (bs : Bytes) (s : State) : State × Bool :=
  let r := judgeImage s s.image.security bs
  let d := imageDigest bs
  let s := s.onImage fun m => { m with result := imageWord r }
  if r.1 ≠ 0 then (imageEvent 2 3 r bs d 0 (notify .hub 0x7091 1 (leBytes 4 (imageWord r)) s), false)
  else
    let s := countErase 4 (s.onNor fun n => { n with staging := ⟨2, 0, bs, d⟩ })
    (imageEvent 1 3 r bs d 0 (notify .hub 0x7090 0 (leBytes 4 (imageVersion bs) ++ leBytes 2 (imageSecurity bs)) s), true)

/-- The staged image is in force and its copy has not ended (R465). -/
def stagingPinned (s : State) : Bool := s.image.source == 3 && s.image.copy == 1

/-- Whether a write of object 0x7822 is accepted (R465). -/
def cancelAllowed (s : State) (v : Nat) : Bool := v == 1 && s.nor.present && !stagingPinned s

/-- Erase the staging tag (R465). -/
def cancelStaging (s : State) : State :=
  let r := s.nor.staging
  imageEvent 7 3 (0, 0) r.image r.digest 0 (countErase 4 (s.onNor fun n => { n with staging := {} }))

/-! ### Activation (R466, R469) -/

/-- Region of a slot: 1 slot A, 2 slot B, 3 staging. -/
def regionAt (s : State) (source : Nat) : Region :=
  if source = 1 then s.nor.slotA else if source = 2 then s.nor.slotB else s.nor.staging
def setRegion (source : Nat) (r : Region) (s : State) : State :=
  countErase (source + 1)
    (s.onNor fun n => if source = 1 then { n with slotA := r } else if source = 2 then { n with slotB := r } else { n with staging := r })

/-- The slot in force: that of state 1 with the highest activation sequence, slot A first on a tie. -/
def slotInForce (s : State) : Option Nat :=
  let a := s.nor.slotA
  let b := s.nor.slotB
  if a.state = 1 && (b.state ≠ 1 || decide (b.seq ≤ a.seq)) then some 1
  else if b.state = 1 then some 2 else none

/-- Candidates in their order, with the entry of object 0x7830 each belongs to (R466). -/
def imageCandidates (s : State) : List (Nat × Nat) :=
  let staged : List (Nat × Nat) := if s.nor.staging.state = 2 then [(3, 0)] else []
  match slotInForce s with
  | none => staged
  | some i =>
    let other := 3 - i
    staged ++ [(i, 1)] ++ (if (regionAt s other).state = 1 then [(other, 2)] else [])

/-- Security version a candidate must reach: that of the slot in force where that image passes, for the staged one. -/
def leastSecurity (s : State) (source : Nat) : Nat :=
  if source ≠ 3 then 0 else
  match slotInForce s with
  | none => 0
  | some i =>
    let bs := (regionAt s i).image
    if (judgeImage s 0 bs).1 = 0 then imageSecurity bs else 0

/-- The first die that refuses the candidate sent as try t: 0 the hub, 1 to 4 the MEDs (R466). -/
def refuser (env : StartEnv) (t : Nat) : Option Nat :=
  (List.range 5).find? fun d =>
    let e := if d = 0 then env.hub else nth env.meds (d - 1) {}
    !(e.accepts.getD t true)

/-- Values that an image in force supplies (Table 15.3), with the records skipped (R469). -/
def imageValues (source : Nat) (bs digest : Bytes) (old : Image) : Image :=
  let f32s := fun (e : Bytes) (off k : Nat) => (List.range k).map fun j => f32Rat (field e (off + 4 * j) 4)
  let kind1 := if imageFormat bs / 256 = 1 then (sectionOf bs 1).bind recordsOf else none
  let recs := kind1.getD []
  let known := recs.filter fun r => (objRow r.index r.sub).isSome
  let sec2 := sectionOf bs 2
  { old with
    source := source, version := imageVersion bs, security := imageSecurity bs, format := imageFormat bs, digest := digest,
    defaults := known.map (fun r => (objKey r.index r.sub, leNat r.value)), skipped := recs.length - known.length,
    powerSet := match sec2 with
      | some x => field x 0 1 * 256 + field x 1 1
      | none => 0,
    power := match sec2 with
      | some x => (entriesOf x 40).map fun e => (field e 0 2, f32s e 4 9)
      | none => [],
    thermal := match sectionOf bs 3 with
      | some x => (entriesOf x 12).map fun e => f32s e 0 3
      | none => [],
    hasQualified := (sectionOf bs 4).isSome,
    qualified := match sectionOf bs 4 with
      | some x => (entriesOf x 4).map fun e => (field e 0 2, field e 2 1)
      | none => [],
    phy := match sectionOf bs 5 with
      | some x => (entriesOf x 8).map fun e => (field e 0 2, [field e 2 2, field e 4 2, field e 6 2])
      | none => [],
    rate := (sectionOf bs 6).map fun x => field x 4 2 }

/-- Apply a candidate: its values, the erased settings store of flag [0], and the notices of R466 and R469. -/
def applyImage (source : Nat) (s : State) : State :=
  let r := regionAt s source
  let bs := r.image
  let s := s.onImage (imageValues source bs (imageDigest bs))
  let s := if source = 3 && bit (imageFlags bs) 0 then eraseSettings s else s
  let s := if imageFormat bs / 256 = 0 then notify .hub 0x7096 1 (leBytes 2 (imageFormat bs)) s else s
  let s := imageEvent 3 source (0, 0) bs (imageDigest bs) r.seq s
  notify .hub 0x7092 0 (leBytes 1 source ++ leBytes 4 (imageVersion bs)) s

/-- A candidate fails: its result, the tag of a staged one, notice 0x7093 (R466). -/
def failCandidate (source entry : Nat) (r : Nat × Nat) (s : State) : State :=
  let g := regionAt s source
  let s := s.onImage fun m => { m with attempts := modNth m.attempts entry fun _ => imageWord r }
  let s := if source = 3 then setRegion 3 { g with state := 3 } s else s
  let s := imageEvent 4 source r g.image (imageDigest g.image) g.seq s
  notify .hub 0x7093 2 (leBytes 1 source ++ leBytes 4 (imageWord r)) s

/-- Try the candidates in order; t counts those sent to the dies. The built-in set comes last and is always applied. -/
def tryImages (env : StartEnv) : List (Nat × Nat) → Nat → State → State
  | [], _, s =>
    let s := imageEvent 3 0 (0, 0) [] (List.replicate 12 0) 0 s
    notify .hub 0x7092 0 (leBytes 1 0 ++ leBytes 4 0) s
  | (source, entry) :: rest, t, s =>
    let r := judgeImage s (leastSecurity s source) (regionAt s source).image
    if r.1 ≠ 0 then tryImages env rest t (failCandidate source entry r s)
    else match refuser env t with
      | some d => tryImages env rest (t + 1) (failCandidate source entry (0x0B, d) s)
      | none => applyImage source (s.onImage fun m => { m with attempts := modNth m.attempts entry fun _ => 0 })

/-- Step 7 of start-up: no image is in force until a candidate is applied (R466). -/
def activateImages (env : StartEnv) (s : State) : State :=
  let s := s.onImage fun _ => {}
  tryImages env (if s.nor.present then imageCandidates s else []) 0 s

/-! ### Copy (R470) -/

/-- Slot that a copy goes to: one whose tag does not hold state 1, else that with the lower sequence. -/
def copyTarget (s : State) : Nat :=
  let a := s.nor.slotA
  let b := s.nor.slotB
  if a.state ≠ 1 then 1 else if b.state ≠ 1 then 2 else if a.seq ≤ b.seq then 1 else 2

/-- Slot code of notices 0x7094 and 0x7095 as object 0x7810:01 codes it. -/
def slotCode (target : Nat) : Bytes := leBytes 1 target

/-- Staging writes that waited for the copy run, in order (R464). -/
def runStaging (finish : Src → Bool → State → State) (s : State) : State :=
  let w := s.image.waiting
  forEach w (fun x s => let (s, ok) := stageImage x.2 s; finish x.1 ok s) (s.onImage fun m => { m with waiting := [] })

/-- The copy's read-back agrees: slot tag, then the staging tag goes (R470). -/
def copyDone (s : State) : State :=
  let t := copyTarget s
  let g := s.nor.staging
  let top := Nat.max (if s.nor.slotA.state = 1 then s.nor.slotA.seq else 0) (if s.nor.slotB.state = 1 then s.nor.slotB.seq else 0)
  let seq := (top + 1) % 2 ^ 32
  let s := setRegion t ⟨1, seq, g.image, g.digest⟩ s
  let s := countErase 4 (s.onNor fun n => { n with staging := {} })
  let s := s.onImage fun m => { m with copy := 0, retried := false }
  let s := imageEvent 5 t (0, 0) g.image g.digest seq s
  notify .hub 0x7094 0 (slotCode t ++ leBytes 4 seq) s

/-- The copy's read-back differs: one retry, then the copy has failed (R470). -/
def copyFails (s : State) : State :=
  let t := copyTarget s
  let s := setRegion t {} s
  if !s.image.retried then s.onImage fun m => { m with retried := true } else
  let g := s.nor.staging
  let s := s.onImage fun m => { m with copy := 2, retried := false }
  let s := imageEvent 6 t (0, 0) g.image g.digest 0 s
  notify .hub 0x7095 1 (slotCode t) s

end Sys2Proof.Machine
end

