-- ==== Sys2Proof/Machine/Scrub.lean ====
section
/-!
DEFINITION. Row sequences at input 3 of a channel arbiter (R175, R251, R344), retirement of sectors and frames and repair of rows
(R335 to R337), scrub passes (R249 to R253): the scrub command, paced row units, the end of a pass and its summary, repeats.
-/
namespace Sys2Proof.Machine

/-! ### Row sequences at input 3 (Table 6.3) -/

/-- The unit of a row sequence of a controller: a scrub row unit with its pass, or a copy unit. -/
def rowUnit (s : State) (c : Nat) (k : UnitKind) (pass : Nat) : Option TUnit :=
  s.tree.units.find? fun u => u.slot == c && u.job.any fun j => j.kind == k && j.slot == pass

/-- A row sequence raises its request at its channel arbiter. -/
def askRow (c g : Nat) (k : UnitKind) (pass bank row : Nat) (s : State) : State :=
  addJob c g 3 { kind := k, bank := bank, row := row, slot := pass, since := quadTime s (quadOfSlot c), seq := (chanAt s c).next } s

/-- Candidates of a controller, for a row and for a column half-slot. -/
def allCandidates (s : State) (c : Nat) : List Cand :=
  let as_ := fun (column : Bool) => candidates (updChan c (fun x => { x with column := column }) s) c
  as_ false ++ as_ true

/-- A command that ranks before a class and arrival sequence is offered in a controller (R149). -/
def outranked (s : State) (c cls seq : Nat) : Bool := (allCandidates s c).any fun k => decide (k.key < cls * 4 * 2 ^ 64 + seq)

/-- Take a row sequence's unit out of the tree. -/
def dropRowUnit (u : TUnit) (s : State) : State := onUnits (·.filter (·.id != u.id)) s

/-! ### Work that changes its home -/

/-- Where a queued entry of a channel belongs now: the row of its frame's home. -/
def newHome (s : State) (g : Nat) (e : Sect) : Option (RowAt × Nat) :=
  homeRow s g (frameOfRow e.bank e.row + e.slot / 64) (e.slot % 64 / 8) (e.slot % 8 * 32)

/-- An entry enters the queues of its new home as far as they have room (R145); else it waits at its channel arbiter (DESIGN
CHOICE, assumption 114). A write that waits there owes its request nothing any more. -/
def requeue (g : Nat) (e : Sect) (s : State) : State :=
  match newHome s g e with
  | none => loseRead e s
  | some (a, i) =>
    let s := ensureBuilt a s
    let write := e.act == .write || e.act == .xor
    let e := { e with bank := a.bank, row := a.row, slot := i, asked := false, old := if write then none else e.old }
    let x := chanAt s a.c
    let full := if write then decide (256 ≤ x.writes.length) && (mergeInto e x).isNone else decide (512 ≤ x.reads.length)
    if full then
      addUnit { id := 0, level := 2, arb := chanArb a.c, input := 0, parts := [], sects := [if write then { e with req := none } else e],
                slot := a.c, gch := a.gch, write := write, quad := quadOf a.gch } s
    else updChan a.c (if write then pushWrite e else pushRead e) s

/-- The entries of a controller that satisfy a test move to the new home of their frame, in arrival order, and the units of their
rows end; a locked sequence that has not taken effect enters there anew. -/
def moveEntriesIf (c g : Nat) (p : Nat → Nat → Bool) (s : State) : State :=
  let x := chanAt s c
  let mine := fun (e : Sect) => p e.bank e.row
  let es := sortBy (·.seq) ((x.reads ++ x.writes).filter mine)
  let s := updChan c (fun x => { x with
    reads := x.reads.filter fun e => !mine e, writes := x.writes.filter fun e => !mine e, units := x.units.filter fun u => !p u.bank u.row,
    bursts := x.bursts.filter fun b => !p b.bank b.row, accums := x.accums.filter fun u => !p u.bank u.row }) s
  let locked := x.units.filter fun u => u.kind == .locked && !u.stored && p u.bank u.row
  forEach (locked.filterMap (·.req)) enterLocked (forEach es (requeue g) s)

/-! ### Frame retirement (R337) -/

/-- Retire a row as its two frames: the corrected data goes to the frames taken, then the work that waits for them (R337); a frame
without a destination is lost (R78). -/
def retireFrames (a : RowAt) (s : State) : State :=
  if 4032 ≤ a.row then s else
  let rows := rescuedCells s a (readRow s a)
  let f := frameOfRow a.bank a.row
  let (s, lost) := forEach (List.range 2) (fun j (acc : State × Nat) =>
    let (s, n, l) := rehomeRun false a.gch (f + j) 1 none acc.1
    if n = 0 then (s.onMap fun m => { m with gone := m.gone ++ [(a.gch, f + j)] }, acc.2 + l) else
    match homeRow s a.gch (f + j) 0 0 with
    | none => (s, acc.2)
    | some (b, i0) =>
      let s := writeFrame b i0 (rowStrength s a) ((rows.drop (64 * j)).take 64) s
      (notify (medOf a.gch) 0x5022 1 (leBytes 2 a.gch ++ leBytes 4 (f + j) ++ leBytes 2 b.gch) s, acc.2)) (s, 0)
  let s := (refreshFostered (fosterExhausted a.gch lost s)).1
  let s := moveEntriesIf a.c a.gch (fun b r => b == a.bank && r == a.row) s
  if lost = 0 then s else reportLoss a.gch (homeless s a.gch) s

/-! ### Row repair (R335, R336) -/

/-- Repair a row with a spare row of its bank: PRE, SW18 and SW19, then the row as a full-row unit (R336). -/
def repairRow (a : RowAt) (s : State) : State :=
  let rows := rescuedCells s a (readRow s a)
  let st := rowStrength s a
  let (free, cols) := bankSpares s a.c a.bank
  let s := sendNow a.c (.sww 18 a.row) (closeBank a.c a.bank s)
  let s := sendNow a.c (.sww 19 (64 + a.bank)) s
  let s := updChan a.c (fun c => { c with sectors := c.sectors.filter fun e => !(e.1 == a.bank && e.2.1 == a.row) }) s
  let s := sendRow a.c a.bank a.row [] (List.range (128 + paritySlots st)) (writeRow a st rows s)
  let s := setBankSpares a.c a.bank (free - 1) cols s
  let s := addRepair ⟨stackOf a.c, a.c % 66, a.bank, 1, a.row⟩ s
  notify (medOf a.gch) 0x5020 0 (leBytes 2 a.gch ++ leBytes 1 a.bank ++ leBytes 2 a.row ++ leBytes 1 (free - 1)) s

/-- A row needs a repair: a spare row while bit [3] of object 0x5001 is set, or, where there can be none, its frames re-homed
(R324, R337); not while its channel moves (R347). -/
def needRepair (a : RowAt) (s : State) : State :=
  if actionOn s a.c then s
  else if 0 < (bankSpares s a.c a.bank).1 && stackCap s (stackOf a.c) 1 && decide ((softRepairs s).length < 32768) then
    (if sparingOn s 3 then repairRow a s else s)
  else retireFrames a s

/-- Retire the sectors that a unit found due, and repair the row when no spare slot or map entry is left or it holds at
least 3 retired sectors: the number retired (R335, R336, R341). -/
def retireIn (a : RowAt) (due : List Nat) (s : State) : State × Nat :=
  let r := if sparingOn s 2 then
      forEach due (fun i (acc : State × Nat × Bool) =>
        let (s, n, short) := acc
        if short || (chanAt s a.c).sectors.any (fun e => e.1 == a.bank && e.2.1 == a.row && e.2.2.1 == i) then acc else
        let (s, ok) := retireSector a i ((soundSector s a i).getD zeroSector) s
        if ok then (s, n + 1, false) else (s, n, true)) (s, 0, false)
    else (s, 0, false)
  let held := ((chanAt r.1 a.c).sectors.filter fun e => e.1 == a.bank && e.2.1 == a.row).length
  (queueColumns a.c a.bank (if r.2.2 || decide (3 ≤ held) then needRepair a r.1 else r.1), r.2.1)

/-! ### Passes -/

def passAt (s : State) (i : Nat) : Option Pass := (s.codec.passes.find? (·.1 == i)).map (·.2)
def updPass (i : Nat) (f : Pass → Pass) (s : State) : State :=
  s.onCodec fun c => { c with passes := c.passes.map fun e => if e.1 == i then (e.1, f e.2) else e }
/-- Add to a count of Table 8.8. -/
def Pass.add (p : Pass) (i n : Nat) : Pass := { p with counts := modNth p.counts i (· + n) }

/-- Channels of a scope (Table 8.6). -/
def scopeChannels (s : State) (kind value : Nat) : List Nat :=
  match kind with
  | 0 => s.variant.channels
  | 1 => s.variant.channels.filter fun g => quadOf g == value
  | 2 => s.variant.channels.filter fun g => g / 64 == value
  | 3 => s.variant.channels.filter (· == value)
  | _ =>
    let p := (curEntry s value).place
    let (f, n) := p.frames s.variant
    let own := placeChannels s.variant p
    let homes := if s.map.foster.isEmpty then [] else own.flatMap fun g => (List.range n).map fun k => (home s g (f + k)).1
    sortBy id (own ++ homes).eraseDups

/-- A pass skips a channel: in rebuild, mapped out, in reset or in Slate mode (R250, R253). -/
def scrubSkips (s : State) (g : Nat) : Bool :=
  !liveChannel s g || inSlate s (quadOf g) || (quadAt s (quadOf g)).resetAt.isSome

/-- Begin a pass: its channels, with a cursor each. -/
def beginPass (i : Nat) (s : State) : State :=
  match passAt s i with
  | none => s
  | some p =>
    let gs := scopeChannels s p.scope p.value
    let skip := (gs.filter (scrubSkips s)).length
    updPass i (fun p => ({ p with
      running := true, start := s.clk.hub, epoch := objGet s 0x4010 0, todo := (gs.filter fun g => !scrubSkips s g).map fun g => (g, 0, none),
      done := 0, size := gs.length, ended := false, outcome := 0, counts := List.replicate 13 0, worst := (0, 0, 0, 0) } : Pass).add 11 skip) s

/-! ### The end of a pass (R252, R253) -/

/-- The summary record (Table 8.8). -/
def summaryOf (s : State) (i : Nat) (p : Pass) : Bytes :=
  let n := fun (k w : Nat) => leBytes w (Nat.min (nth p.counts k 0) (2 ^ (8 * w) - 1))
  let (g, bank, row, syms) := p.worst
  let body := [1] ++ leBytes 1 i ++ leBytes 1 p.options ++ leBytes 1 p.scope ++ leBytes 4 p.value
    ++ leBytes 8 (p.start % 2 ^ 61) ++ leBytes 8 (hubStamp s) ++ leBytes 1 p.outcome ++ [0] ++ n 11 2 ++ n 12 2 ++ leBytes 2 0
    ++ n 0 8 ++ n 1 8 ++ n 2 4 ++ n 3 4 ++ n 4 4 ++ n 5 4 ++ n 6 4 ++ n 7 4 ++ n 8 4 ++ n 9 4 ++ n 10 4
    ++ leBytes 2 g ++ leBytes 2 row ++ leBytes 1 bank ++ [0] ++ leBytes 2 syms
  body ++ leBytes 4 (crc32c body)

/-- A block holds a poisoned sector. -/
def blockPoisoned (s : State) (p : Place) (b : Nat) : Bool :=
  (List.range 256).any fun g => (List.range 8).any fun k => match segValue s p (guardOf s p).isSome (256 * b + g) k with
    | some v => tagPoison v.2
    | none => true

/-- A block has a granule, or its word, in a quadrant in Slate mode, where block words are not kept up (R254). -/
def blockInSlate (s : State) (p : Place) (b : Nat) : Bool :=
  inSlate s (quadOf (blockWord s.variant p b).1) || (List.range 256).any fun g => inSlate s (quadOf (interleave s.variant p (256 * b + g)).gch)

/-- Compare a segment's blocks with their words: the mismatches, the first 64 of them reported (R252). -/
def verifyBlocks (seg : Nat) (s : State) : State × Nat :=
  let e := curEntry s seg
  if e.state = .absent || !e.blockSum then (s, 0) else
  forEach (List.range 64) (fun b (acc : State × Nat) =>
    let (s, n) := acc
    let stored := readBlockWord s e.place b
    let sum := blockSumOf s e.place b
    if blockInSlate s e.place b || blockPoisoned s e.place b || stored == sum then acc
    else (if n < 64 then notify .hub 0x4012 1 (leBytes 4 seg ++ leBytes 1 b ++ leBytes 4 stored ++ leBytes 4 sum) s else s, n + 1)) (s, 0)

/-- The row units of a pass that satisfy a test leave the tree. -/
def retirePassUnits (p : Nat → TUnit → Bool) (s : State) : State :=
  retireUnits (fun u => u.job.any fun j => j.kind == .scrub && p j.slot u) s

/-- A pass ends: block verification, summary, journal, notice; a pass without repeat is no longer defined. A pass that the host
stops compares no block (DESIGN CHOICE, assumption 116). -/
def endPass (i outcome : Nat) (s : State) : State :=
  match passAt s i with
  | none => s
  | some p =>
    let s := retirePassUnits (fun k _ => k == i) s
    let (s, bad) := if bit p.options 1 && outcome ≠ 1 then verifyBlocks p.value s else (s, 0)
    let p := { p.add 9 bad with outcome := if outcome = 1 then 1 else p.outcome, running := false, ended := true }
    let r := summaryOf s i p
    let s := s.onCodec fun c => { c with summaries := (r :: c.summaries).take 8 }
    let s := journal 0x82 r s
    let s := if p.outcome = 0 then notify .hub 0x4010 0 r s else notify .hub 0x4011 1 r s
    if p.rep = 0 || outcome = 1 then s.onCodec fun c => { c with passes := c.passes.filter (·.1 != i) } else updPass i (fun _ => p) s

/-- A quadrant reset or Slate mode entry ends the passes' work in a quadrant (R253). -/
def endScrubIn (q : Nat) (s : State) : State :=
  (retirePassUnits (fun _ u => u.quad == q) s).onCodec fun c => { c with passes := c.passes.map fun e =>
    let gone := (e.2.todo.filter fun t => quadOf t.1 == q).length
    if gone = 0 || !e.2.running then e
    else (e.1, ({ e.2 with todo := e.2.todo.filter fun t => quadOf t.1 != q, outcome := 2 } : Pass).add 11 gone) }

/-! ### The scrub command (Tables 8.6 and 8.7) -/

/-- The result of a scrub command (Table 8.7), without the pass identifier: where several hold, the lowest code (DESIGN CHOICE,
assumption 115). -/
def judgeScrub (s : State) (bs : Bytes) : Nat :=
  let cmd := field bs 0 1
  let opt := field bs 1 1
  let kind := field bs 2 1
  let id := field bs 3 1
  let v := field bs 4 4
  let range := match kind with
    | 0 => v == 0
    | 1 => decide (v < 4)
    | 2 => decide (v < 32)
    | 3 => decide (v < 2048)
    | 4 => decide (v < 2 ^ 19)
    | _ => false
  if bs.length ≠ 32 || !zeros bs 16 16 || (cmd ≠ 1 && cmd ≠ 2) || 16 ≤ opt || (bit opt 3 && !bit opt 0) || 4 < kind then 1
  else if cmd = 2 then (if (passAt s id).isSome then 0 else 5)
  else if id ≠ 0 || !range then 1
  else
    let gs := scopeChannels s kind v
    if (kind = 4 && (curEntry s v).state = .absent) || gs.all (fun g => inSlate s (quadOf g)) then 2
    else if 8 ≤ s.codec.passes.length then 3
    else if bit opt 1 && (kind ≠ 4 || !(curEntry s v).blockSum) then 4
    else 0

/-- Execute a write of object 0x4020:00: the state, and whether the write is accepted. -/
def writeScrub (bs : Bytes) (s : State) : State × Bool :=
  let r := judgeScrub s bs
  let say := fun (x : Nat) (s : State) => s.onCodec fun c => { c with result := x }
  if r ≠ 0 then (say r s, false)
  else if field bs 0 1 = 2 then
    let i := field bs 3 1
    let s := say (256 * i) s
    match passAt s i with
    | some p => (if p.running then endPass i 1 s else s.onCodec fun c => { c with passes := c.passes.filter (·.1 != i) }, true)
    | none => (s, true)
  else
    let i := (leastFrom (fun k => (passAt s k).isNone) 8 1).getD 1
    let p : Pass := { options := field bs 1 1, scope := field bs 2 1, value := field bs 4 4, duration := field bs 8 4, rep := field bs 12 4 }
    let s := s.onCodec fun c => { c with passes := c.passes ++ [(i, p)] }
    (beginPass i (say (256 * i) s), true)

/-! ### SCRUB_ROW_UNIT (R250, R251) -/

/-- Rows of a channel in a pass's scope, as a test and, for a segment, their indexes. -/
def scopeRows (s : State) (p : Pass) (g : Nat) : Option (List Nat) :=
  if p.scope ≠ 4 then none else
  let place := (curEntry s p.value).place
  let (f, n) := place.frames s.variant
  let rows := (placeChannels s.variant place).flatMap fun own => (List.range n).map fun k =>
    let (c, y) := home s own (f + k)
    let a := cellAt y 0 0
    (c, rowIndex a.bank a.row)
  some (sortBy id ((rows.filterMap fun x => if x.1 == g then some x.2 else none).eraseDups))

/-- The next touched row of a channel at or after a cursor, and the untouched rows passed over. -/
def nextRow (s : State) (p : Pass) (g cursor : Nat) : Option Nat × Nat :=
  let rows := scopeRows s p g
  let mine := s.touch.filterMap fun k => if k / 2 ^ 18 == g && decide (cursor ≤ k % 2 ^ 18) then some (k % 2 ^ 18) else none
  let cand := match rows with
    | some l => mine.filter l.contains
    | none => mine
  let next := cand.foldl (fun (m : Option Nat) x => match m with
    | some y => some (Nat.min x y)
    | none => some x) none
  let stop := next.getD (2 ^ 18)
  (next, match rows with
    | some l => (l.filter fun x => decide (cursor ≤ x) && decide (x < stop)).length
    | none => stop - cursor)

/-- The sectors of a row in a pass's scope. -/
def scopeSectors (s : State) (p : Pass) (a : RowAt) : List Nat :=
  if p.scope ≠ 4 then List.range 128 else
  let place := (curEntry s p.value).place
  let (f, n) := place.frames s.variant
  (List.range 128).filter fun i =>
    let (g, y) := owner s a.gch (frameOfRow a.bank a.row + i / 64)
    place.inStack s.variant (g / 64) && decide (f ≤ y) && decide (y < f + n)

/-- One row unit (R251): the row is fetched, decoded and counted; with repair set the result is written as a full-row unit,
and retirements follow where they are permitted. A row without a changed symbol counts as no corrected codeword (DESIGN CHOICE,
assumption 117). -/
def scrubRow (i : Nat) (p : Pass) (a : RowAt) (s : State) : State :=
  let r := readRow s a
  let s := sendRow a.c a.bank a.row (rowSlots s a) [] s
  let census := if !bit p.options 2 then 0 else
    ((scopeSectors s p a).filter fun k => let t := (nth r.sectors k zeroSector).2; decide (tagWriter t ≤ 5) && tagEpoch t == p.epoch).length
  let q := quadOfSlot a.c
  let got := r.bad.map fun k => (k, stripeValue s a k)
  let made := (got.filter (·.2.isSome)).map (·.1)
  let lost := (got.filter (·.2.isNone)).map (·.1)
  let s := if r.failed then countUncorrectable a r.bad lost s else if 0 < r.symbols then bump 0x8502 (q + 1) 1 s else s
  let syms := if r.failed then 0xFFFF else r.symbols
  let s := updPass i (fun p =>
    let p := ((p.add 0 1).add 10 census)
    let p := if r.failed then p.add 4 1 else if 0 < r.symbols then (p.add 2 1).add 3 r.symbols else p
    if p.worst.2.2.2 < syms then { p with worst := (a.gch, a.bank, a.row, syms) } else p) s
  if !bit p.options 0 then s else
  let changed := if r.failed then [] else (r.fixed ++ r.perSector.map (·.1)).eraseDups
  let cells := rescuedCells s a r
  let s := forEach made (fun k s => readStripe a k s) s
  let s := forEach (copiesOf s a) (fun b s => writeRow b r.strength cells s) s
  let s := sendRow a.c a.bank a.row [] ((List.range 128).map (slotOfSector s a) ++ parityOf r.strength) s
  let (s, n) := if bit p.options 3 then retireIn a ((r.perSector.filter fun e => decide (4 ≤ e.2)).map (·.1) ++ made) s else (s, 0)
  updPass i (fun p => (((p.add 5 changed.length).add 6 made.length).add 7 lost.length).add 8 n) s

/-- A pass holds its channel: no other pass has begun on it, and none that waits comes first (R250). -/
def passTurn (s : State) (i g : Nat) : Bool :=
  let others := s.codec.passes.filter fun e => e.1 != i && e.2.running && e.2.todo.any (·.1 == g)
  let asks := fun (k : Nat) => s.tree.units.any fun u => u.gch == g && u.job.any fun j => j.kind == .scrub && j.slot == k
  let begun := fun (k : Nat) (p : Pass) => asks k || p.todo.any fun t => t.1 == g && t.2.2.isSome
  let mine := match passAt s i with
    | some p => begun i p
    | none => false
  if mine then true else others.all fun e => !begun e.1 e.2 && decide (i < e.1)

/-- A pass has done with a channel: covered (12) or skipped (11). -/
def leaveChannel (i g count : Nat) (s : State) : State :=
  updPass i (fun p => ({ p with todo := p.todo.filter (·.1 != g), done := if count = 12 then p.done + 1 else p.done } : Pass).add count 1)
    (retirePassUnits (fun k u => k == i && u.gch == g) s)

/-- The next row unit of a channel: it raises its request, and runs once it is granted, its row may be activated and nothing of
classes 1 to 6 is offered (R251). A channel without a further touched row is done (R250). -/
def nextScrub (i c g cursor : Nat) (p : Pass) (s : State) : State :=
  let (next, over_) := nextRow s p g cursor
  match next with
  | none => leaveChannel i g 12 (updPass i (·.add 1 over_) s)
  | some k =>
    match rowUnit s c .scrub i with
    | none => askRow c g .scrub i (k / 4096) (k % 4096) s
    | some u =>
      if u.level < 3 || !mayOpen s c (k / 4096) (k % 4096) || outranked s c 7 0 then s else
      let now := quadTime s (quadOf g)
      scrubRow i p ⟨c, g, k / 4096, k % 4096⟩
        (updPass i (fun p => { p with todo := p.todo.map fun t => if t.1 == g then (g, k + 1, some now) else t })
          (updPass i (·.add 1 over_) (dropRowUnit u s)))

/-- SCRUB_ROW_UNIT: the next row of a channel, paced and in the pass's turn (R250, R251). -/
def execScrubRowUnit (pass : Fin 8) (stack : Fin 32) (ch : Fin 64) (s : State) : Answered :=
  whenReleased s fun s =>
    let i := pass.val + 1
    let g := 64 * stack.val + ch.val
    match passAt s i with
    | none => s
    | some p =>
      match p.todo.find? (·.1 == g), servingSlot s g with
      | some (_, cursor, last), some c =>
        let gap := Nat.max 1000 (p.duration * 1000000000 / 262144)
        let paced := match last with
          | some t => decide (t + gap ≤ quadTime s (quadOf g))
          | none => true
        let x := chanAt s c
        if !p.running || !paced || !passTurn s i g || x.inRest || x.selfRefresh then s
        else if scrubSkips s g then leaveChannel i g 11 s
        else nextScrub i c g cursor p s
      | some _, none => leaveChannel i g 11 s
      | none, _ => s

/-- SCRUB_PASS_END (R253): every channel of the scope is done. -/
def execScrubPassEnd (pass : Fin 8) (s : State) : Answered :=
  whenReleased s fun s =>
    match passAt s (pass.val + 1) with
    | some p => if p.running && p.todo.isEmpty then endPass (pass.val + 1) 0 s else s
    | none => s

/-- SCRUB_REPEAT_START (R250): one repeat interval after the last start. -/
def execScrubRepeatStart (pass : Fin 8) (s : State) : Answered :=
  whenReleased s fun s =>
    match passAt s (pass.val + 1) with
    | some p => if p.running || p.rep = 0 || s.clk.hub < p.start + p.rep * 1000000000 then s else beginPass (pass.val + 1) s
    | none => s

end Sys2Proof.Machine
end

