-- ==== Sys2Proof/Machine/Repair.lean ====
section
/-!
DEFINITION. Lane sparing (R331 to R333), what makes a slot due for channel sparing (R343), the repair command (Table 11.14,
R358), records of retired units (R329, R351).
-/
namespace Sys2Proof.Machine

/-! ### Units and their records -/

/-- Table 11.2 entry of a channel slot, and of a lane of a slot. -/
def slotUnit (c : Nat) : Unit11 := ⟨quadOfSlot c + 1, 2 ^ 28 + stackOf c % 8 * 2 ^ 21 + c % 66 * 2 ^ 14⟩
def laneUnit (c lane : Nat) : Unit11 :=
  ⟨quadOfSlot c + 1, 2 * 2 ^ 28 + stackOf c % 8 * 2 ^ 21 + c % 66 * 2 ^ 14 + lane * 2 ^ 8⟩

/-- Keep a unit as retired, with its ledger record of kind 0x04. -/
def retireUnit (u : Unit11) (cause : Nat) (s : State) : State :=
  let s := s.onStart fun t => { t with retired := if t.retired.contains u then t.retired else t.retired ++ [u] }
  ledger 0x04 (leBytes 1 u.die ++ leBytes 1 cause ++ leBytes 2 0 ++ leBytes 4 u.entry) s

/-- Mark a lane of a slot bad. -/
def badLane (c lane cause : Nat) (s : State) : State :=
  let s := updStack (stackOf c) (fun t => { t with badLanes := if t.badLanes.contains (c % 66, lane) then t.badLanes
                                                                else t.badLanes ++ [(c % 66, lane)] }) s
  retireUnit (laneUnit c lane) cause s

/-! ### Lanes of a slot (R214, R331, R332) -/

/-- Spare that holds a position. -/
def holderLane (s : State) (c pos : Nat) : Option Nat :=
  if pos < 36 then (if bits (swAt s c 16) 5 0 = pos then some 36 else if bits (swAt s c 16) 11 6 = pos then some 37 else none)
  else if 38 ≤ pos && bits (swAt s c 17) 3 0 = pos - 38 then some 48 else none

/-- Assign a spare lane to a position, or to none. -/
def assignLane (c spare : Nat) (pos : Option Nat) (s : State) : State :=
  let w := swAt s c 16
  if spare = 36 then setSw c 16 (bits w 11 6 * 64 + pos.getD 63) s
  else if spare = 37 then setSw c 16 (bits w 5 0 + 64 * pos.getD 63) s
  else setSw c 17 (match pos with
    | some p => p - 38
    | none => 15) s

/-- Spare lanes in use by the slots of a stack. -/
def spareLanesUsed (s : State) (n : Nat) : Nat :=
  total ((List.range 66).map fun p => let c := slotNo n p
    b2n (bits (swAt s c 16) 5 0 != 63) + b2n (bits (swAt s c 16) 11 6 != 63) + b2n (bits (swAt s c 17) 3 0 != 15))

/-! ### Actions on a slot (R347) -/

/-- Good spare slots of a stack that no action uses. -/
def goodSpares (s : State) (n : Nat) : List Nat :=
  sortBy id ((stackAt s n).spares.filter fun p => !(s.rehomes.any fun h => h.dest == some (slotNo n p)))

/-- Hours above 95 °C exceed object 0x5010:06 (R343). -/
def hotWear (s : State) (n : Nat) : Bool := decide (objGet s 0x5010 6 < (stackAt s n).ms95 / 3600000)

/-- What host commands ask for a slot: 2 a spare channel, 3 a map-out, 5 both. -/
def asksSpare (wanted : Nat) : Bool := wanted == 2 || wanted == 5
def asksMapOut (wanted : Nat) : Bool := wanted == 3 || wanted == 5

/-- The first condition of R343 that makes a live slot due for channel sparing. -/
def dueCause (s : State) (c : Nat) : Option Nat :=
  let x := chanAt s c
  let half := fun (v : Nat) => if hotWear s (stackOf c) then (v + 1) / 2 else v
  if (duePositions s c).any fun p => (freeLanes s c p.1).isEmpty then some 1
  else if 4 ≤ (lastSecond (quadTime s (quadOfSlot c)) x.misses).length then some 2
  else if x.wearHour = poweredNow s / 3600 && decide (half (objGet s 0x5010 3) ≤ x.corrected) then some 3
  else if half (objGet s 0x5010 4) ≤ x.sectors.length then some 4
  else if half (objGet s 0x5010 5) ≤ barrenBanks s c then some 5
  else if asksSpare x.wanted then some 6
  else none

/-! ### LANE_SPARING_PAUSE (R332, R333) -/

/-- SWW of SW16 or SW17 as a change of lanes leaves it (Table 11.3, step 5). -/
def sendLanes (c spare : Nat) (f : State → State) (s : State) : State :=
  let w := if spare < 38 then 16 else 17
  sendNow c (.sww w (swAt (f s) c w)) s

/-- The pause itself: the spare takes the position and is trained; it keeps it when it is accepted (Table 11.3). -/
def lanePause (c g pos cause spare errors eye : Nat) (s : State) : State :=
  let pch := c % 66
  let s := stopChannel c s
  let ok := errors = 0 && decide (slotObj s c 0x5010 2 ≤ eye)
  let old := holderLane s c pos
  let was := swAt s c (if spare < 38 then 16 else 17)
  let s := sendLanes c spare (fun s => assignLane c spare (some pos) (match old with
    | some l => assignLane c l none s
    | none => s)) s
  let s := trainDone c s
  if ok then
    let s := match old with
      | some l => badLane c l 3 s
      | none => s
    let s := updChan c (fun x => { x with dueLanes := x.dueLanes.filter fun e => e.1 != pos && old != some e.1 }) s
    let s := ledger 0x03 (leBytes 2 g ++ leBytes 1 pch ++ leBytes 1 pos ++ leBytes 1 spare ++ leBytes 1 cause) s
    notify (medOf g) 0x5001 0 (leBytes 2 g ++ leBytes 1 pch ++ leBytes 1 pos ++ leBytes 1 spare) (recovered 8000 s)
  else notify (medOf g) 0x5002 1 (leBytes 2 g ++ leBytes 1 pch ++ leBytes 1 spare)
    (badLane c spare 2 (sendNow c (.sww (if spare < 38 then 16 else 17) was) s))

/-- LANE_SPARING_PAUSE: a due lane of a slot takes a spare under the stack's token; a slot without the token asks for it, and one
that holds it for nothing any more passes it on (R165). -/
def execLaneSparingPause (stack : Fin 32) (pch : Fin 66) (errors eye : Nat) (s : State) : Answered :=
  whenReleased s fun s =>
    let c := slotNo stack pch
    match channelOf s c, (pauseTarget s c).filter fun _ => mayPause s c with
    | some g, some (pos, cause, spare) =>
      if (chanAt s c).inRest || (chanAt s c).selfRefresh || quadStops s (quadOfSlot c) then s
      else
        let s := askToken stack pch s
        if (stackAt s stack).token != some pch.val || !quiescent (chanAt s c) then s
        else passToken stack pch (lanePause c g pos cause spare errors eye s)
    | _, _ => idleToken stack pch s

/-! ### The repair command (Table 11.14) -/

/-- Hard repairs and column repairs in the queue. -/
def queuedHard (s : State) : List Repair := s.start.repairs.filter (·.action == 5)
def queuedColumns (s : State) : List Repair := s.start.repairs.filter (·.action == 6)

/-- The fields of a repair command are well formed. -/
def repairFormed (bs : Bytes) : Bool :=
  let cmd := field bs 0 1
  let lane := field bs 1 1
  let bank := field bs 4 1
  let addr := field bs 6 2
  bs.length == 16 && decide (1 ≤ cmd) && decide (cmd ≤ 6) && decide (field bs 2 2 < 2048) && zeros bs 5 1 && zeros bs 8 8
    && (if cmd = 1 then decide (lane ≤ 48) else lane == 0)
    && (if cmd = 4 || cmd = 5 then decide (bank < 64) else bank == 0)
    && (if cmd = 4 then decide (addr < 4096) else if cmd = 5 then decide (addr < 136) else addr == 0)

/-- The result of a repair command (object 0x5031): the checks in the order of their codes. -/
def judgeRepair (s : State) (bs : Bytes) : Nat :=
  let cmd := field bs 0 1
  let g := field bs 2 2
  let bank := field bs 4 1
  let addr := field bs 6 2
  if !repairFormed bs then 1
  else if !liveChannel s g || inSlate s (quadOf g) then 2
  else match servingSlot s g with
  | none => 2
  | some c =>
    let (rows, cols) := bankSpares s c bank
    let soft := s.start.repairs.any fun r => r.stack == stackOf c && r.pch == c % 66 && r.bank == bank && r.action == 1 && r.addr == addr
    let spare := match cmd with
      | 1 => (lanePosition s c (field bs 1 1)).any fun p => !(freeLanes s c p).isEmpty
      | 2 => !(goodSpares s (g / 64)).isEmpty
      | _ => true
    let able := match cmd with
      | 4 => bit (quadCaps s (quadOf g)) 13 && stackCap s (g / 64) 2
      | 5 => (bit (quadCaps s (quadOf g)) 13 && stackCap s (g / 64) 2) || stackCap s (g / 64) 1
      | _ => true
    let room := match cmd with
      | 4 => decide ((queuedHard s).length < 65535) && (decide (0 < rows) || soft)
      | 5 => decide ((queuedColumns s).length < 65535) && decide (0 < cols)
      | _ => true
    if !spare then 3 else if !able then 4 else if !room then 5
    else if cmd ≤ 3 && actionOn s c then 6 else 0

/-- Execute a write of object 0x5030:00: the state, and whether the write is accepted. -/
def writeRepair (bs : Bytes) (s : State) : State × Bool :=
  let r := judgeRepair s bs
  let s := s.onStart fun t => { t with repairResult := r }
  let cmd := field bs 0 1
  let g := field bs 2 2
  let bank := field bs 4 1
  let addr := field bs 6 2
  match (if r = 0 then servingSlot s g else none) with
  | none => (s, r = 0)
  | some c =>
    let mine := fun (x : Repair) => x.stack == stackOf c && x.pch == c % 66
    let s := match cmd with
      | 1 => updChan c (fun x => { x with dueLanes := x.dueLanes.filter (·.1 != field bs 1 1) ++ [(field bs 1 1, 5)] }) s
      | 2 | 3 => updChan c (fun x => { x with wanted := if x.wanted = 0 || x.wanted = cmd then cmd else 5 }) s
      | 4 => addRepair ⟨stackOf c, c % 66, bank, 5, addr⟩ s
      | 5 => addRepair ⟨stackOf c, c % 66, bank, 6, addr⟩ s
      | _ =>
        let gone := s.start.repairs.filter fun x => mine x && (x.action == 5 || x.action == 6)
        let s := forEach gone (fun x s => ledger 0x08 (repairRecord { x with action := 7 }) s) s
        s.onStart fun t => { t with repairs := t.repairs.filter fun x => !gone.contains x }
    (s, true)

end Sys2Proof.Machine
end

