-- ==== Sys2Proof/Machine/Ledger.lean ====
section
/-!
DEFINITION. The ledger and journal writer (R349 to R353), wear records (R355) and forecasts (R356, R357).
-/
namespace Sys2Proof.Machine

/-! ### The regions of NOR (R348) -/

/-- Offset and size of each region (Table 11.7): directory, fuse-map shadow, image slots A and B, staging area, ledger, journal.
Each is written by page program after the erase of its 4 KiB sectors. -/
def norRegions : List (Nat × Nat) :=
  [(0, 0x10000), (0x10000, 0xF0000), (0x100000, 0x800000), (0x900000, 0x800000), (0x1100000, 0x800000), (0x1900000, 0x400000),
   (0x1D00000, 0x300000)]

/-- Sectors of a region. -/
def regionSectors (i : Nat) : Nat := (nth norRegions i (0, 0)).2 / 4096

def ledgerSize : Nat := 1024
def journalSize : Nat := 768

/-! ### Rings (R349, R350) -/

/-- A record (Table 11.8). -/
def recordBytes (kind seq : Nat) (body stamp : Bytes) : Bytes :=
  let b := padTo (roundUp body.length 4) body
  let r := leBytes 1 kind ++ [1] ++ leBytes 2 (b.length + 36) ++ leBytes 4 seq ++ stamp ++ b
  r ++ leBytes 4 (crc32c r)

def Ring.isBad (r : Ring) (k : Nat) : Bool := r.bad.any (·.1 == k)
/-- Sectors that may be written: neither bad nor in use. -/
def Ring.freeCount (size : Nat) (r : Ring) : Nat := ((List.range size).filter fun k => !r.isBad k && !r.used.contains k).length

/-- The next good sector of the ring. -/
def Ring.nextGood (size : Nat) (r : Ring) : Option Nat :=
  (leastFrom (fun i => !r.isBad ((r.sector + 1 + i) % size)) size 0).map fun i => (r.sector + 1 + i) % size

/-- The ring with its writer at the start of the next good sector, which is erased when it holds records. -/
def Ring.advance (size : Nat) (r : Ring) : Ring :=
  match r.nextGood size with
  | none => r
  | some k =>
    let held := r.used.contains k
    { r with sector := k, offset := 0, recs := r.recs.filter (·.sector != k), erases := if held then r.erases + 1 else r.erases,
             used := r.used.filter (· != k) ++ [k] }

/-- Append a record. -/
def Ring.append (size kind : Nat) (body stamp : Bytes) (r : Ring) : Ring :=
  let bytes := recordBytes kind r.next body stamp
  let r := if r.used.isEmpty then { r with used := [r.sector] } else r
  let spans := decide (4096 < r.offset + bytes.length)
  let r := if r.offset = 4096 || (spans && r.isBad ((r.sector + 1) % size)) then r.advance size else r
  let rec_ : Rec := { sector := r.sector, seq := r.next, kind := kind, bytes := bytes, offset := r.offset }
  let n := r.offset + bytes.length
  let r := if n ≤ 4096 then { r with offset := n } else { (r.advance size) with offset := n - 4096 }
  { r with recs := r.recs ++ [rec_], next := (r.next + 1) % 2 ^ 32 }

/-- A sector fails its erase or its program verify and is bad: the one the record fits into, and the writer goes on in the next;
else the one it would be continued in, which the writer then skips (R349). -/
def Ring.fail (size powered len : Nat) (r : Ring) : Ring :=
  if r.offset + len ≤ 4096 then ({ r with bad := r.bad ++ [(r.sector, powered)] } : Ring).advance size
  else match r.nextGood size with
    | none => r
    | some k => { r with bad := r.bad ++ [(k, powered)] }

/-- The ring starts empty: its sectors are erased, and what is bad stays bad (R354). -/
def Ring.restart (size : Nat) (r : Ring) : Ring :=
  { bad := r.bad, erases := r.erases + r.used.length,
    sector := ((List.range size).find? fun k => !r.isBad k).getD 0 }

/-- The ring cut after a record: the writer goes on there (R354). -/
def Ring.cutAfter (size : Nat) (e : Rec) (r : Ring) : Ring :=
  if r.recs.getLast? == some e then r else
  let n := e.offset + e.bytes.length
  let r := { r with recs := r.recs.takeWhile (·.seq != e.seq) ++ [e], next := (e.seq + 1) % 2 ^ 32, sector := e.sector, offset := n }
  if n ≤ 4096 then r else { (r.advance size) with offset := n - 4096 }

/-! ### The directory (R349) -/

/-- A half of the directory: sequence number, bitmap of bad ledger and journal sectors, erase count per region, CRC. -/
def directoryHalf (n : Nor) (seq : Nat) : Bytes :=
  let map := total ((n.ledger.bad.map fun b => 2 ^ b.1) ++ n.journal.bad.map fun b => 2 ^ (ledgerSize + b.1))
  let b := leBytes 4 seq ++ leBytes 224 map ++ (n.erased.take 5 ++ [n.ledger.erases, n.journal.erases]).flatMap (leBytes 4)
  b ++ leBytes 4 (crc32c b)

/-- A half passes its check. -/
def halfValid (b : Bytes) : Bool := b.length == 260 && crc32c (b.take 256) == field b 256 4

/-- The valid half with the higher sequence number. -/
def halfInForce (n : Nor) : Option Bytes := bestOf (fun a b => decide (field b 0 4 < field a 0 4)) (n.halves.filter halfValid)

/-- The older half is rewritten and comes into force. -/
def writeDirectory (n : Nor) : Nor :=
  let n := { n with erased := modNth n.erased 0 (· + 1) }
  let old := halfInForce n
  { n with halves := old.toList ++ [directoryHalf n ((old.elim 0 fun h => field h 0 4) + 1)] }

/-- The directory follows a change of the bad sectors or of the erase counts. -/
def keepDirectory (was : Nor) (n : Nor) : Nor :=
  if was.ledger.bad == n.ledger.bad && was.journal.bad == n.journal.bad && was.ledger.erases == n.ledger.erases
      && was.journal.erases == n.journal.erases then n
  else writeDirectory n

/-- A ring's bad sectors as the half in force shows them; `base` is the ring's first bit. -/
def badOf (h : Option Bytes) (base : Nat) (r : Ring) : Ring :=
  { r with bad := r.bad.filter fun b => (h.map fun x => bit (field x 4 224) (base + b.1)).getD false }

/-- The rings take their bad sectors from the directory at a start. -/
def applyDirectory (s : State) : State :=
  s.onNor fun n => { n with ledger := badOf (halfInForce n) 0 n.ledger, journal := badOf (halfInForce n) ledgerSize n.journal }

/-! ### The checkpoint (R351, R353) -/

/-- A stack's wear record (Table 11.11). -/
def wearRecord (s : State) (n : Nat) : Bytes :=
  let t := stackAt s n
  leBytes 1 n ++ [0] ++ leBytes 2 (t.peak % 2 ^ 16).toNat ++ leBytes 4 (t.ms85 / 3600000) ++ leBytes 4 (t.ms95 / 3600000)
    ++ leBytes 8 t.wearCorr ++ leBytes 4 t.wearUncorr ++ leBytes 4 t.wearCa ++ leBytes 4 0

/-- What a slot serves, as records of kind 0x10 name it. -/
def slotRole (s : State) (n p : Nat) : Nat :=
  let t := stackAt s n
  match t.table.findIdx? (· == p) with
  | some ch => ch
  | none => if t.spares.contains p then 0xFE else 0xFF

/-- Frames of a mapped-out channel that records re-home. -/
def rehomedFrames (s : State) (g : Nat) : Nat := total ((s.map.foster.filter fun r => r.channel && r.src == g).map (·.count))

/-- A foster record's body (kind 0x06). -/
def fosterBody (r : Foster) : Bytes :=
  leBytes 1 (if r.channel then 1 else 2) ++ [0] ++ leBytes 2 r.src ++ leBytes 4 r.first ++ leBytes 2 r.count ++ leBytes 2 r.dst
    ++ leBytes 4 r.dstFirst

/-- The records that restate the ledger's state: kind and body. -/
def checkpointBody (s : State) : List (Nat × Bytes) :=
  let enabled := (List.range 32).filter s.variant.enables
  let slots := enabled.flatMap fun n => (List.range 66).map fun p => (n, p)
  let assigned := enabled.flatMap fun n => (stackAt s n).table.zipIdx.filterMap fun x =>
    if x.1 < 66 then some (0x02, leBytes 1 n ++ leBytes 1 x.2 ++ leBytes 1 x.1 ++ [3]) else none
  let retired := s.start.retired.map fun u => (0x04, leBytes 1 u.die ++ [5] ++ leBytes 2 0 ++ leBytes 4 u.entry)
  let mapped := s.map.mapped.zipIdx.map fun x => (0x05, leBytes 2 x.1 ++ leBytes 2 (x.2 + 1) ++ leBytes 4 (rehomedFrames s x.1))
  let foster := s.map.foster.map fun r => (0x06, fosterBody r)
  let wear := enabled.map fun n => (0x0A, wearRecord s n)
  let states := slots.map fun (n, p) =>
    let c := slotNo n p
    let es := (chanAt s c).sectors
    (0x10, leBytes 1 n ++ leBytes 1 p ++ leBytes 1 (slotRole s n p) ++ [0] ++ leBytes 2 (swAt s c 16) ++ leBytes 2 (swAt s c 17)
      ++ leBytes 2 es.length ++ leBytes 2 0
      ++ es.flatMap fun e => leBytes 1 e.1 ++ leBytes 1 e.2.2.1 ++ leBytes 2 e.2.1 ++ leBytes 1 e.2.2.2 ++ leBytes 3 0)
  let repairs := slots.flatMap fun (n, p) =>
    let es := s.start.repairs.filter fun r => r.stack == n && r.pch == p
    (List.range (ceilDiv es.length 1000)).map fun i =>
      let part := (es.drop (1000 * i)).take 1000
      (0x11, leBytes 1 n ++ leBytes 1 p ++ leBytes 2 part.length
        ++ part.flatMap fun r => leBytes 1 r.bank ++ leBytes 1 r.action ++ leBytes 2 r.addr)
  assigned ++ retired ++ mapped ++ foster ++ wear ++ states ++ repairs

/-- Write a checkpoint after the newest record, then erase the sectors that hold only older records. -/
def checkpoint (s : State) : State :=
  let body := checkpointBody s
  let stamp := journalStamp s
  let count := body.length + 2
  let begin_ := s.nor.ledger.next
  s.onNor fun n =>
    let r := n.ledger.append ledgerSize 0x01 (leBytes 8 fusedId ++ leBytes 4 count ++ leBytes 4 0) stamp
    let r := body.foldl (fun r x => r.append ledgerSize x.1 x.2 stamp) r
    let r := r.append ledgerSize 0x0F (leBytes 4 begin_ ++ leBytes 4 count) stamp
    let kept := (r.recs.dropWhile (·.seq != begin_)).map (·.sector)
    let gone := r.used.filter fun k => !kept.contains k && k != r.sector
    { n with ledger := { r with used := r.used.filter (!gone.contains ·), recs := r.recs.filter (!gone.contains ·.sector),
                                erases := r.erases + gone.length } }

/-! ### LEDGER_WRITE (R349, R353) -/

/-- Good sectors of the two regions. -/
def goodSectors (s : State) : Nat × Nat := (ledgerSize - s.nor.ledger.bad.length, journalSize - s.nor.journal.bad.length)

/-- Powered seconds and host date of a record. -/
def Rec.powered (r : Rec) : Nat := field r.bytes 12 4
def Rec.date (r : Rec) : Nat := field r.bytes 24 8
/-- A field of a record's body. -/
def Rec.at (r : Rec) (off n : Nat) : Nat := field r.bytes (32 + off) n

/-- A record was made within the last 8,760 powered hours. -/
def inWindow (s : State) (r : Rec) : Bool := decide (poweredNow s ≤ r.powered + 8760 * 3600)

/-- The newest ledger record joins those of the forecast window. -/
def rememberRecord (s : State) : State :=
  s.onNor fun n => { n with history := n.history.filter (inWindow s) ++ n.ledger.recs.getLast?.toList }

/-- A checkpoint is due: fewer than 512 sectors are free, and no record waits that it would restate (R353). -/
def checkpointDue (s : State) : Bool :=
  decide (s.nor.ledger.freeCount ledgerSize < 512) && s.nor.waiting.all fun w => !w.1

/-- LEDGER_WRITE: the oldest pending record is programmed and verified; a sector that fails is marked bad. -/
def execLedgerWrite (programOk : Bool) (s : State) : Answered :=
  whenReleased s fun s =>
    if !s.nor.present then s else
    match s.nor.waiting with
    | [] => s
    | (led, kind, body, stamp) :: rest =>
      let was := s.nor
      if programOk then
        let s := s.onNor fun n => { n with
          waiting := rest,
          ledger := if led then n.ledger.append ledgerSize kind body stamp else n.ledger,
          journal := if led then n.journal else n.journal.append journalSize kind body stamp,
          powered := if led && kind = 0x09 then field stamp 4 4 else n.powered,
          cycles := if led then field stamp 0 4 else n.cycles }
        let s := if led then rememberRecord s else s
        let s := if led && checkpointDue s then checkpoint s else s
        s.onNor (keepDirectory was)
      else
        let now := poweredNow s
        let len := (recordBytes kind 0 body stamp).length
        let s := s.onNor fun n => writeDirectory { n with
          ledger := if led then n.ledger.fail ledgerSize now len else n.ledger,
          journal := if led then n.journal else n.journal.fail journalSize now len }
        let (a, b) := goodSectors s
        if a < 896 || b < 256 then notify .hub 0x5060 2 (leBytes 2 a ++ leBytes 2 b) s else s

/-- STACK_WEAR_RECORD: once per powered hour, a record for each enabled stack (R353). -/
def execStackWearRecord (s : State) : Answered :=
  whenReleased s fun s =>
    let h := poweredNow s / 3600
    if h ≤ s.nor.wearHour then s else
    let s := forEach ((List.range 32).filter s.variant.enables) (fun n s => ledger 0x0A (wearRecord s n) s) s
    s.onNor fun n => { n with wearHour := h }

/-- POWERED_TIME_PERSIST (R53): powered time goes to the ledger at least every 60 min. -/
def execPoweredTimePersist (s : State) : Answered := whenReleased s (ledger 0x09 [])

/-! ### FORECAST (R356, R357) -/

/-- Ledger records of the forecast window: what a checkpoint restates is not among them. -/
def windowRecords (s : State) : List Rec := s.nor.history.filter (inWindow s)

/-- Units consumed and left of a resource: resource, scope kind, scope value, U, N. -/
def consumption (s : State) : List (Nat × Nat × Nat × Nat × Nat) :=
  let rs := windowRecords s
  let of_ := fun (k : Nat) => rs.filter (·.kind == k)
  let enabled := (List.range 32).filter s.variant.enables
  let slots := enabled.map fun n =>
    (1, 2, n, ((of_ 0x04).filter fun r => r.at 1 1 != 5 && r.at 0 1 == n / 8 + 1 && r.at 4 4 / 2 ^ 21 == 128 + n % 8).length,
      (goodSpares s n).length)
  let perChan := (s.variant.channels.filter (liveChannel s)).flatMap fun g =>
    match servingSlot s g with
    | none => []
    | some c =>
      let rows := (List.range 64).map fun b =>
        (2, 3, g, (((of_ 0x08).filter fun r => r.at 0 1 == stackOf c && r.at 1 1 == c % 66 && r.at 2 1 == b &&
          (r.at 3 1 == 1 || r.at 3 1 == 3)).map (·.at 4 2)).eraseDups.length, (bankSpares s c b).1)
      rows ++ [(3, 3, g, ((of_ 0x07).filter (·.at 0 2 == g)).length, 64 - (chanAt s c).sectors.length),
               (4, 3, g, ((of_ 0x03).filter (·.at 0 2 == g)).length, (freeLanes s c 0).length + (freeLanes s c 38).length)]
  let frames := (5, 0, 0, total ((of_ 0x06).map (·.at 8 2)), fosterFree s)
  let bad := (s.nor.ledger.bad ++ s.nor.journal.bad).filter fun b => decide (poweredNow s ≤ b.2 + 8760 * 3600)
  let (a, b) := goodSectors s
  slots ++ perChan ++ [frames, (6, 0, 0, bad.length, a + b)]

/-- The date of a forecast in so many hours (R357). -/
def forecastDate (s : State) (hours : Nat) : Nat :=
  let dated := (windowRecords s).filter (·.date != 0)
  match dated.head?, dated.getLast? with
  | some o, some n =>
    let span := n.powered - o.powered
    if span < 720 * 3600 then 0
    else (n.date + (hours * 3600 * (n.date - o.date)) / span) % 2 ^ 64
  | _, _ => 0

/-- A forecast entry (Table 11.12). -/
def forecastEntry (resource scope value hours date : Nat) : Bytes :=
  leBytes 1 resource ++ leBytes 1 scope ++ leBytes 2 value ++ leBytes 4 hours ++ leBytes 8 date

/-- The forecasts that exist: resource, scope kind, scope value, hours; for spare rows the bank of fewest hours. -/
def forecasts (s : State) : List (Nat × Nat × Nat × Nat) :=
  let h := Nat.min 8760 (poweredNow s / 3600)
  if h < 720 then [] else
  let all := (consumption s).filterMap fun (r, k, v, u, n) => if u = 0 then none else some (r, k, v, Nat.min (2 ^ 32 - 2) (n * h / u))
  (all.map fun x => (x.1, x.2.1, x.2.2.1)).eraseDups.filterMap fun key =>
    bestOf (fun a b => decide (a.2.2.2 < b.2.2.2)) (all.filter fun x => (x.1, x.2.1, x.2.2.1) == key)

/-- FORECAST: at a powered-hour boundary. -/
def execForecast (s : State) : Answered :=
  whenReleased s fun s =>
    let hour := poweredNow s / 3600
    if hour ≤ s.nor.foreHour then s else
    let fs := forecasts s
    let entry := fun (x : Nat × Nat × Nat × Nat) => forecastEntry x.1 x.2.1 x.2.2.1 x.2.2.2 (forecastDate s x.2.2.2)
    let first := (List.range 6).map fun i =>
      match bestOf (fun (a b : Nat × Nat × Nat × Nat) => decide (a.2.2.2 < b.2.2.2)) (fs.filter (·.1 == i + 1)) with
      | some x => entry x
      | none => forecastEntry (i + 1) 0 0 0xFFFFFFFF 0
    let s := forEach fs (fun x s => ledger 0x0B (entry x) s) s
    let s := s.onNor fun n => { n with foreHour := hour, forecasts := first }
    forEach fs (fun x s =>
      let key := (x.1, x.2.1 * 65536 + x.2.2.1)
      let said := s.nor.foreSaid.any fun e => e.1 == key && decide (hour < e.2 + 24)
      if said || decide (objGet s 0x5011 0 ≤ x.2.2.2) then s
      else notify .hub 0x5050 1 (entry x) (s.onNor fun n => { n with foreSaid := n.foreSaid.filter (·.1 != key) ++ [(key, hour)] })) s

end Sys2Proof.Machine
end

