-- ==== Sys2Proof/Machine/SegEvents.lean ====
section
/-!
DEFINITION. What the segment map does after a command: a freed slot cleared (R74, R244), a move complete (R79), moves that
the complex starts itself (R77, R81), a rebuild pass over (R82).
-/
namespace Sys2Proof.Machine

/-! ### Moves the complex starts (R77, R79, R81) -/

/-- Start a move of a segment to a free slot of a class and place; none when no slot is free. -/
def relocate (n : Nat) (sp : Spread) (scope cause : Nat) (s : State) : Option State :=
  let e := curEntry s n
  match takeSlot { e with place := placeOf sp scope 0 } s with
  | none => none
  | some (p, s) => some (startMove n { e with place := p } cause s)

/-- Moves that may still start. -/
def moveRoom (s : State) : Nat := 16 - s.map.moves.length

/-- Free single-stack groups of a stack. -/
def freeGroups (s : State) (n : Nat) : Nat :=
  let used := (usedPlaces s).filter fun p => p.inStack s.variant n
  ((List.range (slotCount s.variant .single)).filter fun h =>
    let p := Place.single n h
    !withdrawn s p && used.all fun u => !p.overlaps s.variant u).length

/-- Stack of a quadrant with the most free groups, the lowest on a tie (R81); none where no stack of it serves. -/
def roomiest (s : State) (q : Nat) : Option Nat :=
  let cands := ((List.range 8).map (8 * q + ·)).filter (stackServes s)
  bestOf (fun a b => decide (freeGroups s b < freeGroups s a)) cands

/-- A segment may be moved by autonomous placement to a quadrant (R81). -/
def movable (e : Entry) (q : Nat) : Bool :=
  e.state = .live && !e.replica && !e.pinned && e.place.spread ≠ .broad && !e.place.inQuadrant q

/-- Start an autonomous move of a segment to a quadrant, when it still may be moved there and a slot is free. No slot of a
quadrant in Slate mode or offline counts as free (DESIGN CHOICE, assumption 113). -/
def moveToQuad (n q : Nat) (s : State) : State :=
  let e := curEntry s n
  let scope := match e.place with
    | .single _ _ => roomiest s q
    | _ => some q
  match scope with
  | some k => if movable e q && !inSlate s q && !isOffline s q then (relocate n e.place.spread k 2 s).getD s else s
  | none => s

/-- Moves that waited for one of the 16 places start: those of R81 in their order, then slots over withdrawn frames (R77). -/
def startWaiting (s : State) : State :=
  let s := forEach s.map.queued (fun x s =>
    if moveRoom s = 0 || s.map.starts = 0 then s else
    let before := moveRoom s
    let s := moveToQuad x.1 x.2 (s.onMap fun m => { m with queued := dropFirst (· == x) m.queued })
    s.onMap fun m => { m with starts := m.starts - (before - moveRoom s) }) s
  if mapOuts s = 0 then s else
  forEach ((liveSegs s).filter fun x => withdrawn s x.2.place && x.2.state = .live) (fun x s =>
    if moveRoom s = 0 then s else (relocate x.1 x.2.place.spread x.2.place.scopeNo 3 s).getD s) s

/-! ### FREED_SLOT_CLEARED (R74) -/

/-- A freed slot's share of its stripes as it stands in a sector: none where nothing was ever written. -/
def retiredSector (s : State) (p : Place) (G k : Nat) : Option (Bytes × Nat) :=
  match segSector s p G k with
  | none => (reconstruct s p G k).map fun v => (v.1, tagWord v.2 0 0 6)
  | some (a, i) => if touched s a.gch a.bank a.row || !(queuedWrites s a i).isEmpty then some (priorSector s a i) else none

/-- The retire pass of a guarded slot: each of its sectors goes to its parity sector as an XOR entry (R244). -/
def retirePass (f : Freed) (s : State) : State :=
  forEach (List.range 16384) (fun G s => forEach (List.range 8) (fun k s =>
    match retiredSector s f.place G k with
    | some x => if tagPoison x.2 || x.1.any (· ≠ 0) then sendGuard none f.place G k f.entry.strength x zeroSector s else s
    | none => s) s) s

/-- A row of free slots alone: its touch bit clears, and what is still on its way to it goes. -/
def clearRow (a : RowAt) (s : State) : State :=
  let mine := fun (u : TUnit) => u.slot == a.c && !u.sects.isEmpty && u.sects.all fun e => e.req.isNone && e.bank == a.bank && e.row == a.row
  clearTouch a.gch a.bank a.row (forgetRow a (retireUnits mine s))

/-- The rows of a freed slot: zero writes beside live frames, cleared where all is free (R74). -/
def clearRows (p : Place) (s : State) : State :=
  let v := s.variant
  let others := (usedPlaces s).filter (· ≠ p)
  forEach (List.range 16384) (fun G s =>
    match segSector s p G 0 with
    | none => s
    | some (a, _) =>
      if !touched s a.gch a.bank a.row && (chanAt s a.c).writes.all (fun e => !(e.bank == a.bank && e.row == a.row))
        && (s.tree.units.all fun u => u.sects.all fun e => !(u.slot == a.c && e.bank == a.bank && e.row == a.row)) then s else
      let fr := frameOfRow a.bank a.row
      let owners := [owner s a.gch fr, owner s a.gch (fr + 1)]
      let holds := fun (p : Place) => let (x, n) := p.frames v
        owners.any fun (g, y) => p.inStack v (g / 64) && decide (x ≤ y) && decide (y < x + n)
      if others.any holds then
        forEach (List.range 8) (fun k s => match segSector s p G k with
          | some (a, i) => storeSector a i 0 (fun _ => (List.replicate 32 0, tagWord false 0 (writeEpoch s a.gch) 6)) s
          | none => s) s
      else clearRow a s) s

/-- Clear a freed slot, its retire pass first (R74, R244). The slot must no longer be in the free list. -/
def clearPlace (f : Freed) (s : State) : State :=
  if s.touch.isEmpty && s.tree.units.isEmpty && s.chans.all (fun c => c.2.writes.isEmpty) then s else
  clearRows f.place (if f.retire then retirePass f s else s)

/-- FREED_SLOT_CLEARED: a freed slot returns to the allocator once the requests that looked its segment up are over and its
quadrants serve. -/
def execFreedSlotCleared (index : Nat) (s : State) : Answered :=
  whenReleased s fun s =>
    match s.map.freed[index]? with
    | none => s
    | some f =>
      let busy := f.waits.any fun id => s.reqs.any (·.id == id)
      if busy || !quadsServe s f.place then s else
      let s := s.onMap fun m => { m with freed := m.freed.eraseIdx index }
      let s := clearPlace f s
      let s := if f.retire then leaveGuard f.place s else s
      startWaiting (if mapOuts s = 0 then s else fosterNotice s)

/-! ### MOVE_COMPLETE (R79) -/

/-- A segment has an open Basket line (R313). -/
def lineOpen (s : State) (seg : Nat) : Bool := s.fabric.lines.any fun l => l.addr / 2 ^ 22 = seg

/-- MOVE_COMPLETE: the cursor has passed the last granule. The flip waits for open lines of the segment (R313), and while a
quadrant of either slot does not serve. -/
def execMoveComplete (segment : Nat) (s : State) : Answered :=
  whenReleased s fun s =>
    let s := pumpMove segment s
    match s.map.moves.find? (·.seg = segment) with
    | none => s
    | some m =>
      if 16384 ≤ m.cursor && m.busy.isNone && !lineOpen s segment && quadsServe s m.source && quadsServe s m.target.place then
        startWaiting (finishMove segment s)
      else s

/-! ### PLACEMENT_EVALUATION (R81) -/

/-- Parameters of object 0x2021 in force for the running period: share, least samples, period in ms, hold-off in s. -/
def placementParams (s : State) : List Nat :=
  if s.map.params.isEmpty then (List.range 4).map fun i => objGet s 0x2021 (i + 1) else s.map.params

/-- End of the evaluation period that runs: a period is a window of hub time (R49, R81). -/
def periodEnd (s : State) : Nat :=
  let w := nth (placementParams s) 2 1000 * 1000000
  (s.map.period / w + 1) * w

/-- Segments that qualify, with the quadrant and the samples from its port. -/
def qualifying (s : State) (ps : List Nat) : List (Nat × Nat × Nat) :=
  s.map.samples.filterMap fun (n, counts) =>
    let e := curEntry s n
    let all := total counts
    let ok := decide (nth ps 1 0 ≤ all)
      && (let t := look 0 n s.map.movedAt; t == 0 || decide (t - 1 + nth ps 3 0 * 1000000000 ≤ s.clk.hub))
    if !ok then none else
    ((List.range 4).find? fun k => decide (nth ps 0 0 * all ≤ 100 * nth counts k 0) && movable e k).map
      fun k => (n, k, nth counts k 0)

/-- PLACEMENT_EVALUATION: the end of an evaluation period. -/
def execPlacementEvaluation (s : State) : Answered :=
  whenReleased s fun s =>
    let ps := placementParams s
    if s.clk.hub < periodEnd s then s else
    let picks := if objGet s 0x2020 0 = 1 && bit (complexCaps s) 11 then
        (sortBy (fun x => (2 ^ 40 - x.2.2) * 2 ^ 20 + x.1) (qualifying s ps)).map fun x => (x.1, x.2.1)
      else []
    startWaiting (s.onMap fun m => { m with
      samples := [], period := s.clk.hub, queued := picks, starts := 64,
      params := (List.range 4).map fun i => objGet s 0x2021 (i + 1) })

/-! ### MAP_REBUILD_COMPLETE (R82) -/

/-- MAP_REBUILD_COMPLETE: notice 0x2001 with the entries changed. -/
def execMapRebuildComplete (s : State) : Answered :=
  whenReleased s fun s =>
    match s.map.rebuild with
    | none => s
    | some n =>
      notify .hub 0x2001 0 (leBytes 4 n) (s.onMap fun m => { m with rebuild := m.later.head?, later := m.later.drop 1, passes := (m.passes + 1) % 2 ^ 32 })

end Sys2Proof.Machine
end

