-- ==== Sys2Proof/Machine/Rehome.lean ====
section
/-!
DEFINITION. Logical channels that change their home: channel sparing (R343, R344), map-out (R345), the loss of a channel
and its rebuild (R246, R247, R346, R448), what overtakes them (Table 11.6, R347).
-/
namespace Sys2Proof.Machine

/-- Touched rows of a channel at or above a row index, ascending. -/
def touchedRows (s : State) (g least : Nat) : List (Nat × Nat) :=
  s.touch.filterMap fun k => if k / 2 ^ 18 == g && decide (least ≤ k % 2 ^ 18) then some (k % 2 ^ 18 / 4096, k % 4096) else none

/-! ### Work of a slot moves to a new home -/

/-- The entries of a controller move to the new home of its channel, in arrival order; `doubled` names the writes that its new
slot already holds. -/
def moveEntries (c g : Nat) (doubled : Sect → Bool) (s : State) : State :=
  moveEntriesIf c g (fun _ _ => true) (updChan c (fun x => { x with writes := x.writes.filter fun e => !doubled e }) s)

/-- A part of a request on its way goes to the slot that serves its frame now (R289). -/
def movePart (id : Nat) (p : Part) (s : State) : State :=
  match cellOfPart s p 0 with
  | some (a, _) => updPart id p.n (fun p => { p with slot := a.c }) s
  | none => s

/-- Parts that have not passed the root go to where their frame is served now: those of a channel whose slot changed. -/
def moveParts (g : Nat) (s : State) : State :=
  forEach s.reqs (fun r s => forEach (r.parts.filter fun p => p.gch == g && (p.stage = .hub || p.stage = .root)) (fun p s => movePart r.id p s) s) s

/-- Units on their way to a controller go to where their work lives now. -/
def moveUnits (c g : Nat) (s : State) : State :=
  let s := moveParts g (retireUnits (fun u => u.slot == c && u.job.isSome) s)
  let mine := s.tree.units.filter fun u => u.slot == c
  forEach mine (fun u s =>
    let home_ : Option (RowAt × Nat) := match u.sects.head? with
      | some e => newHome s g e
      | none => (u.parts.head?).bind fun x => ((reqAt s x.1).bind fun r => r.parts.find? fun (p : Part) => p.n == x.2).bind fun p => cellOfPart s p 0
    match home_ with
    | none => s
    | some (a, _) =>
      let sects := u.sects.filterMap fun e => (newHome s g e).map fun (y : RowAt × Nat) => { e with bank := y.1.bank, row := y.1.row, slot := y.2 }
      let arb := if u.level = 0 then u.arb else if u.level = 1 then quadArb (stackOf a.c) else chanArb a.c
      let s := forEach u.parts (fun x s => match (reqAt s x.1).bind fun r => r.parts.find? (·.n == x.2) with
        | some p => movePart x.1 p s
        | none => s) s
      let moved : TUnit := { u with slot := a.c, gch := a.gch, sects := sects, arb := arb }
      if arb = u.arb then onUnits (·.map fun v => if v.id = u.id then moved else v) s
      else replaceUnit moved s) s

/-! ### The slot table (R326) -/

/-- A channel is served by a spare slot from now on; its old slot is retired (R344, R346). -/
def switchSlot (g dest cause : Nat) (s : State) : State :=
  let n := g / 64
  let src := nth (stackAt s n).table (g % 64) 255
  let s := updStack n (fun t => { t with table := modNth t.table (g % 64) fun _ => dest % 66, spares := t.spares.filter (· != dest % 66) }) s
  let s := ledger 0x02 (leBytes 1 n ++ leBytes 1 (g % 64) ++ leBytes 1 (dest % 66) ++ leBytes 1 cause) s
  let s := if src < 66 then retireUnit (slotUnit (slotNo n src)) 3 s else s
  updChan dest (fun x => { x with wanted := 0 }) s

/-- A spare slot fails: it is retired (Table 11.6). -/
def failSpare (dest : Nat) (s : State) : State :=
  let s := updStack (stackOf dest) (fun t => { t with spares := t.spares.filter (· != dest % 66) }) s
  retireUnit (slotUnit dest) 4 s

/-! ### CHANNEL_SPARING (R343, R344) -/

/-- A copy to a spare slot begins. -/
def beginCopy (g source dest cause : Nat) (s : State) : State :=
  let s := updChan dest (fun x => { x with sectors := [] }) (stopTests (slotTarget dest) 2 s)
  let s := s.onRehomes (· ++ [{ kind := 1, gch := g, source := source, dest := some dest, cause := cause }])
  notify .hub 0x5010 1 (leBytes 2 g ++ leBytes 1 (source % 66) ++ leBytes 1 (dest % 66) ++ leBytes 1 cause) s

/-- The condition of R343 under which a copy of a slot may begin now: any while bit [1] of object 0x5001 is set, else a host
command alone (R324). -/
def copyCause (s : State) (c : Nat) : Option Nat :=
  if sparingOn s 1 then dueCause s c else if asksSpare (chanAt s c).wanted then some 6 else none

/-- CHANNEL_SPARING: a slot that is due starts its copy, or its stack has no spare left (R345). -/
def execChannelSparing (stack : Fin 32) (ch : Fin 64) (s : State) : Answered :=
  whenReleased s fun s =>
    let g := 64 * stack.val + ch.val
    match servingSlot s g with
    | none => s
    | some c =>
      let copying := s.rehomes.any fun h => h.kind == 1 && h.gch / 64 == stack.val
      if (dueCause s c).isNone || actionOn s c || copying || quadStops s (quadOf g) || inSlate s (quadOf g) || !liveChannel s g then s
      else match goodSpares s stack, copyCause s c with
      | d :: _, some cause => beginCopy g c (slotNo stack d) cause s
      | _ :: _, none => s
      | [], _ =>
        if sparingOn s 4 || (chanAt s c).exhausted then s
        else notify .hub 0x5012 1 (leBytes 2 g ++ leBytes 1 (c % 66)) (updChan c (fun x => { x with exhausted := true }) s)

/-- Writes queued in the source for a row. -/
def rowQueue (s : State) (c bank row : Nat) : List Sect := (chanAt s c).writes.filter fun e => e.bank == bank && e.row == row

/-- Writes that wait in the source for the row that the cursor passes wait in the destination as well. -/
def doubleWrites (source dest bank row : Nat) (s : State) : State :=
  updChan dest (fun x => (rowQueue s source bank row).foldl (fun x e => pushWrite { e with old := none, asked := false } x) x) s

/-- The destination of a copy has a lane due, or stays in its CA error state, which R448 calls lost (DEDUCED, assumption 118). -/
def destFails (s : State) (d : Nat) : Bool := !(chanAt s d).dueLanes.isEmpty || (chanAt s d).caError.isSome

/-- A copy whose destination fails starts again at row 0 to the next good spare, or ends (Table 11.6). -/
def restartCopy (h : Rehome) (dest : Nat) (s : State) : State :=
  let s := retireUnits (fun u => u.slot == h.source && u.job.any (·.kind == .copy)) (failSpare dest (dropRehome h.gch s))
  let s := moveEntries dest h.gch (fun _ => true) s
  match goodSpares s (h.gch / 64) with
  | d :: _ => beginCopy h.gch h.source (slotNo (h.gch / 64) d) h.cause s
  | [] => s

/-- The copy that runs in a stack. -/
def copyOf (s : State) (n : Nat) : Option Rehome := s.rehomes.find? fun h => h.kind == 1 && h.gch / 64 == n

/-- A copy unit: the row is read and decoded in the source and written as a full-row unit to the destination, with the writes
that wait for it in the source. -/
def copyRow (h : Rehome) (d bank row : Nat) (s : State) : State :=
  let a : RowAt := ⟨h.source, h.gch, bank, row⟩
  let st := rowStrength s a
  let r := readRow s a
  let v := rescuedCells s a r
  let s := sendRow h.source bank row (rowSlots s a) [] s
  let s := if r.failed then countUncorrectable a r.bad (r.bad.filter fun i => (stripeValue s a i).isNone)
      (forEach (r.bad.filter fun i => (stripeValue s a i).isSome) (fun i s => readStripe a i s) s) else s
  let s := writeRow { a with c := d } st v s
  let s := sendRow d bank row [] (List.range (128 + paritySlots st)) s
  updRehome h.gch (fun h => { h with cursor := rowIndex bank row + 1 }) (doubleWrites h.source d bank row s)

/-- CHANNEL_SPARING_COPY_UNIT: the unit of the next touched row raises its request at input 3 of the source's channel arbiter; once
it is granted it runs in its class, 6, or 1 after 10 µs, as soon as both slots may open the row and the destination's queue takes
the writes of the row. A quadrant in reset or without its reference pauses the copy. -/
def execChannelSparingCopyUnit (stack : Fin 32) (s : State) : Answered :=
  whenReleased s fun s =>
    match (copyOf s stack).bind fun h => h.dest.map fun d => (h, d) with
    | none => s
    | some (h, d) =>
      if quadStops s (stack / 8) || !(stackAt s stack).running then s
      else if destFails s d then restartCopy h d s
      else match touchedRows s h.gch h.cursor, rowUnit s h.source .copy 0 with
      | [], u => updRehome h.gch (fun h => { h with cursor := 2 ^ 18 }) (match u with
        | some u => dropRowUnit u s
        | none => s)
      | (b, r) :: _, none => askRow h.source h.gch .copy 0 b r s
      | (b, r) :: _, some u =>
        let j := u.job.getD { kind := .copy, bank := b, row := r }
        let cls := if j.since + 10000 ≤ quadTime s (stack / 8) then 1 else 6
        let room := decide ((chanAt s d).writes.length + (rowQueue s h.source b r).length ≤ 256)
        if u.level < 3 || !room || !mayOpen s h.source b r || !mayOpen s d b r || outranked s h.source cls j.seq then s
        else copyRow h d b r (dropRowUnit u s)

/-- CHANNEL_SPARING_COMPLETE: the cursor has passed the last row. -/
def execChannelSparingComplete (stack : Fin 32) (s : State) : Answered :=
  whenReleased s fun s =>
    match copyOf s stack with
    | none => s
    | some h => match h.dest with
      | none => s
      | some d =>
        if quadStops s (stack / 8) || destFails s d || !(touchedRows s h.gch h.cursor).isEmpty then s else
        let s := switchSlot h.gch d 2 (dropRehome h.gch s)
        let s := moveUnits h.source h.gch (moveEntries h.source h.gch (fun e => touched s h.gch e.bank e.row) s)
        notify .hub 0x5011 0 (leBytes 2 h.gch ++ leBytes 1 (d % 66) ++ leBytes 1 (goodSpares s stack).length) s

/-! ### Map-out (R76, R77, R345) -/

/-- Install the channel records of a channel, in copy state or active: frames of data and of the lower foster band left
out, metadata, then the foster frames of the channel that hold re-homed data; a withdrawn frame that does is among the
data frames already (DESIGN CHOICE, assumption 86). Answers the frames re-homed. -/
def installRecords (g : Nat) (copied : Option Nat) (s : State) : State × Nat :=
  let mine := (takenRuns s g).filterMap fun r =>
    let lo := Nat.max dataFrames r.1
    if lo < r.1 + r.2 then some (lo, r.1 + r.2 - lo) else none
  let (s, n, lost) := forEach ([(0, dataFrames), (metaFrame, 64)] ++ mine) (fun r (acc : State × Nat × Nat) =>
    let (s, n, l) := rehomeRun true g r.1 r.2 copied acc.1
    (s, acc.2.1 + n, acc.2.2 + l)) (s, 0, 0)
  (fosterExhausted g lost s, n)

/-- Step 4 of R345: the channel is not live, the budget falls, and its free foster frames are gone (R78). -/
def finishMapOut (g frames : Nat) (s : State) : State :=
  let n := g / 64
  let pch := nth (stackAt s n).table (g % 64) 255
  let s := updStack n (fun t => { t with table := modNth t.table (g % 64) fun _ => 255 }) (dropRehome g s)
  let s := s.onMap fun m => { m with mapped := m.mapped ++ [g], touchDue := m.touchDue.filter (· / 512 != g) }
  let m := mapOuts s
  let s := if pch < 66 then updChan (slotNo n pch) (fun x => { x with wanted := 0 }) s else s
  let s := notify .hub 0x2010 1 (leBytes 4 (budget s) ++ leBytes 2 m ++ leBytes 2 g) s
  let s := notify .hub 0x5013 2 (leBytes 2 g ++ leBytes 2 m ++ leBytes 4 frames) s
  startWaiting (fosterNotice (ledger 0x05 (leBytes 2 g ++ leBytes 2 m ++ leBytes 4 frames) s))

/-- A slot is to be mapped out: it is due, its stack has no good spare slot, and bit [4] of object 0x5001 is set or a host command
asks for it (R345). -/
def mapOutDue (s : State) (c : Nat) : Bool :=
  (dueCause s c).isSome && (goodSpares s (stackOf c)).isEmpty && (sparingOn s 4 || asksMapOut (chanAt s c).wanted)

/-- MAP_OUT: a slot that is to be mapped out begins its map-out: its channel records are installed, a rebuild pass of the map
begins, and the copies of its frames go out. -/
def execMapOut (stack : Fin 32) (ch : Fin 64) (s : State) : Answered :=
  whenReleased s fun s =>
    let g := 64 * stack.val + ch.val
    match servingSlot s g with
    | none => s
    | some c =>
      if !mapOutDue s c || actionOn s c || quadStops s (quadOf g) || inSlate s (quadOf g) || !liveChannel s g then s else
      let (s, n) := installRecords g (some 0) s
      pumpMapOut g (beginMapPass (s.onRehomes (· ++ [{ kind := 3, gch := g, source := c, dest := none, frames := n }])))

/-- Make a channel's records active: none of them is left to copy. -/
def activateRecords (g : Nat) (s : State) : State :=
  s.onMap fun m => { m with foster := m.foster.map fun r => if r.channel && r.src == g then { r with copied := none } else r }

/-- MAP_OUT_COMPLETE: every record is active; the reads that are left move (what is left to write is at the destinations as well), the
channel's touch bits go. -/
def execMapOutComplete (stack : Fin 32) (ch : Fin 64) (s : State) : Answered :=
  whenReleased s fun s =>
    let g := 64 * stack.val + ch.val
    let s := pumpMapOut g s
    match mapOutAt s g with
    | none => s
    | some h =>
      if (copyRun s g).isSome then s else
      let rows := touchedRows s g 0
      let s := moveUnits h.source g (moveEntries h.source g (fun _ => true) s)
      let s := forEach rows (fun r s => clearTouch g r.1 r.2 s) s
      let s := finishMapOut g h.frames s
      reportLoss g (homeless s g) s

/-! ### CHANNEL_LOST and the rebuild (R246, R346, R448) -/

/-- The touch state of a lost channel: lines in the hub's cache are kept, every row of another counts as touched (R246). -/
def loseTouch (g : Nat) (s : State) : State :=
  let d := s.draw
  s.drawn.onTouch fun t =>
    let lo := g * 2 ^ 18
    t.filter (fun k => decide (k < lo))
      ++ ((List.range (2 ^ 18)).map (lo + ·)).filter (fun k => !Config.lineKept d (k / 512) || t.contains k)
      ++ t.filter (fun k => decide (lo + 2 ^ 18 ≤ k))

/-- A copy request that has no purpose any more leaves the hub, the tree and the queues it has reached. -/
def cancelCopy (id : Nat) (s : State) : State :=
  match reqAt s id with
  | none => s
  | some r =>
    let s := s.onChans fun m => m.map fun c => (c.1, { c.2 with writes := c.2.writes.filter fun e => (e.req.map (·.1)) != some id })
    examineHeads s (dropReq id (retireUnits (fun u => u.parts.any (·.1 == id)) (updEntry r.entry (fun x => { x with queue := x.queue.filter (· ≠ id) }) s)))

/-- A map-out that the loss of its channel overtakes: what it had copied stays where it is, and every record is active. -/
def lapseMapOut (h : Rehome) (s : State) : State :=
  let kept := s.map.foster.filterMap fun r => if !(r.channel && r.src == h.gch) then none else
    some (r.first, r.copied.getD r.count)
  let s := match h.busy with
    | some id => cancelCopy id s
    | none => s
  updRehome h.gch (fun h => { h with kind := 2, kept := kept, busy := none }) (activateRecords h.gch s)

/-- A rebuild begins: into the lowest good spare slot, else into foster frames whose records are active at once. A copy
that the loss overtakes goes on as a rebuild of the rows above its cursor into its destination (Table 11.6). -/
def beginRebuild (g c : Nat) (s : State) : State :=
  let n := g / 64
  let s := loseTouch g s
  let old := rehomeAt s g
  let s := match old with
    | some h => if h.kind = 1 then updRehome g (fun h => { h with kind := 2 }) s else lapseMapOut h s
    | none => match goodSpares s n with
      | d :: _ =>
        let s := updChan (slotNo n d) (fun x => { x with sectors := [] }) (stopTests (slotTarget (slotNo n d)) 2 s)
        s.onRehomes (· ++ [{ kind := 2, gch := g, source := c, dest := some (slotNo n d) }])
      | [] =>
        let (s, k) := installRecords g none s
        beginMapPass (s.onRehomes (· ++ [{ kind := 2, gch := g, source := c, dest := none, frames := k }]))
  let kept := ((rehomeAt s g).map (·.kept)).getD []
  let doubled := fun (e : Sect) => match old with
    | some h =>
      let f := frameOfRow e.bank e.row + e.slot / 64
      (h.kind == 1 && decide (rowIndex e.bank e.row < h.cursor) && touched s g e.bank e.row)
        || kept.any fun k => decide (k.1 ≤ f) && decide (f < k.1 + k.2)
    | none => false
  let (sets, segs) := channelHolds s g
  let s := notify .hub 0x4020 1 (leBytes 2 g ++ leBytes 4 sets ++ leBytes 4 segs.length) s
  moveUnits c g (moveEntries c g doubled s)

/-- CHANNEL_LOST: a condition of R448, 1 to 5, shows on the serving slot of a channel. -/
def execChannelLost (stack : Fin 32) (ch : Fin 64) (condition : Fin 6) (s : State) : Answered :=
  whenReleased s fun s =>
    let g := 64 * stack.val + ch.val
    match servingSlot s g with
    | none => s
    | some c0 =>
      let lost := s.rehomes.any fun h => h.kind == 2 && h.gch == g
      let c := match rehomeAt s g with
        | some h => h.source
        | none => c0
      if condition.val = 0 || lost || !s.variant.enables stack then s else
      let s := notify (medOf g) 0x7060 2 (leBytes 2 g ++ leBytes 1 (c % 66) ++ leBytes 1 condition) s
      if inSlate s (quadOf g) then s else beginRebuild g c s

/-- Sectors that the rebuild took from their stripes are retired at their homes, and a rebuilt row is repaired where it comes to that
(R335, R336). -/
def retireRebuilt (h : Rehome) (rows : List (Nat × Nat)) (s : State) : State :=
  let at_ := fun (b r i : Nat) => homeRow s h.gch (frameOfRow b r + i / 64) (i % 64 / 8) (i % 8 * 32)
  let homes := ((rows.flatMap fun r => [at_ r.1 r.2 0, at_ r.1 r.2 64]).filterMap fun x => x.map (·.1)).eraseDups
  let made := h.made.filterMap fun x => at_ (x.1 / 4096) (x.1 % 4096) x.2
  forEach homes (fun a s => (retireIn a ((made.filter (·.1 == a)).map (·.2)) s).1) s

/-- CHANNEL_REBUILD_COMPLETE: the rows that are left are rebuilt, the channel has its new home. -/
def execChannelRebuildComplete (stack : Fin 32) (ch : Fin 64) (s : State) : Answered :=
  whenReleased s fun s =>
    let g := 64 * stack.val + ch.val
    match rehomeAt s g with
    | none => s
    | some h =>
      if h.kind != 2 || quadStops s (stack / 8) then s else
      let rows := touchedRows s g h.cursor
      let left := rows.filter fun r => !h.ahead.contains (rowIndex r.1 r.2)
      let s := forEach left (fun r s => rebuildRow (g, r.1, r.2) s) s
      let done := (rehomeAt s g).getD h
      let segs := (channelHolds s g).2
      let s := match h.dest with
        | some d => switchSlot g d 2 (dropRehome g s)
        | none => forEach rows (fun r s => clearTouch g r.1 r.2 s) (dropRehome g s)
      let s := retireRebuilt done rows s
      let s := recovered 6000 s
      let s := notify .hub 0x4021 0 (leBytes 2 g ++ leBytes 4 done.rebuilt ++ leBytes 4 done.poisoned) s
      let s := reportLoss g segs s
      startWaiting (if h.dest.isNone then finishMapOut g h.frames s else s)

/-! ### Slate mode (R347, Table 11.6) -/

/-- An action that runs on a channel is abandoned: a map-out's copies end, with the records not yet active; a copy's reads go back to the
source. -/
def abandonRehome (h : Rehome) (s : State) : State :=
  let s := match h.busy with
    | some id => cancelCopy id s
    | none => s
  let s := retireUnits (fun u => u.gch == h.gch && u.job.any (·.kind == .copy)) (dropRehome h.gch s)
  let s := match h.dest with
    | some d => moveEntries d h.gch (fun _ => true) s
    | none => s
  if h.kind = 3 then s.onMap fun m => { m with foster := m.foster.filter fun r => !(r.channel && r.src == h.gch && r.copied.isSome) } else s

/-- Every action on a channel of a quadrant that enters Slate mode is abandoned. -/
def abandonRehomes (q : Nat) (s : State) : State :=
  let mine := s.rehomes.filter fun h => quadOf h.gch == q
  let s := forEach mine abandonRehome s
  if mine.isEmpty then s else (refreshFostered s).1

end Sys2Proof.Machine
end

