-- ==== Sys2Proof/Machine/Engine.lean ====
section
/-!
DEFINITION. What the near-memory engines share (chapter 9): conversions and random generators, and the form of each
descriptor.
-/
namespace Sys2Proof.Machine

/-! ### Formats (R267 to R272) -/

/-- Format tag of the segment of an address. -/
def tagAt (s : State) (a : Nat) : Nat := (curEntry s (a / 2 ^ 22)).fmt

/-- A conversion is permitted between two formats (R284); equal formats copy. -/
def converts (src dst : Nat) : Bool :=
  (src == dst && decide (1 ≤ src) && src != 0xB && decide (src ≤ 0xE))
  || (decide (1 ≤ src) && decide (src ≤ 0xA) && decide (1 ≤ dst) && decide (dst ≤ 0xA))
  || (src == 0xC && decide (1 ≤ dst) && decide (dst ≤ 5))

/-- The elements of a row fit its formats: whole MX blocks (R268). -/
def elemsFit (src dst e : Nat) : Bool := (!isMx src && !isMx dst) || e % 32 == 0

/-- A row converted, or copied when its formats are equal: the output row bytes and the generator (R268, R270, R284). -/
def convertRow (src dst e : Nat) (r : Rounding) (rng : Nat) (bs : Bytes) : Bytes × Nat :=
  if src = dst then (padTo (outputRow dst e) (bs.take (naturalRow src e)), rng) else narrowRow dst r rng (widenRow src e bs)

/-- A generator's first state (R272): the seed, XOR the quadrant's number for a quadrant; a seed of 0 takes the counter. -/
def seedOf (seed q counter : Nat) : Nat :=
  let c := counter % 2 ^ 32
  if seed ≠ 0 then seed ^^^ q else if c = 0 then 1 else c

/-- Bits above an address are zero and it is aligned. -/
def addrOk (bs : Bytes) (off align : Nat) : Bool := let a := field bs off 8; decide (a < 2 ^ 41) && a % align == 0

/-- Rounding is well formed, and stochastic rounding has its capability (R272). -/
def roundingError (s : State) (b : Nat) : Nat :=
  match roundingOf b with
  | none => 1
  | some r => if r.stochastic && !bit (complexCaps s) 9 then 8 else 0

/-- The first error in the order of the codes of Table 9.15. -/
def leastError (es : List Nat) : Nat := ((sortBy id (es.filter (· ≠ 0))).head?).getD 0

/-- A capability of object 0x1007 and its bit of object 0x4812 are set. -/
def engineError (s : State) (cap en : Nat) : Nat := if bit (complexCaps s) cap && bit (objGet s 0x4812 0) en then 0 else 8

/-- An error code where a test fails. -/
def check (b : Bool) (err : Nat) : Nat := if b then 0 else err

def flagsOk (bs : Bytes) : Bool := decide (field bs 1 1 < 4)

/-! ### The form of each descriptor

A descriptor with a reserved field set fails with error 0x01, as Table 9.15 says of its kinds, although R10 has the complex
ignore reserved fields of outing descriptors (DESIGN CHOICE, assumption 90). -/

/-- Hamper (Table 9.6). -/
def hamperError (s : State) (domain : Nat) (bs : Bytes) : Nat :=
  let stride := field bs 4 2
  let e := field bs 6 2
  let out := field bs 3 1
  let base := field bs 8 8
  let src := tagAt s base
  let formed := flagsOk bs && decide (field bs 2 1 ≤ 2) && decide (1 ≤ out) && decide (out ≤ 3)
    && [32, 64, 128, 256, 512, 1024, 2048, 4096].contains stride && decide (1 ≤ e) && decide (e ≤ 2048)
    && addrOk bs 8 (Nat.max stride 1) && decide (1 ≤ field bs 16 4) && decide (1 ≤ field bs 20 4) && decide (field bs 20 4 ≤ 65536)
    && addrOk bs 24 4 && addrOk bs 32 4 && addrOk bs 40 4 && addrOk bs 48 32
    && field bs 56 4 % 32 == 0 && decide (outputRow out e ≤ field bs 56 4) && zeros bs 61 1
  let touch := touchError s domain base
  let poolable := (decide (1 ≤ src) && decide (src ≤ 0xA)) || src == 0xC
  leastError [check formed 1, roundingError s (field bs 60 1), touch,
    if touch ≠ 0 then 0 else check poolable 4,
    if touch ≠ 0 || !poolable then 0 else check (decide (naturalRow src e ≤ stride) && elemsFit src out e) 1, engineError s 6 0]

/-- Rambler (Table 9.7). -/
def ramblerError (s : State) (bs : Bytes) : Nat :=
  let out := field bs 2 1
  let stride := field bs 4 2
  let e := field bs 6 2
  let chunk := field bs 36 4
  let ring := field bs 32 4
  let base := field bs 24 8
  let formed := flagsOk bs && decide (out ≤ 0xA) && stride % 32 == 0 && decide (32 ≤ stride) && decide (stride ≤ 8192)
    && (if out = 0 then e == 0 else decide (1 ≤ e) && decide (e ≤ 4096) && elemsFit 1 out e)
    && addrOk bs 8 8 && decide (1 ≤ field bs 16 4) && decide (field bs 16 4 ≤ 262144)
    && decide (1 ≤ field bs 20 4) && decide (field bs 20 4 ≤ 4194304) && addrOk bs 24 4096
    && [4096, 8192, 16384, 32768, 65536].contains chunk && decide (65536 ≤ ring) && decide (ring ≤ 4194304) && ring % Nat.max chunk 1 == 0
    && base / 2 ^ 22 == (base + ring - 1) / 2 ^ 22 && addrOk bs 40 8 && addrOk bs 48 8 && zeros bs 60 4
  leastError [check formed 1, roundingError s (field bs 3 1), engineError s 7 1]

/-- Transcode copy (Table 9.9, R284). -/
def transcodeError (s : State) (domain : Nat) (bs : Bytes) : Nat :=
  let out := field bs 2 1
  let e := field bs 4 2
  let src := field bs 8 8
  let dst := field bs 16 8
  let rows := field bs 24 4
  let ss := field bs 28 4
  let ds := field bs 32 4
  let touch := touchError s domain src
  let tag := tagAt s src
  let formed := flagsOk bs && decide (1 ≤ out) && decide (out ≤ 0xE) && out != 0xB && decide (1 ≤ e) && decide (e ≤ 32768)
    && zeros bs 6 2 && addrOk bs 8 32 && addrOk bs 16 32 && decide (1 ≤ rows) && decide (rows ≤ 16777216)
    && ss % 32 == 0 && decide (ss ≤ 1048576) && ds % 32 == 0 && decide (ds ≤ 1048576) && decide (outputRow out e ≤ ds) && zeros bs 40 24
  let fits := decide (naturalRow tag e ≤ ss) && elemsFit tag out e
  let sEnd := src + (rows - 1) * ss + naturalRow tag e
  let dEnd := dst + (rows - 1) * ds + outputRow out e
  leastError [check formed 1, roundingError s (field bs 3 1), touch, if touch ≠ 0 then 0 else check (converts tag out) 4,
    if touch ≠ 0 then 0 else check (fits && (decide (sEnd ≤ dst) || decide (dEnd ≤ src))) 1, engineError s 8 2]

/-- Block check (R285). -/
def blockCheckError (s : State) (domain : Nat) (bs : Bytes) : Nat :=
  let a := field bs 8 8
  let n := field bs 16 4
  let formed := flagsOk bs && zeros bs 2 6 && addrOk bs 8 65536 && decide (1 ≤ n) && decide (n ≤ 65536) && zeros bs 20 44
  let segs := if formed then (List.range ((a + n * 65536 - 1) / 2 ^ 22 + 1 - a / 2 ^ 22)).map (a / 2 ^ 22 + ·) else []
  let seg := fun (k : Nat) =>
    let e := curEntry s k
    if 2 ^ 19 ≤ k || e.state = .absent then 2 else if e.domain ≠ domain then 3 else check e.blockSum 4
  leastError ([check formed 1, engineError s 5 3] ++ segs.map seg)

end Sys2Proof.Machine
end

