-- ==== Sys2Proof/Machine/Engines.lean ====
section
/-!
DEFINITION. The commands of the sequencers and engines (R262 to R285, R293, R294): each carries out one step of a chain or of a
descriptor: the issue of the reads it needs, or, once they are there, one bag, one token, one row, one block.
-/
namespace Sys2Proof.Machine

/-! ### What a descriptor's reads are for

A `Fetch` carries a key: 0, 1 and 2 name a descriptor's offsets, indices and weights, or a walk's produced and consumed words; 3 a
page list; `rowKey` and above its operand rows. A Continue's block has the chain index 2^32. -/

def offsetKey : Nat := 0
def indexKey : Nat := 1
def weightKey : Nat := 2
def consumedKey : Nat := 2
def pageKey : Nat := 3
def rowKey (n : Nat) : Nat := 4 + n
def continueIndex : Nat := 2 ^ 32

/-! ### The chain (R262 to R265) -/

/-- Record a failure that belongs to no operative descriptor: it counts among the failed, under the index that the next operative
descriptor takes (R262; DESIGN CHOICE, assumption 119). -/
def chainFailure (q i err : Nat) (stop : Bool) (s : State) : State :=
  updOuting q i (fun o => { o with
    firstErr := if o.firstErr = 0 then err else o.firstErr, firstIdx := if o.firstErr = 0 then o.started else o.firstIdx,
    failed := o.failed + 1, stopped := o.stopped || stop, outcome := if stop then 2 else Nat.max 1 o.outcome }) (bump 0x8103 6 1 s)

/-- The next descriptor of a chain that goes on. -/
def nextDesc (o : Outing) : Option Bytes := if o.stopped || o.silent || o.chainEnd || o.outcome == 3 then none else o.block[o.pc]?

/-- No descriptor of a chain will start any more. -/
def chainOver (o : Outing) : Bool := (nextDesc o).isNone

/-- An operative descriptor starts: what its kind requires is checked (R266 to R285). -/
def beginDesc (q i : Nat) (o : Outing) (bs : Bytes) (s : State) : State :=
  let kind := field bs 0 1
  let err := match kind with
    | 1 => hamperError s o.domain bs
    | 2 => ramblerError s bs
    | 3 => transcodeError s o.domain bs
    | _ => blockCheckError s o.domain bs
  let seed := match kind with
    | 1 => let x := field bs 62 2; if x = 0 then 0 else x + 0x5A5A0000
    | 2 => field bs 56 4
    | _ => field bs 36 4
  let a : Active := { index := o.started, bytes := bs, timeout := objGet s 0x4810 0, ringWait := objGet s 0x4811 0,
                      progress := quadTime s q, fmt := if kind = 1 || kind = 3 then some (tagAt s (field bs 8 8)) else none,
                      rng := ((List.range 4).map fun k => seedOf seed k (quadTime s k)) ++ [seedOf seed 0 s.clk.hub] }
  let s := updOuting q i (fun o => { o with pc := o.pc + 1, started := o.started + 1, active := o.active ++ [a] }) s
  if err = 0 then s else stopDesc q i a.index err s

/-- Nothing of a descriptor is left: it has ended and its writes are visible. -/
def Active.over (a : Active) : Bool := a.ended && a.writes.isEmpty && a.due.isEmpty

/-- DESCRIPTOR_START (R264). -/
def execDescriptorStart (q : Fin 4) (slot : Nat) (s : State) : Answered :=
  whenReleased s fun s =>
    match outingAt s q slot with
    | none => s
    | some o => match nextDesc o with
      | none => s
      | some bs =>
        let kind := field bs 0 1
        let idle := o.active.all Active.over
        if !engineRuns s q || kind = 0 || kind = 0xF then s
        else if 4 < kind then
          chainFailure q slot 1 (bit (field bs 1 1) 0) (updOuting q slot (fun o => { o with pc := o.pc + 1 }) s)
        else if 65536 ≤ o.started then chainFailure q slot 9 true s
        else if 4 ≤ (o.active.filter (!·.ended)).length || (bit (field bs 1 1) 1 && !idle) then s
        else beginDesc q slot o bs s

/-- The block of a Continue has come: the chain goes on in it. A Continue that fails stops the outing whatever its flags (R263;
DESIGN CHOICE, assumption 120). -/
def takeBlock (q i n : Nat) (r : EngRead) (s : State) : State :=
  let s := dropFetches q i (·.idx = continueIndex) s
  if r.err ≠ 0 then chainFailure q i r.err true s
  else if r.poison then chainFailure q i 0xD true s
  else updOuting q i (fun o => { o with
    block := (List.range n).map fun j => slice r.bytes (64 * j) 64, pc := 0, continues := o.continues + 1 }) s

/-- CONTINUE_DESCRIPTOR (R263): the next block is read under the outing's domain. A Continue that fails, malformed or beyond the
chain's limit, stops the outing whatever its flags (DESIGN CHOICE, assumption 120). -/
def execContinueDescriptor (q : Fin 4) (slot : Nat) (s : State) : Answered :=
  whenReleased s fun s =>
    match outingAt s q slot with
    | none => s
    | some o => match nextDesc o with
      | none => s
      | some bs =>
        let a := field bs 8 8
        let n := field bs 16 1
        if !engineRuns s q || field bs 0 1 ≠ 0xF then s
        else if 1024 ≤ o.continues then chainFailure q slot 9 true s
        else if !(zeros bs 1 7 && addrOk bs 8 64 && decide (1 ≤ n) && decide (n ≤ 64) && zeros bs 17 47) then chainFailure q slot 1 true s
        else match fetched s q slot continueIndex offsetKey a (64 * n) with
        | none => fetch q slot continueIndex offsetKey a (64 * n) s
        | some r => takeBlock q slot n r s

/-- END_DESCRIPTOR (R263). -/
def execEndDescriptor (q : Fin 4) (slot : Nat) (s : State) : Answered :=
  whenReleased s fun s =>
    match outingAt s q slot with
    | none => s
    | some o => match nextDesc o with
      | none => s
      | some bs =>
        if !engineRuns s q || field bs 0 1 ≠ 0 then s
        else
          let s := if zeros bs 1 63 then s else chainFailure q slot 1 false s
          updOuting q slot (fun o => { o with pc := o.pc + 1, chainEnd := true }) s

/-! ### Hamper (R273 to R277) -/

/-- Bags in flight in the complex. -/
def bagsInFlight (s : State) : Nat := total (s.engines.outings.map fun o => total (o.2.active.map fun a => a.bags.length))

/-- A partial with a row added (R274): weighted values summed or compared in fp32. -/
def addRow (pool : Nat) (acc : List FVal) (v : List FVal) : List FVal :=
  if acc.isEmpty then v else List.zipWith (fun a b => if pool = 2 then FVal.pick true a b else f32Add a b) acc v

/-- The rows of a quadrant added in an order that is not fixed (R276): that of the drawn keys. -/
def partialOf (pool draw : Nat) (rows : List (List FVal)) : List FVal :=
  (sortBy (fun x => Config.orderKey draw x.2) rows.zipIdx).foldl (fun acc x => addRow pool acc x.1) []

def updBag (q i idx b : Nat) (f : Bag → Bag) (s : State) : State :=
  updActive q i idx (fun x => { x with bags := x.bags.map fun y => if y.index = b then f y else y }) s

/-- Key of the row of index k of a bag. -/
def bagRowKey (b k : Nat) : Nat := rowKey (1024 * b + k)

/-- Address and length of the table row of an index. -/
def tableRow (a : Active) (ix : Nat) : Nat × Nat :=
  (field a.bytes 8 8 + ix * field a.bytes 4 2, naturalRow (a.fmt.getD 0) (field a.bytes 6 2))

/-- Issue the row reads of a bag that are not held yet; an index out of range needs none. -/
def issueRows (q i : Nat) (a : Active) (b : Bag) (s : State) : State :=
  forEach ((b.ix.getD []).zipIdx) (fun x s =>
    if field a.bytes 16 4 ≤ x.1.1 then s else
    let (at_, n) := tableRow a x.1.1
    fetchAs a.fmt q i a.index (bagRowKey b.index x.2) at_ n s) s

/-- What the rows of a bag gave: none while one is still on its way. -/
def bagRows (s : State) (q i : Nat) (a : Active) (b : Bag) : Option (List (Nat × Option FVal × Option EngRead)) :=
  let rs := (b.ix.getD []).zipIdx.map fun x =>
    if field a.bytes 16 4 ≤ x.1.1 then some (x.1.1, x.1.2, none) else
    let (at_, n) := tableRow a x.1.1
    (fetched s q i a.index (bagRowKey b.index x.2) at_ n).map fun r => (x.1.1, x.1.2, some r)
  if rs.any (·.isNone) then none else some (rs.filterMap id)

/-- Reads that a bag holds are held no longer. -/
def dropBagRows (q i idx b : Nat) (s : State) : State :=
  dropFetches q i (fun f => f.idx = idx && decide (bagRowKey b 0 ≤ f.key) && decide (f.key < bagRowKey (b + 1) 0)) s

/-- Every row of a bag is there: the quadrants that received rows make their partials (R275, R277). -/
def makePartials (q i : Nat) (a : Active) (b : Bag) (rs : List (Nat × Option FVal × Option EngRead)) (s : State) : State :=
  let e := field a.bytes 6 2
  let fmt := a.fmt.getD 0
  let errs := rs.map fun x => match x.2.2 with
    | none => 5
    | some r => r.err
  let poison := rs.any fun x => match x.2.2 with
    | none => true
    | some r => r.poison || r.err ≠ 0
  let value := fun (w : Option FVal) (r : EngRead) =>
    let v := (widenRow fmt e r.bytes).map toF32
    match w with
    | some w => v.map (f32Mul w)
    | none => v
  let quad := fun (ix : Nat) =>
    let at_ := (tableRow a ix).1
    let en := curEntry s (at_ / 2 ^ 22)
    quadOf (granuleAt s en.place en.fostered at_).gch
  let rows := if poison then [] else rs.filterMap fun x => x.2.2.map fun r => (quad x.1, value x.2.1 r)
  let pool := field a.bytes 2 1
  let parts := (List.range 4).filterMap fun k =>
    let mine := (rows.filter (·.1 == k)).map (·.2)
    if mine.isEmpty then none else some (k, mine.length, partialOf pool (s.draw + k) mine)
  let s := match errs.find? (· ≠ 0) with
    | some err => failDesc q i a.index err s
    | none => s
  let s := dropBagRows q i a.index b.index { s with draw := s.draw + 5 }
  updBag q i a.index b.index (fun y => { y with ready := true, partials := parts, count := rs.length, poisoned := poison }) s

/-- A bag without rows is ready: an empty one, or one whose row is written poisoned. -/
def readyBag (q i idx b : Nat) (poisoned : Bool) (s : State) : State :=
  updBag q i idx b (fun y => { y with ix := some [], ready := true, poisoned := poisoned }) s

/-- A bag's indices and weights are there: its row reads go out. Array sectors that no later bag needs are held no longer. -/
def takeIndices (q i : Nat) (a : Active) (b lo hi : Nat) (ri rw_ : EngRead) (s : State) : State :=
  let wa := field a.bytes 40 8
  let ix := (List.range (hi - lo)).map fun k =>
    (field ri.bytes (4 * k) 4, if wa = 0 then none else some (decodeFloat 1 fp32 (field rw_.bytes (4 * k) 4)))
  let past := fun (base : Nat) (f : Fetch) => decide (f.addr + f.len ≤ (base + 4 * hi) / 32 * 32)
  let s := dropFetches q i (fun f => f.idx = a.index &&
    ((f.key = indexKey && past (field a.bytes 32 8) f) || (f.key = weightKey && past wa f))) s
  if ri.err ≠ 0 || rw_.err ≠ 0 then stopDesc q i a.index (if ri.err ≠ 0 then ri.err else rw_.err) s
  else if ri.poison || rw_.poison then readyBag q i a.index b true (failDesc q i a.index 0xD s)
  else
    let s := updBag q i a.index b (fun y => { y with ix := some ix }) s
    issueRows q i a { index := b, ix := some ix } s

/-- The control reads of a bag, one bag at a time: its offsets, then its indices and weights (R274, R277). -/
def bagControl (q i : Nat) (a : Active) (b : Nat) (s : State) : State :=
  let oa := field a.bytes 24 8
  let ia := field a.bytes 32 8
  let wa := field a.bytes 40 8
  match fetched s q i a.index offsetKey (oa + 4 * b) 8 with
  | none => fetchArray q i a.index offsetKey (oa + 4 * b) 8 s
  | some ro =>
    let lo := field ro.bytes 0 4
    let hi := field ro.bytes 4 4
    let n := hi - lo
    let past := fun (s : State) => dropFetches q i (fun f => f.idx = a.index && f.key = offsetKey
      && decide (f.addr + f.len ≤ (oa + 4 * (b + 1)) / 32 * 32)) s
    if ro.err ≠ 0 then stopDesc q i a.index ro.err s
    else if ro.poison then readyBag q i a.index b true (failDesc q i a.index 0xD (past s))
    else if hi < lo then stopDesc q i a.index 1 s
    else if 512 < n then readyBag q i a.index b true (failDesc q i a.index 6 (past s))
    else if n = 0 then readyBag q i a.index b false (past s)
    else
      let rw_ := if wa = 0 then some {} else fetched s q i a.index weightKey (wa + 4 * lo) (4 * n)
      match fetched s q i a.index indexKey (ia + 4 * lo) (4 * n), rw_ with
      | some ri, some rw_ => takeIndices q i a b lo hi ri rw_ (past s)
      | _, _ =>
        let s := fetchArray q i a.index indexKey (ia + 4 * lo) (4 * n) s
        if wa = 0 then s else fetchArray q i a.index weightKey (wa + 4 * lo) (4 * n) s

/-- One step of a Hamper descriptor: a bag whose rows are all there makes its partials; else row reads that wait for the tracker go
out, and the bag whose control is read goes on, or the next bag starts (R275). -/
def hamperStep (q i : Nat) (a : Active) (s : State) : State :=
  let reading := a.bags.filter fun b => !b.ready && b.ix.isSome
  match reading.findSome? fun b => (bagRows s q i a b).map fun rs => (b, rs) with
  | some (b, rs) => makePartials q i a b rs s
  | none =>
    let s := forEach reading (issueRows q i a) s
    match a.bags.find? fun b => !b.ready && b.ix.isNone with
    | some b => bagControl q i a b.index s
    | none =>
      if field a.bytes 20 4 ≤ a.nextBag || 256 ≤ bagsInFlight s then s else
      bagControl q i a a.nextBag
        (updActive q i a.index (fun x => { x with bags := x.bags ++ [{ index := a.nextBag }], nextBag := x.nextBag + 1 }) s)

/-- HAMPER_DESCRIPTOR (R274, R275): one step; a bag that a reset discarded reads its rows again. -/
def execHamperDescriptor (q : Fin 4) (slot index : Nat) (s : State) : Answered :=
  whenReleased s fun s =>
    match activeAt s q slot index with
    | none => s
    | some (o, a) =>
      if !engineRuns s q || o.silent || field a.bytes 0 1 ≠ 1 then s else pumpDue (hamperStep q slot a s)

/-- A bag's pooled values from its partials, merged in an order that is not fixed (R274 to R276). -/
def poolBag (pool draw : Nat) (b : Bag) : List FVal :=
  let v := (sortBy (fun x => Config.orderKey draw x.1) b.partials).foldl (fun acc x => addRow pool acc x.2.2) []
  if pool = 1 then v.map (f32DivNat · b.count) else v

/-- A row that is written must lie in one segment (R268). -/
def rowInSegment (a n : Nat) : Bool := a / 2 ^ 22 == (a + n - 1) / 2 ^ 22

/-- The merge unit writes a bag's output row through entry 45 (R275). -/
def mergeBag (q : Fin 4) (slot index : Nat) (a : Active) (b : Bag) (s : State) : State :=
  let bs := a.bytes
  let out := field bs 3 1
  let e := field bs 6 2
  let n := outputRow out e
  let at_ := field bs 48 8 + b.index * field bs 56 4
  let r := (roundingOf (field bs 60 1)).getD ⟨false, false⟩
  let v := if b.count = 0 then List.replicate e (FVal.fin false 0) else poolBag (field bs 2 1) s.draw b
  let (row, g) := narrowRow out r (nth a.rng 4 1) v
  let s := { s with draw := s.draw + 1 }
  let s := updActive q slot index (fun x =>
    { x with bags := x.bags.filter (·.index != b.index), rng := x.rng.set 4 (if b.poisoned then nth x.rng 4 1 else g) }) s
  let s := if !rowInSegment at_ n then failDesc q slot index 1 s else
    addDue q slot index { entry := 45, addr := at_, stream := 0, data := if b.poisoned then List.replicate n 0 else row, poison := b.poisoned,
                          fmt := some out }
      (if b.poisoned then updOuting q slot (fun o => { o with poisoned := o.poisoned + 1 }) s else s)
  match activeAt s q slot index with
  | some (_, x) => if x.bags.isEmpty && decide (field bs 20 4 ≤ x.nextBag) then endDesc q slot index s else s
  | none => s

/-- BAG_MERGE (R275): the merge unit writes the output row of a bag whose partials are there. -/
def execBagMerge (q : Fin 4) (slot index bag : Nat) (s : State) : Answered :=
  whenReleased s fun s =>
    match activeAt s q slot index with
    | none => s
    | some (o, a) => match a.bags.find? fun b => b.index == bag && b.ready with
      | none => s
      | some b => if !engineRuns s q || o.silent || 1024 ≤ mergeInFlight s then s else pumpDue (mergeBag q slot index a b s)

/-! ### Rambler (R278 to R282) -/

/-- Walks that run in a quadrant. -/
def walksActive (s : State) (q : Nat) : Nat :=
  total ((s.engines.outings.filter (·.1.1 == q)).map fun o => (o.2.active.filter fun a => !a.ended && a.walk.isSome).length)

def updWalk (q i idx : Nat) (f : Walk → Walk) (s : State) : State := updActive q i idx (fun a => { a with walk := a.walk.map f }) s

/-- Output token bytes of a walk (R279). -/
def tokenBytes (bs : Bytes) : Nat := if field bs 2 1 = 0 then field bs 4 2 else outputRow (field bs 2 1) (field bs 6 2)

/-- The walk fails: it takes no further token, and ends after those it has taken (R279, R282). -/
def stopWalk (q i idx err : Nat) (s : State) : State := updWalk q i idx (fun w => { w with stop := err }) (failDesc q i idx err s)

/-- The walk fails at the ring: nothing more is written to it. -/
def cutWalk (q i idx err : Nat) (s : State) : State :=
  updWalk q i idx (fun w => { w with stop := err, finished := true, ahead := [], rest := [], polling := false }) (failDesc q i idx err s)

/-- The stream position that marks a write of the produced word. -/
def wordStream : Nat := 2 ^ 64

/-- Write the produced word. -/
def writeProduced (q i : Nat) (a : Active) (p : Nat) (s : State) : State :=
  addDue q i a.index { entry := 40 + q, addr := field a.bytes 40 8, stream := wordStream, data := leBytes 8 p }
    (updWalk q i a.index (fun w => { w with produced := p }) s)

/-- The walk reads C (R280). -/
def readConsumed (q i : Nat) (a : Active) (s : State) : State :=
  if !trackerRoom s q then s else
  updWalk q i a.index (fun w => { w with polling := true, polledAt := quadTime s q })
    (fetch q i a.index consumedKey (field a.bytes 48 8) 8 (dropFetches q i (fun f => f.idx = a.index && f.key = consumedKey) s))

/-- C has come, and is judged (R280). -/
def takeConsumed (q i : Nat) (a : Active) (w : Walk) (s : State) : State :=
  match (fetched s q i a.index consumedKey (field a.bytes 48 8) 8).filter fun _ => w.polling with
  | none => s
  | some r =>
    let c := leNat r.bytes
    if r.err ≠ 0 then cutWalk q i a.index r.err s
    else if c < w.consumed || w.produced < c then cutWalk q i a.index 0xC s
    else updWalk q i a.index (fun w => { w with polling := false, consumed := c, blocked := w.blocked && decide (c = w.consumed) }) s

/-- Source bytes of a token. -/
def sourceBytes (a : Active) (fmt : Nat) : Nat := if field a.bytes 2 1 = 0 then field a.bytes 4 2 else naturalRow fmt (field a.bytes 6 2)

/-- The next token of a walk: its page list entry, once read, names its source row. The tag of the first token's segment is the
operand's (R269). With an output format of 0 no tag is asked of the ring's segment (DESIGN CHOICE, assumption 123). -/
def takeToken (q i : Nat) (a : Active) (w : Walk) (src : Nat) (last : Bool) (s : State) : State :=
  let out := field a.bytes 2 1
  let e := field a.bytes 6 2
  let fmt := a.fmt.getD (tagAt s src)
  let form := if out = 0 then 0 else
    leastError [check (converts fmt out) 4, check (decide (naturalRow fmt e ≤ field a.bytes 4 2) && elemsFit fmt out e) 1]
  let len := sourceBytes a fmt
  if tagAt s src ≠ fmt then stopWalk q i a.index 4 s
  else if form ≠ 0 then stopWalk q i a.index form s
  else
    let s := updActive q i a.index (fun x => { x with fmt := some fmt }) s
    let s := updWalk q i a.index (fun w => { w with
      ahead := w.ahead ++ [{ number := w.taken, src := src, len := len }], taken := w.taken + 1,
      entry := if last then w.entry + 1 else w.entry, token := if last then 0 else w.token + 1 }) s
    fetchAs (some fmt) q i a.index (rowKey w.taken) src len s

/-- The page list is read ahead in blocks of 4 KiB: the block of the next entry and the one behind it (R281; DESIGN CHOICE, assumption
121). -/
def readPages (q i : Nat) (a : Active) (at_ : Nat) (s : State) : State :=
  let lo := field a.bytes 8 8
  let hi := lo + 8 * field a.bytes 16 4
  let from_ := Nat.max lo (at_ / 4096 * 4096)
  let s := dropFetches q i (fun f => f.idx = a.index && f.key = pageKey && decide (f.addr + f.len ≤ at_)) s
  fetch q i a.index pageKey from_ (Nat.min hi (at_ / 4096 * 4096 + 8192) - from_) s

/-- The walk takes its next token, or passes an entry. -/
def nextToken (q i : Nat) (a : Active) (w : Walk) (s : State) : State :=
  let bs := a.bytes
  let idx := a.index
  let at_ := field bs 8 8 + 8 * w.entry
  let s := readPages q i a at_ s
  match fetched s q i idx pageKey at_ 8 with
  | none => s
  | some r =>
    let v := leNat r.bytes
    let page := bits v 40 0
    let n := bits v 51 48 + 1
    if r.err ≠ 0 then stopWalk q i idx r.err s
    else if r.poison then stopWalk q i idx 0xD s
    else if bits v 47 41 ≠ 0 || bits v 62 52 ≠ 0 || page % 32 ≠ 0 then stopWalk q i idx 7 s
    else if bit v 63 then updWalk q i idx (fun w => { w with entry := w.entry + 1, token := 0 }) s
    else if !rowInSegment page (n * field bs 4 2) then stopWalk q i idx 1 s
    else takeToken q i a w (page + w.token * field bs 4 2) (decide (n ≤ w.token + 1)) s

/-- A token whose source has come is converted (R279, R282): a failed read fails the descriptor, and its token is written poisoned. -/
def convertToken (q i : Nat) (a : Active) (t : Token) (r : EngRead) (s : State) : State :=
  let bs := a.bytes
  let out := field bs 2 1
  let bad := r.poison || r.err ≠ 0
  let rnd := (roundingOf (field bs 3 1)).getD ⟨false, false⟩
  let (data, g) := if bad then (List.replicate (tokenBytes bs) 0, nth a.rng q 1)
    else if out = 0 then (r.bytes, nth a.rng q 1) else convertRow (a.fmt.getD 0) out (field bs 6 2) rnd (nth a.rng q 1) r.bytes
  let s := if r.err = 0 then s else failDesc q i a.index r.err s
  let s := updActive q i a.index (fun y => { y with rng := y.rng.set q g }) (dropFetches q i (fun f => f.idx = a.index && f.key = rowKey t.number) s)
  updWalk q i a.index (fun w => { w with ahead := w.ahead.map fun y => if y.number = t.number then { y with out := some (data, bad) } else y }) s

/-- The token of a walk that converts next: rows draw in an order that is not fixed (R272, R276), that of the drawn keys. -/
def tokenReady (s : State) (q i : Nat) (a : Active) (w : Walk) : Option (Token × EngRead) :=
  ((sortBy (fun t => Config.orderKey s.draw t.number) w.ahead).filter (·.out.isNone)).findSome? fun t =>
    (fetched s q i a.index (rowKey t.number) t.src t.len).map fun r => (t, r)

/-- Bytes of the token at the ring that may be written now: poisoned ones by whole sectors. -/
def ringRoom (a : Active) (w : Walk) : Nat :=
  let flow := field a.bytes 48 8 ≠ 0
  let n := Nat.min w.rest.length ((if flow then w.consumed + field a.bytes 32 4 else field a.bytes 32 4) - w.stream)
  if w.poison then n - (w.stream + n) % 32 else n

/-- Write what may be written of the token at the ring, in two writes where the ring wraps. -/
def writeRing (q i : Nat) (a : Active) (w : Walk) (n : Nat) (s : State) : State :=
  let ring := field a.bytes 32 4
  let base := field a.bytes 24 8
  let out := field a.bytes 2 1
  let o := w.stream % ring
  let k := Nat.min n (ring - o)
  let put := fun (addr x : Nat) (data : Bytes) (s : State) =>
    addDue q i a.index { entry := 40 + q, addr := addr, stream := x, data := data, poison := w.poison,
                         fmt := if out = 0 then none else some out } s
  let s := updWalk q i a.index (fun w => { w with stream := w.stream + n, rest := w.rest.drop n, blocked := false }) s
  put base (w.stream + k) ((w.rest.take n).drop k) (put (base + o) w.stream (w.rest.take k) s)

/-- The token at the ring goes on, or waits for C; without a consumed word nothing passes the ring's length (R280). -/
def ringStep (q i : Nat) (a : Active) (w : Walk) (s : State) : State :=
  let n := ringRoom a w
  if n ≠ 0 then writeRing q i a w n s
  else if field a.bytes 48 8 = 0 then cutWalk q i a.index 0xC s
  else if w.blocked then s
  else updWalk q i a.index (fun w => { w with blocked := true }) (updActive q i a.index (fun y => { y with progress := quadTime s q }) s)

/-- No further token is taken. -/
def walkSpent (a : Active) (w : Walk) : Bool := w.stop ≠ 0 || decide (field a.bytes 20 4 ≤ w.taken) || decide (field a.bytes 16 4 ≤ w.entry)

/-- One step of a walk: bytes at the ring, then the next token to it, then a conversion, then the next token of the list; at most 4
tokens are ahead (DESIGN CHOICE, assumption 121), within the 1 MiB of R281. -/
def walkStep (q i : Nat) (a : Active) (w : Walk) (s : State) : State :=
  let s := forEach (w.ahead.filter (·.out.isNone)) (fun t s => fetchAs a.fmt q i a.index (rowKey t.number) t.src t.len s) s
  if !w.rest.isEmpty then ringStep q i a w s
  else match w.ahead.head?.bind (·.out) with
  | some (data, bad) =>
    let s := if bad then updOuting q i (fun o => { o with poisoned := o.poisoned + 1 }) s else s
    updWalk q i a.index (fun w => { w with rest := data, poison := bad, ahead := w.ahead.drop 1 }) s
  | none => match tokenReady s q i a w with
    | some (t, r) => convertToken q i a t r { s with draw := s.draw + 1 }
    | none =>
      if walkSpent a w then (if w.ahead.isEmpty then updWalk q i a.index (fun w => { w with finished := true }) s else s)
      else if 4 ≤ w.ahead.length then s else nextToken q i a w s

/-- The walk begins: P = 0, and C is read. -/
def beginWalk (q i : Nat) (a : Active) (s : State) : State :=
  let s := writeProduced q i a 0 (updWalk q i a.index (fun w => { w with begun := true }) s)
  if field a.bytes 48 8 = 0 then s else readConsumed q i a s

/-- RAMBLER_DESCRIPTOR (R279): the walk takes a slot, begins, then makes one step; it writes nothing to the ring before C has come. -/
def execRamblerDescriptor (q : Fin 4) (slot index : Nat) (s : State) : Answered :=
  whenReleased s fun s =>
    match activeAt s q slot index with
    | none => s
    | some (o, a) =>
      if !engineRuns s q || o.silent || field a.bytes 0 1 ≠ 2 then s else
      match a.walk with
      | none => if 64 ≤ walksActive s q then s else updActive q slot index (fun x => { x with walk := some {} }) s
      | some w => pumpDue (
        if w.finished then s
        else if !w.begun then (if trackerRoom s q then beginWalk q slot a s else s)
        else if w.polling then takeConsumed q slot a w s
        else walkStep q slot a w s)

/-- Stream bytes below which every write of a walk is visible. -/
def visibleStream (a : Active) (w : Walk) : Nat :=
  ((a.writes.map (·.2) ++ a.due.map (·.stream)).filter (· < wordStream)).foldl Nat.min w.stream

/-- P for the next chunk that is visible, and at the walk's end for its total (R280). -/
def produceStep (q i : Nat) (a : Active) (w : Walk) (s : State) : State :=
  let chunk := field a.bytes 36 4
  let v := visibleStream a w
  if w.produced + chunk ≤ v then
    let s := writeProduced q i a (w.produced + chunk) s
    if w.finished && w.produced + chunk = w.stream then endDesc q i a.index s else s
  else if w.finished && v = w.stream then
    endDesc q i a.index (if w.produced = w.stream then s else writeProduced q i a w.stream s)
  else s

/-- PRODUCED_WORD_UPDATE (R280). -/
def execProducedWordUpdate (q : Fin 4) (slot index : Nat) (s : State) : Answered :=
  whenReleased s fun s =>
    match activeAt s q slot index with
    | none => s
    | some (o, a) => match a.walk with
      | none => s
      | some w => if !w.begun || o.silent || !engineRuns s q then s else pumpDue (produceStep q slot a w s)

/-- CONSUMED_WORD_POLL (R280): a blocked walk reads C again, at most once per 1 µs of quadrant time; C that has come is taken. -/
def execConsumedWordPoll (q : Fin 4) (slot index : Nat) (s : State) : Answered :=
  whenReleased s fun s =>
    match activeAt s q slot index with
    | none => s
    | some (o, a) => match a.walk with
      | none => s
      | some w =>
        if !w.blocked || w.finished || o.silent || !engineRuns s q then s
        else if w.polling then takeConsumed q slot a w s
        else if quadTime s q < w.polledAt + 1000 then s else readConsumed q slot a s

/-! ### Transcode copy and block check (R283 to R285) -/

/-- Source and destination of a row of a Transcode Copy, with their lengths. -/
def transcodeSource (a : Active) (r : Nat) : Nat × Nat :=
  (field a.bytes 8 8 + r * field a.bytes 28 4, naturalRow (a.fmt.getD 0) (field a.bytes 4 2))
def transcodeDest (a : Active) (r : Nat) : Nat × Nat :=
  (field a.bytes 16 8 + r * field a.bytes 32 4, outputRow (field a.bytes 2 1) (field a.bytes 4 2))

/-- A row of a Transcode Copy has come: it is converted and written, or its error ends the descriptor (R284). -/
def transcodeRow (q : Fin 4) (slot : Nat) (a : Active) (row : Nat) (r : EngRead) (s : State) : State :=
  let bs := a.bytes
  let (dst, n) := transcodeDest a row
  let err := leastError [r.err, check (rowInSegment dst n) 1]
  if err ≠ 0 then stopDesc q slot a.index err s else
  let rnd := (roundingOf (field bs 3 1)).getD ⟨false, false⟩
  let (out, g) := if r.poison then (List.replicate n 0, nth a.rng q 1)
    else convertRow (a.fmt.getD 0) (field bs 2 1) (field bs 4 2) rnd (nth a.rng q 1) r.bytes
  let s := dropFetches q slot (fun f => f.idx = a.index && f.key = rowKey row) s
  let s := if r.poison then updOuting q slot (fun o => { o with poisoned := o.poisoned + 1 }) s else s
  let s := updActive q slot a.index (fun x => { x with rows := x.rows.filter (· ≠ row), rng := x.rng.set q g }) s
  let s := addDue q slot a.index { entry := 40 + q, addr := dst, stream := 0, data := out, poison := r.poison, fmt := some (field bs 2 1) } s
  if field bs 24 4 ≤ a.row && (a.rows.filter (· ≠ row)).isEmpty then endDesc q slot a.index s else s

/-- The row of a Transcode Copy that converts next: rows draw in an order that is not fixed (R272, R276), that of the drawn keys. -/
def rowReady (s : State) (q i : Nat) (a : Active) : Option (Nat × EngRead) :=
  (sortBy (Config.orderKey s.draw) a.rows).findSome? fun r =>
    let (src, n) := transcodeSource a r
    (fetched s q i a.index (rowKey r) src n).map fun x => (r, x)

/-- One step of a Transcode Copy: a row that has come, else the next row is read; at most 4 are ahead (DESIGN CHOICE, assumption
121). -/
def transcodeStep (q : Fin 4) (slot : Nat) (a : Active) (s : State) : State :=
  match rowReady s q slot a with
  | some (row, r) => transcodeRow q slot a row r { s with draw := s.draw + 1 }
  | none =>
    let read := fun (r : Nat) (s : State) => let (src, n) := transcodeSource a r; fetchAs a.fmt q slot a.index (rowKey r) src n s
    let s := forEach a.rows read s
    let (src, n) := transcodeSource a a.row
    if field a.bytes 24 4 ≤ a.row || 4 ≤ a.rows.length then s
    else if !rowInSegment src n then stopDesc q slot a.index 1 s
    else read a.row (updActive q slot a.index (fun x => { x with rows := x.rows ++ [a.row], row := x.row + 1 }) s)

/-- TRANSCODE_COPY_DESCRIPTOR (R284): one step. -/
def execTranscodeCopyDescriptor (q : Fin 4) (slot index : Nat) (s : State) : Answered :=
  whenReleased s fun s =>
    match activeAt s q slot index with
    | none => s
    | some (o, a) =>
      if !engineRuns s q || o.silent || field a.bytes 0 1 ≠ 3 then s else pumpDue (transcodeStep q slot a s)

/-- A block of a Block Check has come: it is compared with its block word, or its error ends the descriptor (R285). The word is read
inside the complex and charged to nobody (DESIGN CHOICE, assumption 122). -/
def checkBlock (q : Fin 4) (slot : Nat) (a : Active) (r : EngRead) (s : State) : State :=
  let bs := a.bytes
  let at_ := field bs 8 8 + a.row * 65536
  let e := curEntry s (at_ / 2 ^ 22)
  let b := at_ % 2 ^ 22 / 65536
  let err := if r.err ≠ 0 then r.err else check e.blockSum 4
  if err ≠ 0 then stopDesc q slot a.index err s else
  let bad := !r.poison && crc32c r.bytes != readBlockWord s e.place b
  let s := dropFetches q slot (fun f => f.idx = a.index) s
  let s := updOuting q slot (fun o => { o with poisoned := o.poisoned + b2n r.poison, mismatch := o.mismatch + b2n bad }) s
  let s := updActive q slot a.index (fun x => { x with row := x.row + 1 }) s
  if bad && bit (field bs 1 1) 0 then stopDesc q slot a.index 0xB s
  else if field bs 16 4 ≤ a.row + 1 then endDesc q slot a.index s else s

/-- BLOCK_CHECK_DESCRIPTOR (R285): one block is read, then compared. -/
def execBlockCheckDescriptor (q : Fin 4) (slot index : Nat) (s : State) : Answered :=
  whenReleased s fun s =>
    match activeAt s q slot index with
    | none => s
    | some (o, a) =>
      let at_ := field a.bytes 8 8 + a.row * 65536
      if !engineRuns s q || o.silent || field a.bytes 0 1 ≠ 4 then s
      else match fetched s q slot index (rowKey a.row) at_ 65536 with
      | none => fetch q slot index (rowKey a.row) at_ 65536 s
      | some r => checkBlock q slot a r s

/-! ### Timeout, completion, cancellation (R261, R293, R294) -/

/-- A descriptor ends by its timeout; a walk that has begun still writes P for what it has written (R280, R293). -/
def timeOut (q i : Nat) (a : Active) (s : State) : State :=
  if (a.walk.map (·.begun)).getD false then cutWalk q i a.index 0xA s else stopDesc q i a.index 0xA s

/-- DESCRIPTOR_TIMEOUT (R293). -/
def execDescriptorTimeout (q : Fin 4) (slot index : Nat) (s : State) : Answered :=
  whenReleased s fun s =>
    match activeAt s q slot index with
    | none => s
    | some (o, a) =>
      let blocked := (a.walk.map (·.blocked)).getD false
      let said := (a.walk.map fun w => w.finished && w.stop == 0xA).getD false
      let limit := (if blocked then a.ringWait else a.timeout) * 1000000
      if quadTime s q < a.progress + limit || o.silent || said then s else
      notify (.med q) 0x8021 1 (leBytes 1 (o.port + 1) ++ leBytes 2 o.tag ++ leBytes 4 index ++ leBytes 1 (if blocked then 2 else 1))
        (timeOut q slot a s)

/-- The completion record (Table 9.2). -/
def completionRecord (o : Outing) (stamp : Nat) : Bytes :=
  [1] ++ leBytes 1 o.outcome ++ leBytes 1 o.firstErr ++ [0] ++ leBytes 4 o.ended ++ leBytes 4 o.firstIdx ++ leBytes 4 o.poisoned
    ++ leBytes 4 o.mismatch ++ leBytes 4 o.failed ++ leBytes 8 o.read ++ leBytes 8 o.written ++ leBytes 8 stamp

/-- An outing is over: its sequencer place is free, its totals and the last failure are kept, and its response is sent, or
discarded with its port's (R261, R294, Table 9.16). -/
def closeOuting (q : Fin 4) (slot : Nat) (o : Outing) (s : State) : State :=
  let rec_ := completionRecord o (quadStamp s q)
  let s := s.onEngines fun g => { g with
    outings := g.outings.filter (·.1 != (q.val, slot)),
    totals := g.totals.modify (if o.silent || o.outcome = 3 then 2 else if o.outcome = 0 then 0 else 1) (· + 1),
    lastFail := if o.firstErr = 0 && o.outcome = 0 then g.lastFail
      else rec_ ++ leBytes 1 (o.port + 1) ++ [0] ++ leBytes 2 o.tag ++ leBytes 4 0 ++ leBytes 8 (hubStamp s) }
  let resp : Resp := { kind := 2, tag := o.tag, data := rec_, corrected := o.corrected, req := some o.req, opcode := 0x20, sectors := 0 }
  let s := updReq o.req (fun r => { r with status := some 0 }) s
  if o.silent then endResponse o.port resp s else respond o.port resp s

/-- A request of an outing is in flight. -/
def outingBusy (s : State) (q i : Nat) : Bool := s.reqs.any fun r => r.port == 5 && r.owner == some (q, i)

/-- Every write of an outing is visible, nothing of it is in flight and nothing is left to do (R261, R294). -/
def outingOver (s : State) (q i : Nat) (o : Outing) : Bool :=
  !outingBusy s q i && (o.silent || (chainOver o && o.active.all Active.over))

/-- OUTING_COMPLETE (R261). -/
def execOutingComplete (q : Fin 4) (slot : Nat) (s : State) : Answered :=
  whenReleased s fun s =>
    match outingAt s q slot with
    | none => s
    | some o => if !outingOver s q slot o then s else wakeHeld o.port (retryHeads (closeOuting q slot o s))

/-- An outing ends with outcome 3 and error 0x0E (R294): what it has issued completes, and nothing more is issued. -/
def Outing.cancel (o : Outing) : Outing :=
  if o.outcome = 3 then o else
  { o with outcome := 3, stopped := true, firstErr := if o.firstErr = 0 then 0xE else o.firstErr, fetches := [],
           active := o.active.map fun a => { a with ended := true, bags := [], walk := none, due := [] } }

/-- The outings of a home quadrant end with outcome 3 (R294): cause 2 quadrant reset, 3 Slate mode. -/
def cancelOutings (q cause : Nat) (s : State) : State :=
  forEach (s.engines.outings.filter fun o => o.1.1 == q && o.2.outcome != 3) (fun o s =>
    let s := updOuting q o.1.2 Outing.cancel s
    if o.2.silent then s
    else notify (.med (Fin.ofNat 4 q)) 0x8020 1 (leBytes 1 (o.2.port + 1) ++ leBytes 2 o.2.tag ++ leBytes 1 q ++ leBytes 1 cause) s) s

/-- A bag has a partial in a quadrant: one made, or rows received there (R275, R294). -/
def bagTouches (s : State) (q home_ i : Nat) (a : Active) (b : Bag) : Bool :=
  if b.ready then b.partials.any (·.1 == q) else
  ((b.ix.getD []).zipIdx).any fun x =>
    let (at_, n) := tableRow a x.1.1
    let en := curEntry s (at_ / 2 ^ 22)
    decide (x.1.1 < field a.bytes 16 4) && quadOf (granuleAt s en.place en.fostered at_).gch == q
      && (fetched s home_ i a.index (bagRowKey b.index x.2) at_ n).isSome

/-- Bags with a partial in a quadrant that resets start again from their first index (R294). -/
def restartBags (q : Nat) (s : State) : State :=
  let runs := s.engines.outings.filter fun o => !o.2.silent && o.2.outcome != 3
  let hits := runs.flatMap fun o => o.2.active.flatMap fun a => (a.bags.filter (bagTouches s q o.1.1 o.1.2 a)).map fun b => (o.1, a.index, b.index)
  if hits.isEmpty then s else
  let s := forEach hits (fun h s => updBag h.1.1 h.1.2 h.2.1 h.2.2 (fun b => { index := b.index, ix := b.ix })
    (dropBagRows h.1.1 h.1.2 h.2.1 h.2.2 s)) s
  notify .hub 0x8022 0 (leBytes 1 q ++ leBytes 2 hits.length) s

end Sys2Proof.Machine
end

