-- ==== Sys2Proof/Machine/Meter.lean ====
section
/-!
DEFINITION. Meters and the thermal model (chapter 12): stack and die power, estimates, thresholds in force, time to limit.
-/
namespace Sys2Proof.Machine

/-! ### Meters (R360 to R362) -/

/-- Sum of rationals. -/
def ratSum (xs : List Rat) : Rat := xs.foldl (· + ·) 0
/-- Mean of the report periods kept: at most the last ten (R362). -/
def mean (xs : List Rat) : Rat := if xs.isEmpty then 0 else ratSum xs / xs.length
/-- Latest report. -/
def latest (xs : List Rat) : Rat := xs.head?.getD 0
/-- A report is kept before the nine latest. -/
def keepTen (x : Rat) (xs : List Rat) : List Rat := (x :: xs).take 10

/-- No route reaches the MED of a quadrant: nothing passes between it and the hub (R452). -/
def cutOff (s : State) (q : Nat) : Bool := isOffline s q && (quadAt s q).offCause == 2

/-- Stacks of the enable mask: the hub models each, by the latest report of its MED (R360, R369). -/
def modelled (s : State) : List Nat := (List.range 32).filter s.variant.enables

/-- Stacks that the governor's levels reach: enabled, and their MED is within reach. -/
def governed (s : State) : List Nat := (List.range 32).filter fun n => s.variant.enables n && !cutOff s (n / 8)

/-- 1 ms average of a stack, W. -/
def stackPower (s : State) (n : Nat) : Rat := mean (heatAt s n).power
/-- 1 ms average of a die, W. -/
def diePower (s : State) (d : Nat) : Rat := mean (nth s.power.die d [])
/-- Metered power of the complex, W: the 1 ms average. -/
def totalPower (s : State) : Rat := ratSum ((List.range 32).map (stackPower s)) + ratSum ((List.range 5).map (diePower s))
/-- Metered power of the complex over the last report period, W. -/
def lastPower (s : State) : Rat :=
  ratSum (s.power.heat.map fun h => latest h.power) + ratSum (s.power.die.map latest)
/-- A power value of an object or notice, mW. -/
def milliwatts (x : Rat) : Nat := (ratFloor (x * 1000)).toNat % 2 ^ 32

/-- Power coefficients of a stack's vendor code: the image's set, else the built-in one (R361). -/
def coefficient (s : State) (n i : Nat) : Rat :=
  let vendor := nth (stackAt s n).words 0 0
  match s.image.power.find? (·.1 == vendor) with
  | some e => nth e.2 i 0
  | none => Config.builtinPower (BitVec.ofNat 16 vendor) i

/-- A stack's temperature in °C. -/
def tempOf (s : State) (n : Nat) : Rat := ((stackAt s n).temp : Rat) / 4

/-- Counts of a stack that its energies multiply (Table 16.1): ACT, NRF, REFPB, read bursts, write bursts. -/
def energyCounts (s : State) (n : Nat) : List Nat :=
  [0x8400, 0x8401, 0x8402, 0x8403, 0x8404].map fun i => counted s i (n + 1)

/-- Command power of a stack over a 100 µs period, W: pJ per ns is mW (R361). -/
def commandPower (s : State) (n : Nat) : Rat :=
  let now := energyCounts s n
  let was := (heatAt s n).counts
  ratSum ((List.range 5).map fun i => coefficient s n i * ((nth now i 0 + 2 ^ 48 - nth was i 0) % 2 ^ 48 : Nat)) / 100000 / 1000

/-- Background power of a stack at its division step and temperature, W (R361, R470). -/
def background (s : State) (n : Nat) : Rat :=
  let k := (heatAt s n).step
  coefficient s n (if k = 1 then 5 else if k = 2 then 6 else 7) + coefficient s n 8 * (tempOf s n - 25)

/-- A stack's report of a period. -/
def reportStack (n : Nat) (s : State) : State :=
  let s := updHeat n (fun h => { h with step := (stackAt s n).step }) s
  let cmd := commandPower s n
  let p := cmd + background s n
  let s := updHeat n (fun h => { h with power := keepTen p h.power, cmd := keepTen cmd h.cmd, counts := energyCounts s n,
                                        period := quadTime s (n / 8) }) s
  s.onPower fun w => { w with energy := w.energy + p / 10 }

/-- Time of the counter of a die. -/
def dieTime (s : State) : Die → Nat
  | .hub => s.clk.hub
  | .med q => quadTime s q

/-- Power of a supply, W: voltage times mean current (R361). -/
def supplyPower (x : Supply) : Rat := ((x.millivolts * x.milliamps : Nat) : Rat) / 1000000

/-- METER_REPORT (R360, R361): the next period of 100 µs of a die's time, with its supplies' voltages and mean currents; the hub
monitors vdd_core only. A MED that no route reaches reports nothing. -/
def execMeterReport (die : Die) (core : Supply) (phyPll : Supply × Supply) (s : State) : Answered :=
  whenReleased s fun s =>
    let (phy, pll) := phyPll
    let d := dieNo die
    let next := nth s.power.dieAt d 0 + 100000
    let silent := match die with
      | .hub => false
      | .med q => cutOff s q
    if dieTime s die < next || silent then s else
    let phyW := supplyPower phy
    let p := supplyPower core + if die = .hub then 0 else phyW + supplyPower pll
    let s := s.onPower fun w => { w with
      dieAt := modNth w.dieAt d fun _ => next,
      die := modNth w.die d (keepTen p),
      currents := modNth w.currents d fun _ => [core.milliamps, phy.milliamps, pll.milliamps],
      phyReady := if (nth w.phy d []).isEmpty || !isReady s then modNth w.phyReady d fun _ => phyW else w.phyReady,
      phy := modNth w.phy d (keepTen phyW),
      energy := w.energy + p / 10 }
    match die with
    | .hub => s
    | .med q => forEach (((List.range 8).map (8 * q.val + ·)).filter s.variant.enables) reportStack s

/-! ### The thermal model (R369 to R373) -/

/-- Thermal parameters of a stack position: 0 tau in ms, 1 theta_s, 2 theta_n. -/
def thermalParam (s : State) (n i : Nat) : Rat :=
  match s.image.thermal[n]? with
  | some ps => nth ps i 0
  | none => Config.builtinThermal n i

/-- tau in ms, 1 to 100. -/
def tau (s : State) (n : Nat) : Rat :=
  let x := thermalParam s n 0
  if x < 1 then 1 else if 100 < x then 100 else x

/-- Latest metered power of a neighbour; none beyond the quadrant's edge (R369). -/
def neighbour (s : State) (n : Nat) (right : Bool) : Rat :=
  if right then (if n % 8 = 7 then 0 else latest (heatAt s (n + 1)).power)
  else (if n % 8 = 0 then 0 else latest (heatAt s (n - 1)).power)

/-- Temperature a stack's model tends to. -/
def target (s : State) (n : Nat) : Rat :=
  (heatAt s n).amb + thermalParam s n 1 * latest (heatAt s n).power
    + thermalParam s n 2 * (neighbour s n false + neighbour s n true)

/-- The estimate a governor step leaves. -/
def nextEst (s : State) (n : Nat) : Rat := let e := (heatAt s n).est; e + (target s n - e) * (1 / 10) / tau s n

/-- A stack's readouts have failed under R144. -/
def readoutsFailed (s : State) (n : Nat) : Bool := decide (3 ≤ (stackAt s n).failed)

/-- Degrees by which a stack's thresholds lie below their objects (R372, R373). -/
def lowered (s : State) (n : Nat) : Rat := if (heatAt s n).diverged || readoutsFailed s n then 3 else 0

/-- Throttle and shutdown thresholds in force for a stack. -/
def throttleAt (s : State) (n : Nat) : Rat := s.power.thresholds.1 - lowered s n
def shutdownAt (s : State) (n : Nat) : Rat := s.power.thresholds.2 - lowered s n

/-- The higher of estimate and latest readout (R374). -/
def hotter (s : State) (n : Nat) : Rat :=
  let e := (heatAt s n).est
  if e < tempOf s n then tempOf s n else e

/-- Time to limit in ms; none when the target does not pass the limit (R371). -/
def timeToLimit (s : State) (n : Nat) (limit : Rat) : Option Rat :=
  let e := (heatAt s n).est
  let t := target s n
  if limit ≤ e then some 0
  else if t ≤ limit then none
  else some (tau s n * Config.ln ((t - e) / (t - limit)))

/-- A temperature in units of 0.25 °C. -/
def quarters (x : Rat) : Int := ratFloor (x * 4)

end Sys2Proof.Machine
end

