-- ==== Sys2Proof/Machine/Shutdown.lean ====
section
/-!
DEFINITION. Self-refresh of a slot (R159), shutdown of the complex and its resume (R382 to R387).
-/
namespace Sys2Proof.Machine

/-- What a command that always goes on leaves. -/
def leaves (o : Answered) (s : State) : State :=
  match o with
  | .next t => t
  | _ => s

/-! ### Self-refresh (R159) -/

/-- Accumulators flushed, PREA, every owed REFPB, SRE once every bank is ready (R137, R159). -/
def enterSelfRefresh (c : Nat) (s : State) : State :=
  if (chanAt s c).selfRefresh then s else sendNow c .sre (issueOwed c 1 (prechargeAll c (flushAccums c s)))

/-- SRX; after tXS refresh restarts with every bank's count at 0, and a division step changed meanwhile is written. Without its
reference, and while the complex is shut down, a slot stays in self-refresh (R385, R450). -/
def leaveSelfRefresh (c : Nat) (s : State) : State :=
  if !(chanAt s c).selfRefresh || nth s.clk.lost (quadOfSlot c + 1) false || s.power.shutdown = 3 || s.power.shutdown = 4 then s else
  updChan c (fun x => { x with refBase := x.slot, banks := x.banks.map fun e => (e.1, { e.2 with owed := 0 }) })
    (forEach [(8, tRL s (stackOf c)), (9, tWL s (stackOf c)), (10, dividerWord (stackAt s (stackOf c)).step)]
      (fun w s => if swAt s c w.1 == w.2 then s else sendNow c (.sww w.1 w.2) s) (sendNow c .srx s))

/-- Live and good spare slots of the enabled stacks of a quadrant. -/
def quadSlots (s : State) (q : Nat) : List Nat :=
  (((List.range 8).map (8 * q + ·)).filter fun n => s.variant.enables n && (stackAt s n).qualified).flatMap (stackSlots s)

/-! ### Work carried out at once (R383) -/

/-- Internal entries of the tree enter their channels' queues. -/
def enterInternal (s : State) : State :=
  let us := s.tree.units.filter fun u => !u.sects.isEmpty
  forEach us enterSects (onUnits (·.filter fun u => u.sects.isEmpty) s)

/-- A controller's queued writes are stored in their order, and nothing of it is under way. -/
def settleQueue (c : Nat) (s : State) : State :=
  match channelOf s c with
  | none => s
  | some g =>
    let s := flushAccums c s
    let s := updChan c (fun x => { x with reads := [], units := [], bursts := [] }) s
    let ws := sortBy (·.seq) (chanAt s c).writes
    let cells := (ws.map fun e => (e.bank, e.row, e.slot)).eraseDups
    forEach cells (fun x s =>
      let want := (ws.filter fun e => e.bank == x.1 && e.row == x.2.1).map (·.strength)
      storeSector ⟨c, g, x.1, x.2.1⟩ x.2.2 (want.foldl Nat.max 0) (fun v => v) s) s

/-- Every part of a request that has not taken effect takes it now; the members of a locked sequence together. -/
def runRequest (id : Nat) (s : State) : State :=
  match reqAt s id with
  | none => s
  | some r =>
    let ids := if r.locked.isEmpty then [id] else r.locked
    forEach ids (fun m s => match reqAt s m with
      | some x => forEach (x.parts.filter fun p => p.stage ≠ .done) (fun p s => runPart m p.n s) s
      | none => s) s

/-- A request that touches no memory and is not yet released: Collective declare, Replica release, Outing start. -/
def runSimple (r : Req) (s : State) : State :=
  if r.status.isSome then s
  else if r.op = .declare then
    let s := updPort r.port (fun d => { d with collective := r.r.opField.toNat * 2 ^ 20 }) s
    respond r.port (emptyDone r) (updReq r.id (fun q => { q with status := some 0 }) s)
  else if r.op = .release then respond r.port (emptyDone r) (updReq r.id (fun q => { q with status := some 0 }) s)
  else if r.op = .outing && r.owner.isNone then
    let q := bits r.r.opField.toNat 1 0
    let rec_ := completionRecord ({ req := r.id, port := r.port, tag := r.r.tag.toNat, domain := 0 } : Outing).cancel (quadStamp s q)
    let s := s.onEngines fun g => { g with totals := g.totals.modify 2 (· + 1) }
    respond r.port { kind := 2, tag := r.r.tag.toNat, data := rec_, req := some r.id, opcode := 0x20 }
      (updReq r.id (fun q => { q with status := some 0 }) s)
  else s

/-- Answers that the finished work permits: visible writes and flushes, fences, outings. -/
def answerAll (s : State) : State :=
  let s := forEach (s.reqs.map (·.id)) (fun id s => leaves (execBasketFlushVisible id s) (leaves (execVisibilityPoint id s) s)) s
  let s := forEach (s.engines.outings.map (·.1)) (fun o s => leaves (execOutingComplete (Fin.ofNat 4 o.1) o.2 s) s) s
  forEach (s.reqs.filter fun r => r.op = .fence || r.op = .fullFence) (fun f s =>
    if f.port < 5 then leaves (execFenceComplete (Fin.ofNat 5 f.port) f.r.tag s) s else s) s

/-- Responses of a port leave while its credits cover them. -/
def sendAll (p : Nat) (s : State) : State :=
  forEach (portAt s p).resps (fun _ s => if (portAt s p).mute || !(portAt s p).up || (portAt s p).resps.isEmpty then s else sendOldest p s) s

/-- Accepted requests are executed and answered: gates, charges and reservations do not hold them (R383). -/
def finishWork (s : State) : State :=
  let s := forEach (List.range 5) (fun p s => dropAssembly p (drainInbox p s)) s
  let s := s.onEngines fun g => { g with outings := g.outings.map fun o => (o.1, o.2.cancel) }
  let s := flushWhere false (fun _ => true) s
  let s := enterInternal (enterInternal s)
  let s := forEach (s.chans.map (·.1)) settleQueue s
  let s := onUnits (fun _ => []) (s.onReg fun r => { r with entries := r.entries.map fun e => { e with queue := [] } })
  let s := s.onReqs (·.map fun r => { r with released := true, held := false, debts := 0 })
  let s := (s.onPorts (·.map fun d => { d with sweeps := [] })).onEng fun d => { d with sweeps := [] }
  let s := forEach (s.reqs.map (·.id)) runRequest s
  let s := forEach s.reqs runSimple s
  let turn := fun (s : State) => forEach (List.range 5) sendAll (answerAll s)
  turn (turn (turn s))

/-- Client requests without an answer. -/
def unanswered (s : State) : Nat := (s.reqs.filter fun r => decide (r.port < 5) && r.op ≠ .flush && r.status.isNone).length

/-- A link goes down: its requests and responses are gone, its tags are free, and FP's takes every sharer mask with it (R319). -/
def linkDown (p : Nat) (s : State) : State :=
  let s := s.onReqs (·.filter fun r => r.port != p)
  let s := if p = 4 && (portAt s p).up && !(portAt s p).inReset then clearSharers 1 s else s
  let s := updPort p (fun d => { freshSide [] d with up := false, trained := false }) s
  updLink (portGroup p) (fun g => { g with live := 0, retrain := 0, due := [], failing := [] }) s

/-! ### Shutdown (R382 to R387) -/

/-- What triggers a shutdown: cause of R382, source code and temperature of Table 12.6; whether only immediate shutdown will
do, and whether the model predicts the source too hot within 2 ms. -/
structure Trigger where
  cause  : Nat
  source : Nat := 0xFF
  temp   : Int := 0
  force  : Bool := false
  soon   : Bool := false

/-- The shutdown entry's body (Table 12.6). -/
def shutdownBody (t : Trigger) (immediate : Bool) (s : State) (duration abandoned : Nat) : Bytes :=
  let thermal := ((List.range 32).map (thermalLevel s)).foldl Nat.max 0
  leBytes 1 t.cause ++ leBytes 1 (b2n immediate) ++ leBytes 1 t.source ++ [0] ++ i32Bytes t.temp
    ++ leBytes 4 (milliwatts (totalPower s)) ++ leBytes 2 s.power.envelope ++ leBytes 1 s.power.level ++ leBytes 1 thermal
    ++ leBytes 4 duration ++ leBytes 4 abandoned ++ leBytes 1 (b2n (s.power.heat.any (·.flask.isSome))) ++ [0, 0, 0]

/-- The shutdown record goes to the writer before any other NOR write (R383 step 5). -/
def recordShutdown (body : Bytes) (s : State) : State :=
  if s.nor.present then s.onNor fun n => { n with waiting := (false, 0x83, body, journalStamp s) :: n.waiting } else s

/-- Orderly shutdown (Table 12.5). -/
def orderly (s : State) : State × Nat :=
  let s := finishWork s
  let left := unanswered s
  let s := forEach (List.range 4) (fun q s => forEach (quadSlots s q) enterSelfRefresh s) s
  let s := forEach (List.range 5) linkDown s
  let s := (s.onReqs fun _ => []).onEngines fun g => { g with outings := [] }
  (s.onPower fun w => { w with shutdown := 3 }, left)

/-- Immediate shutdown (R384). -/
def immediate (s : State) : State × Nat :=
  let left := unanswered s
  let s := forEach (List.range 5) linkDown s
  let s := (s.onReqs fun _ => []).onEngines fun g => { g with outings := [] }
  let s := onUnits (fun _ => []) (s.onReg fun r => { r with entries := r.entries.map fun e => { e with queue := [] } })
  let s := s.onFabric fun f => { f with lines := [] }
  let s := s.onChans (·.map fun e => (e.1, { e.2 with reads := [], writes := [], units := [], accums := [], bursts := [] }))
  let s := s.onStk (·.map fun t => { t with running := false })
  (s.onPower fun w => { w with shutdown := 4 }, left)

/-- A cause of R382 triggers shutdown of the complex, in the mode that R382 selects. -/
def triggerShutdown (t : Trigger) (s : State) : State :=
  if s.power.shutdown ≠ 0 && s.power.shutdown ≠ 5 then s else
  let imm := t.force || objGet s 0x6030 0 = 1 || (t.soon && (t.cause = 1 || t.cause = 5))
  let (d, s) := drawUpTo 2000000 s
  let at_ := s
  let s := stopTests (fun _ => true) 2 s
  let (s, left) := if imm then immediate s else orderly s
  let body := shutdownBody t imm at_ d left
  let s := recordShutdown body s
  let s := if imm then s else ledger 0x09 [] s
  raiseBut 0 { code := 0x6030, severity := 3, stamp := hubStamp s, payload := body } s

/-! ### Resume (R386) -/

/-- Every stack temperature is at most the throttle threshold − 10 °C. -/
def allCool (s : State) : Bool := (governed s).all fun n => decide (tempOf s n ≤ (s.power.thresholds.1 : Rat) - 10)

/-- Since when every stack has been cool. -/
def noteCool (s : State) : State :=
  s.onPower fun w => { w with coolSince := if allCool s then some (w.coolSince.getD s.clk.hub) else none }

/-- A resume is accepted: state 3, and cool for the last 1 s. -/
def resumeAllowed (s : State) : Bool :=
  s.power.shutdown == 3 && allCool s && (match s.power.coolSince with
    | some t => decide (t + 1000000000 ≤ s.clk.hub)
    | none => false)

/-- A resume is written: PHYs and PLLs come up. -/
def beginResume (s : State) : State := s.onPower fun w => { w with shutdown := 5, resumeAt := s.clk.hub }

/-- RESUMED (R386): every slot has left self-refresh and trained; the links train as their clients do. -/
def execResumed (s : State) : Answered :=
  whenReleased s fun s =>
    if s.power.shutdown ≠ 5 then s else
    let s := forEach (List.range 4) (fun q s =>
      forEach (quadSlots s q) (fun c s => trainDone c (leaveSelfRefresh c s)) s) s
    let s := s.onPower fun w => { w with shutdown := 0 }
    notify .hub 0x6031 0 (leBytes 4 ((s.clk.hub - s.power.resumeAt) / 1000000)) s

end Sys2Proof.Machine
end

