-- ==== Sys2Proof/Machine/Power.lean ====
section
/-!
DEFINITION. The governor (R363 to R381): readouts, thermal and power levels, division steps, the Flask allowance, junctions
and supplies.
-/
namespace Sys2Proof.Machine

/-! ### Levels (R364 to R366) -/

/-- Division step of a level (Table 12.2). -/
def divisionOf (level : Nat) : Nat := if level ≤ 8 then 1 else if level = 9 then 2 else 4

/-- A controller's spacings at a new tCK: what is still to wait, and what has passed, in slots of the new length (R138). -/
def reclock (old new : Nat) (x : Chan) : Chan :=
  let due := fun (d : Nat) => if x.slot < d then x.slot + ceilDiv ((d - x.slot) * old) new else d
  let gone := fun (d : Nat) => x.slot - (x.slot - d) * old / new
  { x with quietTo := due x.quietTo, lastCol := x.lastCol.map gone, lastRd := x.lastRd.map gone, lastWr := x.lastWr.map gone,
           acts := x.acts.map fun a => (gone a.1, a.2.1, a.2.2),
           bursts := x.bursts.map fun b => { b with back := due b.back },
           refBase := gone x.refBase,
           banks := x.banks.map fun e => (e.1, { e.2 with refAt := gone e.2.refAt, readyAt := due e.2.readyAt, preAt := due e.2.preAt, actAt := e.2.actAt.map gone }) }

/-- Slots of a stack that wait for its token to rest, and not for a lane, no longer do (R167). -/
def withdrawRests (n : Nat) (s : State) : State :=
  let rests := fun (s : State) (p : Nat) => !mayPause s (slotNo n p)
  let s := updStack n (fun t => { t with asks := t.asks.filter fun p => !rests s p }) s
  match (stackAt s n).token with
  | some p => if rests s p && !(chanAt s (slotNo n p)).inRest then passToken n p s else s
  | none => s

/-- A stack's division step changes: locked units in execution end, refreshes of banks that owe at least 6, PREA, SWW of SW08 to SW10, the PLL divider
(R138, R156); rest stops defer from leaving step 1 (R167). -/
def changeDivision (n k : Nat) (s : State) : State :=
  let slots := if (stackAt s n).running then (stackSlots s n).filter fun c => !(chanAt s c).selfRefresh else []
  let old := (stackAt s n).step
  let next := updStack n (fun t => { t with step := k }) s
  let s := forEach slots (fun c s => sendNow c (.sww 10 (dividerWord k)) (sendNow c (.sww 9 (tWL next n))
    (sendNow c (.sww 8 (tRL next n)) (stopChannel c (endLocked c s))))) s
  let s := updStack n (fun t => { t with step := k, deferFrom := if old = 1 then quadTime s (n / 8) else t.deferFrom }) s
  let s := forEach slots (fun c s => updChan c (reclock old k) s) s
  if old = 1 && k ≠ 1 then withdrawRests n s else s

/-- The level a stack is to run at: while an allowance lasts, the raise by R374 is deferred (R365, R375, R379). -/
def wantedLevel (s : State) (n : Nat) : Nat :=
  if (heatAt s n).flask.isSome then Nat.max s.power.level (heatAt s n).junctionMin else appliedLevel s n

/-- A stack runs at its wanted level, unless that lowers the division step within 10 ms of the last lowering (R366). -/
def applyLevel (n : Nat) (s : State) : State :=
  let h := heatAt s n
  let want := wantedLevel s n
  let k := divisionOf h.running
  let k' := divisionOf want
  let held := decide (k' < k) && (match h.lastLower with
    | some t => decide (s.clk.hub < t + 10000000)
    | none => false)
  if held then s else
  let s := if k' ≠ k then changeDivision n k' s else s
  updHeat n (fun h => { h with running := want, lastLower := if k' < k then some s.clk.hub else h.lastLower }) s

/-- Every stack takes its level. -/
def applyLevels (s : State) : State := forEach (governed s) applyLevel s

/-- Rate fraction published for each stack. -/
def published (s : State) : List Rat := (List.range 32).map fun n => rateFraction (publishedLevel s n)

/-- What happens at once to the levels; a change of a published rate fraction starts a recompute, with cause 3 (R365). -/
def publishing (f : State → State) (s : State) : State :=
  let t := f s
  if published t = published s then t else recompute 3 t

/-- DIVISION_LOWER_HOLD_EXPIRY (R366): 10 ms after the last lowering a held stack takes its applied level. -/
def execDivisionLowerHoldExpiry (stack : Fin 32) (s : State) : Answered :=
  whenReleased s fun s => if (governed s).contains stack.val then publishing (applyLevel stack) s else s

/-! ### The power level (R367, R368) -/

/-- The power level becomes a value, with notices 0x6001 and 0x6002. -/
def setPowerLevel (level : Nat) (s : State) : State :=
  let was := s.power.level
  if level = was then s else
  let s := s.onPower fun w => { w with level := level, changed := s.clk.hub }
  let body := leBytes 2 s.power.envelope ++ leBytes 4 (milliwatts (totalPower s))
  if was = 0 then
    let due := match s.power.limitAt with
      | some t => decide (t + 1000000000 ≤ s.clk.hub)
      | none => true
    if due then notify .hub 0x6001 0 (body ++ leBytes 1 level) (s.onPower fun w => { w with limitAt := some s.clk.hub }) else s
  else if level = 0 then notify .hub 0x6002 0 body s
  else s

/-- d of R367: command power of every stack, and each MED's vdd_phy power above its value at ready, W. -/
def trafficPower (s : State) : Rat :=
  let phy := (List.range 4).map fun k =>
    let x := mean (nth s.power.phy (k + 1) []) - nth s.power.phyReady (k + 1) 0
    if x < 0 then 0 else x
  ratSum (s.power.heat.map fun h => mean h.cmd) + ratSum phy

/-- The power level a step leaves (R367, R375). -/
def nextPowerLevel (s : State) : Nat :=
  let env : Rat := s.power.envelope
  let l := s.power.level
  let least := if nth s.power.hot 0 false then 4 else 0
  let next :=
    if env * 11 / 10 < lastPower s then Nat.min 10 (l + 2)
    else if env < totalPower s then Nat.min 10 (l + 1)
    else if 0 < l && decide (s.power.changed + 1000000 ≤ s.clk.hub) then
      let predicted := totalPower s + trafficPower s * (rateFraction (l - 1) / rateFraction l - 1)
      if predicted ≤ env then l - 1 else l
    else l
  Nat.max least next

/-! ### Thermal levels and the Flask allowance (R374, R377 to R381) -/

/-- Collective bytes of a port served over the complex in the last 1 ms. -/
def collectiveServed (s : State) (p : Nat) : Nat :=
  total ((s.power.served.filter fun e => e.1 == p && decide (s.clk.hub < e.2.1 + 1000000)).map (·.2.2.1))

/-- Ports whose collective a stack served in a time, with bytes left. -/
def collectivePorts (s : State) (n span : Nat) : List Nat :=
  (List.range 5).filter fun p => decide (0 < (portAt s p).collective)
    && s.power.served.any fun e => e.1 == p && decide (s.clk.hub < e.2.1 + span) && e.2.2.2.contains n

/-- The collective's need at a stack, ns, with the port that gives it (R377). -/
def collectiveNeed (s : State) (n : Nat) : Option (Nat × Rat) :=
  bestOf (fun (a b : Nat × Rat) => decide (b.2 < a.2)) ((collectivePorts s n 1000000).filterMap fun p =>
    let b := collectiveServed s p
    if b = 0 then none else some (p, (portAt s p).collective * 1000000 / (b : Rat)))

/-- Flask limit of a stack, °C. -/
def flaskLimit (s : State) (n : Nat) : Rat := throttleAt s n + 3

/-- A time in ns as a notice carries it. -/
def ns32 (x : Rat) : Nat := Nat.min (2 ^ 32 - 1) (ratFloor x).toNat

/-- Time to the Flask limit in ns; none when the target lies below it. -/
def flaskTime (s : State) (n : Nat) : Option Rat := (timeToLimit s n (flaskLimit s n)).map (· * 1000000)

/-- Enable and capability conditions of R378; none is granted in Slate mode (R388). -/
def flaskEnabled (s : State) (n : Nat) : Bool :=
  objGet s 0x6020 0 == 1 && bit (quadCaps s (n / 8)) 12 && !inSlate s (n / 8)

/-- The remaining conditions of R378. -/
def flaskMeets (s : State) (n : Nat) (need : Rat) : Bool :=
  let h := heatAt s n
  let time := match flaskTime s n with
    | some t => decide (need < t)
    | none => true
  decide (need ≤ 2000000) && time && !h.diverged && !readoutsFailed s n && !h.taken

/-- Notice 0x6010. -/
def saidThrottle (n : Nat) (s : State) : State :=
  notify .hub 0x6010 1 (leBytes 1 n ++ i32Bytes (quarters (heatAt s n).est) ++ leBytes 1 (thermalLevel s n)) s

/-- A thermal level of 0 rises: it is deferred under an allowance, or applies (R378, R381). -/
def raiseThermal (n level : Nat) (s : State) : State :=
  let s := updHeat n (fun h => { h with thermal := level, lowSince := none }) s
  match flaskEnabled s n, collectiveNeed s n with
  | true, some (p, need) =>
    if flaskMeets s n need then
      let s := updHeat n (fun h => { h with flask := some s.clk.hub, taken := true }) s
      let s := s.onPower fun w => { w with flaskTotals := w.flaskTotals.modify 0 (· + 1) }
      notify .hub 0x6020 0 (leBytes 1 n ++ leBytes 1 (p + 1) ++ leBytes 4 (ns32 need)
        ++ leBytes 4 (((flaskTime s n).map ns32).getD (2 ^ 32 - 1))) s
    else
      let s := saidThrottle n s
      if (heatAt s n).refused then s else
      let f := rateFraction level
      let s := updHeat n (fun h => { h with refused := true }) s
      let s := s.onPower fun w => { w with flaskTotals := w.flaskTotals.modify 1 (· + 1) }
      notify .hub 0x6021 1 (leBytes 1 n ++ leBytes 1 (p + 1) ++ leBytes 4 (ns32 need)
        ++ leBytes 4 (ns32 (need * (1 - f) / f)) ++ leBytes 1 level) s
  | _, _ => saidThrottle n s

/-- A thermal level has returned to 0: notice 0x6011, and the episode ends. -/
def endEpisode (n : Nat) (s : State) : State :=
  let s := updHeat n (fun h => { h with taken := false, refused := false }) s
  notify .hub 0x6011 0 (leBytes 1 n ++ i32Bytes (quarters (heatAt s n).est)) s

/-- Table 12.3 sets level 0; a hot junction may hold the thermal level above it (R375). -/
def endThermal (n : Nat) (s : State) : State :=
  let s := updHeat n (fun h => { h with thermal := 0, lowSince := none, flask := none }) s
  if thermalLevel s n = 0 then endEpisode n s else s

/-- Table 12.3 for a stack, once. -/
def judgeThermal (n : Nat) (s : State) : State :=
  let v := hotter s n
  let θ := throttleAt s n
  let h := heatAt s n
  let l := h.thermal
  let up := if θ + 2 ≤ v then 10 else if θ ≤ v && decide (l < 9) then 9 else l
  if l < up then
    if l = 0 && h.junctionMin = 0 then raiseThermal n up s else updHeat n (fun h => { h with thermal := up, lowSince := none }) s
  else
    let low := (l = 10 && decide (v ≤ θ)) || (l = 9 && decide (v ≤ θ - 3))
    if !low then updHeat n (fun h => { h with lowSince := none }) s
    else
      let since := h.lowSince.getD s.clk.hub
      if since + 10000000 ≤ s.clk.hub then
        if l = 10 then updHeat n (fun h => { h with thermal := 9, lowSince := none }) s else endThermal n s
      else updHeat n (fun h => { h with lowSince := some since }) s

/-- The event of R380 that ends a running allowance, if one has come. -/
def flaskEvent (s : State) (n grant : Nat) : Option Nat :=
  let now := s.clk.hub
  let limit := flaskLimit s n
  let left : Rat := (grant + 2000000 : Nat) - (now : Rat)
  let left := match flaskTime s n with
    | some t => if t < left then t else left
    | none => left
  if (collectivePorts s n 1000000).isEmpty || (collectivePorts s n 100000).isEmpty then some 1
  else if grant + 2000000 ≤ now then some 2
  else if limit ≤ hotter s n then some 3
  else match collectiveNeed s n with
    | some (_, need) => if left < need then some 4 else none
    | none => some 1

/-- FLASK_ALLOWANCE_ENDED (R380): the deferred level applies at once. -/
def execFlaskAllowanceEnded (stack : Fin 32) (s : State) : Answered :=
  whenReleased s fun s =>
    match (heatAt s stack).flask with
    | none => s
    | some t => match flaskEvent s stack t with
      | none => s
      | some cause =>
        let s := publishing (fun s => applyLevel stack (updHeat stack (fun h => { h with flask := none }) s)) s
        let s := if cause = 3 then s.onPower fun w => { w with flaskTotals := w.flaskTotals.modify 2 (· + 1) } else s
        let s := saidThrottle stack s
        notify .hub 0x6022 0 (leBytes 1 stack ++ leBytes 1 cause ++ leBytes 4 (Nat.min (2 ^ 32 - 1) (s.clk.hub - t))) s

/-! ### Shutdown of a hot stack (R382) -/

/-- The model predicts a stack at its shutdown threshold + 5 °C within 2 ms. -/
def tooSoon (s : State) (n : Nat) : Bool :=
  match timeToLimit s n ((s.power.thresholds.2 : Rat) + 5) with
  | some t => decide (t ≤ 2)
  | none => false

/-- Shutdown by a stack. -/
def stackTrigger (s : State) (n cause : Nat) (temp : Int) : Trigger :=
  { cause := cause, source := n, temp := temp, soon := tooSoon s n }

/-- Causes 1 and 5 of R382 by a stack's estimate at a step. -/
def judgeShutdown (n : Nat) (s : State) : State :=
  let h := heatAt s n
  let over_ := decide (shutdownAt s n ≤ h.est)
  if readoutsFailed s n then
    let k := if over_ then h.cause5 + 1 else 0
    let s := updHeat n (fun h => { h with cause5 := k }) s
    if 2 ≤ k then triggerShutdown (stackTrigger s n 5 (quarters h.est)) s else s
  else
    let s := updHeat n (fun h => { h with cause5 := 0 }) s
    if over_ then triggerShutdown (stackTrigger s n 1 (quarters h.est)) s else s

/-! ### GOVERNOR_STEP (R363, R367, R369, R374) -/

/-- What a step of the governor computes and applies after it has taken envelope and thresholds: the power level, every
estimate, every thermal level, the levels of every stack (R367, R369, R374). -/
def governorLevels (s : State) : State :=
  let s := setPowerLevel (nextPowerLevel s) s
  let ests := (modelled s).map fun n => (n, nextEst s n)
  let s := forEach ests (fun e s => updHeat e.1 (fun h => { h with est := e.2 }) s) s
  applyLevels (forEach (modelled s) judgeThermal s)

/-- A step of the governor before it judges shutdown, with envelope and thresholds as written (R363, R376). -/
def governorUpdate (s : State) : State :=
  publishing governorLevels (s.onPower fun w => { w with
    stepAt := w.stepAt + 100000, envelope := objGet s 0x6001 0, thresholds := (objGet s 0x6010 1, objGet s 0x6010 2) })

/-- GOVERNOR_STEP: the next step of 100 µs of hub time. -/
def execGovernorStep (s : State) : Answered :=
  whenReleased s fun s =>
    if s.clk.hub < s.power.stepAt + 100000 || !isReady s then s else
    let s := governorUpdate s
    forEach (modelled s) judgeShutdown s

/-! ### TEMPERATURE_READOUT (R143, R144, R370, R372) -/

/-- Divergence starts at the fourth readout in a row with |err| above 3.0 °C, and ends after 100 within. -/
def judgeDivergence (n : Nat) (err : Rat) (s : State) : State :=
  let big := decide (3 < err) || decide (err < -3)
  let s := updHeat n (fun h => { h with bigErr := if big then h.bigErr + 1 else 0, smallErr := if big then 0 else h.smallErr + 1 }) s
  let h := heatAt s n
  if !h.diverged && decide (4 ≤ h.bigErr) then
    notify .hub 0x6040 1 (leBytes 1 n ++ i32Bytes (quarters err)) (updHeat n (fun h => { h with diverged := true }) s)
  else if h.diverged && decide (100 ≤ h.smallErr) then
    notify .hub 0x6041 0 (leBytes 1 n) (updHeat n (fun h => { h with diverged := false }) s)
  else s

/-- The hub calibrates a stack's model by a readout, and judges it. -/
def calibrate (n : Nat) (temp : Int) (s : State) : State :=
  let r : Rat := (temp : Rat) / 4
  let err := r - (heatAt s n).est
  let s := updHeat n (fun h => { h with amb := h.amb + err / 8, est := r }) s
  let s := judgeDivergence n err s
  if shutdownAt s n ≤ r then triggerShutdown (stackTrigger s n 1 temp) s else s

/-- TEMPERATURE_READOUT: the scheduled readout of a stack, with its repeat; it goes on while the reference is lost (R450). From
a quadrant without a route no reading reaches the hub's model. -/
def execTemperatureReadout (stack : Fin 32) (first repeated : TempFrame) (s : State) : Answered :=
  whenReleased s fun s =>
    let (s, temp, done) := takeReadout stack first repeated s
    if !done || (quadAt s (stack.val / 8)).offCause = 2 then s else
    noteCool (match temp with
      | some t => calibrate stack t s
      | none => s)

/-! ### Junctions and supplies (R375, R382) -/

/-- What a hot junction asks of a stack's thermal level begins or ends, with notices 0x6010 and 0x6011 (R374, R375). -/
def setJunctionMin (n v : Nat) (s : State) : State :=
  let was := thermalLevel s n
  let s := updHeat n (fun h => { h with junctionMin := v }) s
  if was = 0 && thermalLevel s n ≠ 0 then saidThrottle n s
  else if was ≠ 0 && thermalLevel s n = 0 then endEpisode n s else s

/-- A die's junction is hot: a least power level for the hub, a least thermal level for a MED's stacks. -/
def setHot (d : Nat) (v : Bool) : State → State := publishing fun s =>
  let s := s.onPower fun w => { w with hot := modNth w.hot d fun _ => v, belowSince := modNth w.belowSince d fun _ => none }
  let s := if d = 0 then (if v then setPowerLevel (Nat.max 4 s.power.level) s else s)
    else forEach ((modelled s).filter (· / 8 = d - 1)) (setJunctionMin · (if v then 4 else 0)) s
  applyLevels s

/-- One die's junction reading. -/
def judgeJunction (d : Nat) (t : Int) (s : State) : State :=
  let s := s.onPower fun w => { w with junction := modNth w.junction d fun _ => t }
  let hot := nth s.power.hot d false
  let s :=
    if !hot then
      if 400 ≤ t then setHot d true (notify .hub 0x6012 1 (leBytes 1 (0x40 + d) ++ i32Bytes t) s) else s
    else if 380 ≤ t then s.onPower fun w => { w with belowSince := modNth w.belowSince d fun _ => none }
    else
      let since := (nth s.power.belowSince d none).getD s.clk.hub
      if since + 10000000 ≤ s.clk.hub then setHot d false s
      else s.onPower fun w => { w with belowSince := modNth w.belowSince d fun _ => some since }
  if 440 ≤ t then triggerShutdown { cause := 2, source := 0x40 + d, temp := t } s else s

/-- JUNCTION_READ (R375): the hub's sensor and each MED's, in units of 0.25 °C, every 100 µs. -/
def execJunctionRead (temps : List Int) (s : State) : Answered :=
  whenReleased s fun s =>
    let next := s.power.junctionAt + 100000
    if s.clk.hub < next then s else
    let s := s.onPower fun w => { w with junctionAt := next }
    let ts := ((temps.take 5).zipIdx).filter fun x => x.2 = 0 || !cutOff s (x.2 - 1)
    forEach ts (fun x s => judgeJunction x.2 x.1 s) s

/-- SUPPLY_FAULT (R382 cause 4): a supply of a die out of range for 1 µs. -/
def execSupplyFault (die : Die) (ns : Nat) (s : State) : Answered :=
  whenReleased s fun s =>
    if ns < 1000 then s else triggerShutdown { cause := 4, source := dieCode die, force := true } s

end Sys2Proof.Machine
end

