-- ==== Sys2Proof/Machine/Quadrants.lean ====
section
/-!
DEFINITION. Quadrant reset, Slate mode, offline quadrants and bundles at run time (R438 to R456), with the commands that no
object write starts.
-/
namespace Sys2Proof.Machine

/-! ### Requests a quadrant no longer serves (R450, R454) -/

/-- A request gets status 0x06 and has no effect: it leaves its queue and the root lanes. A read of ENG comes back with error 0x02,
and the copy that a refused write belongs to makes it again. -/
def refuse (r : Req) (s : State) : State :=
  let s := retireUnits (fun u => u.level == 0 && u.parts.any (·.1 == r.id)) s
  let s := updEntry r.entry (fun x => { x with queue := x.queue.filter (· ≠ r.id) }) s
  let answer := fun (x : Req) (s : State) =>
    let s := updReq x.id (fun q => { q with status := some 6, parts := [] }) s
    respond x.port (errorOf x 6 0) (lastError x.port 6 (opcodeOf x.op) x.r s)
  if r.op = .flush then
    dropReq r.id (forEach (r.merged.filterMap fun m => reqAt s m.1) answer s)
  else if r.port < 5 then answer r (returnFlits r.port r.flits s)
  else if r.op = .read then engReadDone r 2 s
  else match r.owner with
    | some (q, i) =>
      let idx := ((outingAt s q i).bind fun o => (o.active.find? fun a => a.writes.any (·.1 == r.id)).map (·.index))
      let s := match idx with
        | some k => failDesc q i k 2 (updActive q i k (fun a => { a with writes := a.writes.filter (·.1 != r.id) }) s)
        | none => s
      pumpDue (dropReq r.id s)
    | none => dropReq r.id (copyRefused r.id s)

/-- A request has a part bound for Qq and none of those has left the hub. -/
def stillAtHub (r : Req) (q : Nat) : Bool :=
  let mine := r.parts.filter fun p => quadOf p.gch == q
  !mine.isEmpty && mine.all (fun p => p.stage = .hub || p.stage = .root) && r.status.isNone && !r.basket

/-- An Outing start that waits for its sequencer in Qq. -/
def waitsForHome (r : Req) (q : Nat) : Bool := r.op = .outing && r.owner.isNone && r.status.isNone && bits r.r.opField.toNat 1 0 == q

/-- Qq no longer serves: open Basket lines bound for it flush, and what has not left the hub for it is refused. -/
def refuseWaiting (q : Nat) (s : State) : State :=
  let s := flushWhere false (fun l => (l.reqs.filterMap (reqAt s)).any fun r => r.parts.any fun p => quadOf p.gch == q) s
  let rs := s.reqs.filter fun r => stillAtHub r q || waitsForHome r q
  let s := examineHeads s (forEach rs refuse s)
  forEach (List.range 6) wakeHeld (retryHeads (pumpHub s))

/-! ### In-flight work of a quadrant -/

/-- Atomics of a controller whose read has issued get the rest of their sectors. -/
def completeAtomics (c g : Nat) (s : State) : State :=
  let fs := (chanAt s c).reads.filter (·.act == .fetch)
  let begun := fs.filter fun e => e.asked || e.old.isSome
  let due := fs.filter fun e => e.old.isNone && begun.any fun b => b.req == e.req
  forEach due (fun e s => entryValue c g e.seq ((currentSector s ⟨c, g, e.bank, e.row⟩ e.slot).getD (List.replicate 32 0, 1)) false s) s

/-- Bursts come back, escalations and begun units end. -/
def completeOnce (c g : Nat) (s : State) : State :=
  let bs := (chanAt s c).bursts
  let s := forEach bs (fun b s => burstArrives c b b.raw s) (updChan c (fun x => { x with bursts := [] }) s)
  let s := forEach ((chanAt s c).units.filter (·.kind == .escalation)) (completeUnit c g) s
  let s := forEach ((chanAt s c).units.filter fun u => u.begun && u.kind != .escalation) (completeUnit c g) s
  settleUnits c (completeAtomics c g s)

/-- Commands offered issue, their data returns and is answered; escalations and atomics under way complete (Table 14.5). -/
def completeChannel (c : Nat) (s : State) : State :=
  match channelOf s c with
  | none => s
  | some g => completeOnce c g (completeOnce c g s)

/-- Write-backs of atomics enter the channels of a quadrant. -/
def enterBacks (q : Nat) (s : State) : State :=
  let mine := fun (u : TUnit) => !u.sects.isEmpty && u.input == 5 && quadOfSlot u.slot == q
  forEach (s.tree.units.filter mine) enterSects (onUnits (·.filter fun u => !mine u) s)

/-- Every slot of a quadrant goes into self-refresh once what is under way has ended. -/
def restQuad (q : Nat) (s : State) : State :=
  let slots := quadSlots s q
  let s := enterBacks q (forEach slots completeChannel s)
  forEach slots enterSelfRefresh s

/-! ### Quadrant reset (R439, R440) -/

/-- Units held at the root lanes and in the quadrant arbiters. -/
def unitsHeld (s : State) (q : Nat) : Nat := (s.tree.units.filter fun u => u.level < 2 && u.quad == q).length

/-- Steps 2 to 5 of Table 14.5. -/
def resetBody (q : Nat) (s : State) : State :=
  let s := restQuad q s
  let s := forEach (quadSlots s q) (fun c s => updChan c (fun x => { x with
    draining := false, units := x.units.filter (·.kind == .locked), accums := [] }) s) s
  let s := restartBags q (cancelOutings q 2 s)
  forEach (quadSlots s q) leaveSelfRefresh s

/-- Step 6: paused work resumes, held units are released, notice 0x7031. -/
def endReset (q bound : Nat) (s : State) : State :=
  let (d, s) := drawUpTo bound s
  let k := quadAt s q
  let ns := (s.clk.hub - (k.resetAt.getD s.clk.hub)) + d
  let held := unitsHeld s q
  let s := if k.stateCheck then countRecovery ns s else s
  let s := updQuad q (fun k => { k with st := if k.st = .offline then .offline else .normal, applied := none, hold := false, resetAt := none, atStep6 := false, resetDone := some s.clk.hub,
                                        stateCheck := false }) s
  let s := notify .hub 0x7031 0 (leBytes 1 q ++ leBytes 4 ns ++ leBytes 4 held) s
  retryHeads (pumpHub s)

/-- A reset of Qq: cause 1 host, 2 state check; `ends` when its steps end within 40 µs. -/
def resetQuad (q cause : Nat) (hold ends : Bool) (s : State) : State :=
  let s := updQuad q (fun k => { k with st := .held, applied := k.applied.or (some s.objs), hold := hold, resetAt := some s.clk.hub, atStep6 := false,
                                        stateCheck := cause == 2 }) s
  let s := notify .hub 0x7030 1 (leBytes 1 q ++ leBytes 1 cause) (stopTests (liveTarget s q) 2 (lapseTickets s))
  let s := endScrubIn q s
  if !ends then s else
  let s := resetBody q s
  if hold then updQuad q (fun k => { k with atStep6 := true }) s else endReset q 40000 s

/-- A write of object 0x7020 is accepted. -/
def quadResetAllowed (s : State) (q v : Nat) : Bool :=
  let k := quadAt s q
  if v = 1 || v = 2 then k.st = .normal && k.resetAt.isNone else v == 3 && k.atStep6

/-- The effect of a write of object 0x7020. -/
def writeQuadReset (q v : Nat) (ends : Bool) (s : State) : State :=
  if v = 3 then endReset q 6000 (stopTests (liveTarget s q) 2 s) else resetQuad q 1 (v = 2) ends s

/-! ### Slate mode (R453 to R456) -/

/-- Live segments with a slot in a quadrant. -/
def segsIn (s : State) (q : Nat) : Nat := ((liveSegs s).filter fun e => holdsQuad s.variant e.2.place q).length

/-- A quadrant enters Slate mode for a cause of Table 14.7. -/
def enterSlate (q cause : Nat) (s : State) : State :=
  if (quadAt s q).slate ≠ 0 then s else
  let runs := (quadAt s q).resetAt.isSome && !(quadAt s q).atStep6
  let s := if runs then resetBody q s else s
  let s := updQuad q (fun k => { k with st := if k.st = .offline then .offline else .slate, applied := k.applied.or (some s.objs), slate := cause, hold := false, resetAt := none, atStep6 := false, stateCheck := false }) s
  let s := notify .hub 0x7040 2 (leBytes 1 q ++ leBytes 1 cause ++ leBytes 4 (segsIn s q)) s
  let moves := s.map.moves.filter fun m => holdsQuad s.variant m.source q || holdsQuad s.variant m.target.place q
  let s := forEach moves (fun m s => abandonMove m.seg (Config.choice s.draw % 256) s.drawn) s
  let s := abandonRehomes q (endScrubIn q (cancelOutings q 3 s))
  let s := if fixedMapOn s then forEach (List.range 4) (fun k s => stopTests (liveTarget s k) 2 s) s else s
  recompute 4 (refuseWaiting q s)

/-- A quadrant leaves Slate mode through a reset and acceptance. -/
def leaveSlate (q : Nat) (s : State) : State :=
  let s := resetQuad q 1 false true s
  let s := forEach (quadSlots s q) trainDone s
  let s := updQuad q (fun k => { k with st := .normal, applied := none, slate := 0 }) s
  let s := notify .hub 0x7041 0 (leBytes 1 q) s
  retryHeads (pumpHub (recompute 5 s))

/-- A write of object 0x7022 is accepted (R456). -/
def slateAllowed (s : State) (v : Nat) : Bool :=
  (List.range 4).all fun k => !(bit v k && bit v (4 + k)) &&
    !(bit v (4 + k) && decide (1 ≤ (quadAt s k).slate) && decide ((quadAt s k).slate ≤ 3))

/-- The effect of a write of object 0x7022: bits [3:0] enter, then bits [7:4] leave. -/
def writeSlate (v : Nat) (s : State) : State :=
  let s := forEach (List.range 4) (fun k s => if bit v k && (quadAt s k).st ≠ .starting then enterSlate k 4 s else s) s
  forEach (List.range 4) (fun k s => if bit v (4 + k) && inSlate s k then leaveSlate k s else s) s

/-- STATE_CHECK_ERROR (R439, R440): a second one within 1 s of a completed reset takes the quadrant into Slate mode. -/
def execStateCheckError (q : Fin 4) (ends : Bool) (s : State) : Answered :=
  whenReleased s fun s =>
    let k := quadAt s q
    if k.st ≠ .normal || k.resetAt.isSome then s
    else match k.resetDone with
      | some t => if s.clk.hub < t + 1000000000 then enterSlate q 5 s else resetQuad q 2 false ends s
      | none => resetQuad q 2 false ends s

/-- QUADRANT_RESET_TIMEOUT (R440): step 6 is not reached within 40 µs. -/
def execQuadrantResetTimeout (q : Fin 4) (s : State) : Answered :=
  whenReleased s fun s =>
    match (quadAt s q).resetAt with
    | some t => if (quadAt s q).atStep6 || s.clk.hub < t + 40000 then s else enterSlate q 5 s
    | none => s

/-! ### References and offline quadrants (R47, R450 to R452) -/

/-- REFERENCE_LOST (R47): the die's bit, notice 0x7020; a MED's stacks go into self-refresh. -/
def execReferenceLost (die : Die) (s : State) : Answered :=
  whenReleased s fun s =>
    if nth s.clk.lost (dieNo die) false then s else
    let s := s.onClk fun c => { c with lost := modNth c.lost (dieNo die) fun _ => true }
    let s := notify die 0x7020 2 (leBytes 1 (dieCode die)) s
    match die with
    | .hub => s
    | .med q =>
      lapseTickets (updQuad q (fun k => { k with lostAt := some s.clk.hub }) (restQuad q s))

/-- REFERENCE_RESTORED (R47). -/
def execReferenceRestored (die : Die) (s : State) : Answered :=
  whenReleased s fun s =>
    if !nth s.clk.lost (dieNo die) false then s else
    let s := s.onClk fun c => { c with lost := modNth c.lost (dieNo die) fun _ => false }
    notify .hub 0x7021 0 (leBytes 1 (dieCode die)) s

/-- A quadrant goes offline: cause 1 reference lost, 2 unreachable. -/
def goOffline (q cause : Nat) (s : State) : State :=
  let s := updQuad q (fun k => { k with st := .offline, offCause := cause }) s
  let s := notify .hub 0x7070 2 (leBytes 1 q ++ leBytes 1 cause) s
  recompute 7 (refuseWaiting q (stopTests (liveTarget s q) 2 (lapseTickets s)))

/-- An offline quadrant is back, or a held one is released. -/
def comeBack (q : Nat) (s : State) : State :=
  let off := isOffline s q
  let s := updQuad q (fun k => { k with lostAt := none, offCause := 0,
                                        st := if k.st ≠ .offline then k.st else if k.slate ≠ 0 then .slate
                                              else if k.resetAt.isSome then .held else .normal }) s
  let s := if off then recompute 7 (notify .hub 0x7071 0 (leBytes 1 q) s) else s
  retryHeads (pumpHub s)

/-- QUADRANT_OFFLINE (R450, R452): 100 ms after its reference is lost, or when no route is left. -/
def execQuadrantOffline (q : Fin 4) (s : State) : Answered :=
  whenReleased s fun s =>
    let k := quadAt s q
    if k.st = .offline || k.st = .starting then s
    else if !reachable s q then goOffline q 2 s
    else match k.lostAt with
      | some t => if s.clk.hub < t + 100000000 then s else goOffline q 1 s
      | none => s

/-- QUADRANT_RETURN (R451, R452): the reference is back and the slots are accepted, or a route is usable again. -/
def execQuadrantReturn (q : Fin 4) (s : State) : Answered :=
  whenReleased s fun s =>
    let k := quadAt s q
    if k.lostAt.isSome then
      if nth s.clk.lost (q.val + 1) false then s else
      comeBack q (forEach (quadSlots s q) (fun c s => trainDone c (leaveSelfRefresh c s)) s)
    else if k.st = .offline && reachable s q then comeBack q s else s

/-! ### Bundles at run time (R443 to R447) -/

/-- The direction of a bundle that a lane end belongs to, as an entry of a group's spares: an end that receives and the end that
transmits to it are of one direction. -/
def spareIndex (bundle : Nat) (far : Bool) (direction : Nat) : Nat := 2 * bundle + (direction + b2n far) % 2

/-- Live bundles of a group as a count. -/
def liveCountOf (g : LinkGroup) : Nat := (liveBundles g).length

/-- A group's live set changes: routes that change are reroutes of their quadrant and carry the cause of the change (R108);
an unreachable quadrant goes offline, a reachable one returns (R445 to R447, R452). -/
def liveChange (group cause : Nat) (f : LinkGroup → LinkGroup) (s : State) : State :=
  let t := updLink group f s
  let moved := fun (k : Nat) => (List.range 512).any fun i =>
    (routeOf s (512 * k + i)).map (fun r => (r.group, r.lane, r.input)) != (routeOf t (512 * k + i)).map (fun r => (r.group, r.lane, r.input))
  let t := forEach (List.range 4) (fun k t =>
    if group = 4 + k || moved k then reroute k cause t else t) t
  let t := lapseTickets t
  forEach (List.range 4) (fun k t =>
    let st := (quadAt t k).st
    if !reachable t k && st ≠ .offline && st ≠ .starting then goOffline k 2 t
    else if reachable t k && st = .offline && (quadAt t k).offCause = 2 then comeBack k t else t) t

/-- A bundle is dropped with a cause of R444. With its last bundle FP's link is down (R319). -/
def dropBundle (group bundle cause : Nat) (s0 : State) : State :=
  let s := s0
  let was := linkAt s group
  let f := fun (g : LinkGroup) => { g with
    live := setBit g.live bundle false, retrain := setBit g.retrain bundle false, dropped := setBit g.dropped bundle true,
    due := g.due.filter (· != bundle), failing := g.failing.filter (· != bundle), dueEnds := g.dueEnds.filter (·.1 != bundle) }
  let s := if bit was.live bundle then liveChange group 1 f s else updLink group f s
  let s := if group = 8 && was.live + was.retrain ≠ 0 && (linkAt s 8).live + (linkAt s 8).retrain = 0 then clearSharers 1 s else s
  let s := notify .hub 0x7050 1 (leBytes 1 group ++ leBytes 1 bundle ++ leBytes 1 cause ++ leBytes 1 (liveCountOf (linkAt s group))) s
  let off := (List.range 4).any fun q => isOffline s q && !isOffline s0 q
  recompute (if off then 7 else 2) (recovered 10000 s)

/-- MARGIN_CHECK (R443): a lane end of a live bundle whose eye is below object 0x7040:01 is due, and makes the bundle due. -/
def execMarginCheck (group : Fin 13) (bundle : Fin 16) (found : LaneEye) (s : State) : Answered :=
  whenReleased s fun s =>
    let g := linkAt s group
    let e := (bundle.val, found.far, b2n found.transmit, found.lane.val)
    if !bit g.live bundle || decide (objGet s 0x7040 1 ≤ found.eye) then s
    else updLink group (fun g => { g with
      due := if g.due.contains bundle.val then g.due else g.due ++ [bundle.val],
      dueEnds := if g.dueEnds.contains e then g.dueEnds else g.dueEnds ++ [e] }) s

/-- A lane end as a unit of Table 11.2. -/
def endUnit (group bundle : Nat) (far : Bool) (direction lane : Nat) : Unit11 :=
  let body := fun (link : Nat) => 3 * 2 ^ 28 + link * 2 ^ 20 + bundle * 2 ^ 16 + direction * 2 ^ 15 + lane * 2 ^ 8
  if group < 4 || group = 8 then ⟨0, body group⟩
  else if group < 8 then (if far then ⟨group - 3, body 0⟩ else ⟨0, body group⟩)
  else
    let i := group - 9
    if far then ⟨(i + 1) % 4 + 1, body 2⟩ else ⟨i + 1, body 1⟩

/-- The lane ends of a bundle that a retrain replaces: those below the threshold, or, where flits failed, the lane with the
narrowest eye, a free value (assumption 71). -/
def endsDue (s : State) (group bundle : Nat) : List (Bool × Nat × Nat) :=
  match (linkAt s group).dueEnds.filter (·.1 == bundle) with
  | [] =>
    let x := Config.choice s.draw
    [(x % 2 == 1 && decide (4 ≤ group) && group != 8, x / 2 % 2, x / 4 % 68)]
  | es => es.map (·.2)

/-- Spare lanes of a bundle used once its due lane ends have theirs, by direction (R334). -/
def sparesAfter (group bundle : Nat) (s : State) : List Nat :=
  (endsDue s group bundle).foldl (fun l e => modNth l (spareIndex bundle e.1 e.2.1) (· + 1)) (linkAt s group).spares

/-- Each direction of the bundle has a free spare for its due lane ends (R444). -/
def sparesLeft (group bundle : Nat) (s : State) : Bool :=
  decide (nth (sparesAfter group bundle s) (2 * bundle) 0 ≤ 4) && decide (nth (sparesAfter group bundle s) (2 * bundle + 1) 0 ≤ 4)

/-- Spare lanes of a bundle in use. -/
def bundleSpares (g : LinkGroup) (bundle : Nat) : Nat := nth g.spares (2 * bundle) 0 + nth g.spares (2 * bundle + 1) 0

/-- BUNDLE_RETRAIN (R444): a due bundle leaves the live set and its due lane ends take the lowest free spares of their
directions, or it is dropped. -/
def execBundleRetrain (group : Fin 13) (bundle : Fin 16) (s : State) : Answered :=
  whenReleased s fun s =>
    let g := linkAt s group
    if !bit g.live bundle || !g.due.contains bundle.val || g.retrain ≠ 0 then s
    else if g.failing.contains bundle.val then dropBundle group bundle 3 s
    else if !sparesLeft group bundle s then dropBundle group bundle 1 s
    else
      let ends := endsDue s group bundle
      let used := sparesAfter group bundle s
      let s := forEach ends (fun e s => retireUnit (endUnit group bundle e.1 e.2.1 e.2.2) 3 s) s.drawn
      liveChange group 4 (fun g => { g with
        live := setBit g.live bundle false, retrain := setBit g.retrain bundle true, spares := used,
        inUse := g.inUse + ends.length, due := g.due.filter (· != bundle.val), failing := g.failing.filter (· != bundle.val),
        dueEnds := g.dueEnds.filter (·.1 != bundle.val) }) s

/-- BUNDLE_RETRAIN_COMPLETE (R444): accepted, it rejoins; else it is dropped. -/
def execBundleRetrainComplete (group : Fin 13) (bundle : Fin 16) (accepted : Bool) (s : State) : Answered :=
  whenReleased s fun s =>
    if !bit (linkAt s group).retrain bundle then s
    else if !accepted then dropBundle group bundle 2 s
    else
      let s := liveChange group 5 (fun g => { g with
        live := setBit g.live bundle true, retrain := setBit g.retrain bundle false,
        lastRetrain := (bundle.val, s.clk.hub) :: g.lastRetrain.filter (·.1 != bundle.val) }) s
      notify .hub 0x7051 0 (leBytes 1 group ++ leBytes 1 bundle ++ leBytes 1 (bundleSpares (linkAt s group) bundle)) (recovered 2000 s)

end Sys2Proof.Machine
end

