-- ==== Sys2Proof/Machine/TestPort.lean ====
section
/-!
DEFINITION. Pattern tests (R480 to R486) and the test access port (R25, R487 to R489).
-/
namespace Sys2Proof.Machine

/-! ### Targets (Table 16.5) -/

/-- Bundles of a link group (R458). -/
def groupSize (g : Nat) : Nat := if g < 8 then 16 else 4

/-- A quadrant is a quiesced scope: held by value 2, or in Slate mode (R442). -/
def quadQuiesced (s : State) (q : Nat) : Bool := ((quadAt s q).st = .held && (quadAt s q).hold) || inSlate s q

/-- The port of a compute or fabric link group. -/
def groupPort (g : Nat) : Option Nat := if g < 4 then some g else if g = 8 then some 4 else none

/-- A target is in a state that its mode needs (R483). -/
def targetPermitted (s : State) (mode : Nat) : Target → Bool
  | .slot n p =>
    if !s.variant.enables n then mode == 3 else
    let t := stackAt s n
    t.running && (if t.table.contains p.val then quadQuiesced s (n.val / 8) && !fixedMapOn s
      else t.spares.contains p.val && !(s.rehomes.any fun h => h.dest == some (slotNo n p)))
  | .bundle g b =>
    let l := linkAt s g
    decide (b.val < groupSize g) && ((!bit l.live b && !bit l.retrain b) ||
      (mode ≠ 1 && (groupPort g).any fun p => (portAt s p).hold && (portAt s p).inReset))

/-- A test, a rest stop, a copy or a claim holds a target (Table 16.4). -/
def targetBusy (s : State) (t : Target) : Bool :=
  s.test.tests.any (·.2.target == t) || s.test.claims.contains t ||
  match t with
  | .slot n p => (chanAt s (slotNo n p)).inRest || actionOn s (slotNo n p)
  | .bundle _ _ => false

/-! ### Commands (Table 16.3) -/

/-- Target of a test command. -/
def testTarget (bs : Bytes) : Option Target :=
  let a := field bs 4 1
  let d := field bs 5 1
  if field bs 1 1 = 1 then
    if h : a < 32 ∧ d < 66 then some (.slot ⟨a, h.1⟩ ⟨d, h.2⟩) else none
  else if field bs 1 1 = 2 then
    if h : a < 13 ∧ d < 16 then (if d < groupSize a then some (.bundle ⟨a, h.1⟩ ⟨d, h.2⟩) else none) else none
  else none

/-- A power of two from 2^lo to 2^hi. -/
def isPow2 (x lo hi : Nat) : Bool := (List.range (hi + 1 - lo)).any fun i => x == 2 ^ (lo + i)

/-- Fields of a start command lie in their ranges. -/
def startFormed (bs : Bytes) : Bool :=
  let slot := field bs 1 1 == 1
  let opts := field bs 7 1
  let n := field bs 8 8
  (testTarget bs).isSome && decide (field bs 2 1 ≤ 3) && decide (field bs 3 1 ≤ 4)
  && (!(slot && field bs 2 1 == 0) || decide (field bs 3 1 ≤ 3))
  && (if slot then field bs 6 1 == 0 else decide (field bs 6 1 ≤ 1)) && decide (opts ≤ 3)
  && decide (2 ^ 20 ≤ n) && decide (n ≤ 2 ^ 40) && decide (field bs 16 1 ≤ if slot then 48 else 67) && field bs 17 1 == 0
  && (if bit opts 1 then isPow2 (field bs 20 4) 10 30 else field bs 20 4 == 0)

/-- The mode exists for the target (Table 16.5). -/
def modeExists (bs : Bytes) : Bool :=
  let m := field bs 2 1
  field bs 1 1 == 1 || (decide (m ≤ 2) && !(m == 1 && (groupPort (field bs 4 1)).isSome))

/-- The lowest free identifier. -/
def freeTest (s : State) : Option Nat := leastFrom (fun i => s.test.tests.all (·.1 != i)) 16 1

/-- Result of a test command (Table 16.4). -/
def judgeTest (s : State) (bs : Bytes) : Nat :=
  let cmd := field bs 0 1
  if bs.length ≠ 32 || !zeros bs 18 2 || !zeros bs 24 8 || decide (4 ≤ field bs 7 1) || (cmd ≠ 1 && cmd ≠ 2) then 1
  else if cmd = 2 then
    match s.test.tests.find? (·.1 == field bs 17 1) with
    | some t => if t.2.stop.isNone then 0 else 5
    | none => 5
  else if !startFormed bs then 1
  else if !modeExists bs then 6
  else match testTarget bs with
    | none => 1
    | some t =>
      if !targetPermitted s (field bs 2 1) t then 2
      else if (freeTest s).isNone then 3
      else if targetBusy s t then 4 else 0

/-- A write of object 0x9010:00: the state, and whether it was accepted (R482). -/
def writeTest (bs : Bytes) (s : State) : State × Bool :=
  let r := judgeTest s bs
  let id := if field bs 0 1 = 2 then field bs 17 1 else (freeTest s).getD 0
  let s := s.onTest fun t => { t with result := if r = 0 then id * 256 else r }
  if r ≠ 0 then (s, false)
  else if field bs 0 1 = 2 then
    (s.onTest fun t => { t with tests := t.tests.map fun x => if x.1 = id then (x.1, { x.2 with stop := some 1 }) else x }, true)
  else match testTarget bs with
    | none => (s, false)
    | some tg =>
      let t : Test := { cmd := bs, target := tg, start := s.clk.hub, margin := bit (field bs 7 1) 0 }
      (s.onTest fun x => { x with tests := x.tests ++ [(id, t)] }, true)

/-! ### The end of a test (R484, R485) -/

/-- Lanes of a target: numbers from 0. -/
def testLanes : Target → Nat
  | .slot _ _ => 49
  | .bundle _ _ => 68

/-- Bits of the injection lane that the generator inverted over a run (R486). -/
def injected (t : Test) (lane compared : Nat) : Nat :=
  if bit (field t.cmd 7 1) 1 && field t.cmd 16 1 == lane then compared / field t.cmd 20 4 else 0

/-- A lane's entry: eye, sync losses, errors, bits compared. A lane that never locked reports all ones and 0 (R481). -/
def laneEntry (t : Test) (lanes : List LaneCount) (l : Nat) : Nat × Nat × Nat × Nat :=
  let c := (lanes.find? (·.lane == l)).getD { lane := l }
  let errors := if c.compared = 0 then 0xFFFFFFFF else Nat.min 0xFFFFFFFF (c.errors + injected t l c.compared)
  (if t.margin then c.eye % 256 else 0xFF, Nat.min 0xFFFF (look 0 l t.syncs), errors, c.compared)

/-- Every lane has compared its bits, or has never locked. -/
def runComplete (t : Test) (lanes : List LaneCount) : Bool :=
  (List.range (testLanes t.target)).all fun l =>
    let c := (laneEntry t lanes l).2.2.2
    c == 0 || decide (field t.cmd 8 8 ≤ c)

/-- The result record (Table 16.7). -/
def resultRecord (s : State) (id outcome : Nat) (t : Test) (lanes : List LaneCount) : Bytes :=
  let n := testLanes t.target
  leBytes 1 1 ++ leBytes 1 id ++ leBytes 1 outcome ++ leBytes 1 n ++ leBytes 4 ((s.clk.hub - t.start) / 1000) ++ leBytes 8 (hubStamp s)
  ++ (List.range n).flatMap fun l =>
    let (eye, syncs, errors, compared) := laneEntry t lanes l
    leBytes 1 l ++ leBytes 1 eye ++ leBytes 2 syncs ++ leBytes 4 errors ++ leBytes 8 compared

/-- A CA test's ACT of some bank and row, a free value of each, and its PRE: it counts in the tracker and takes a token
(R483). -/
def testAct (c : Nat) (s : State) : State :=
  let x := Config.choice s.draw
  updChan c (closeRow (x % 64) 0) (doAct c (x % 64) (x / 64 % 4096) none s.drawn)

/-- Commands that a slot's test sent, counted (Table 16.1): bursts of 8 beats a lane; how many ACTs a CA test sends is free. -/
def countTest (t : Test) (lanes : List LaneCount) (s : State) : State :=
  match t.target with
  | .bundle _ _ => s
  | .slot n p =>
    let bursts := ceilDiv ((lanes.map (·.compared)).foldl Nat.max 0) 8
    match field t.cmd 2 1 with
    | 0 => bump 0x8403 (n + 1) bursts s
    | 1 => bump 0x8404 (n + 1) bursts (bump 0x8403 (n + 1) bursts s)
    | 2 => forEach (List.range (Config.choice s.draw)) (fun _ s => testAct (slotNo n p) s) s.drawn
    | _ => s

/-- TEST_END (R484, R485): the run has compared its bits, or was stopped. -/
def execTestEnd (test : Fin 16) (lanes : List LaneCount) (s : State) : Answered :=
  whenReleased s fun s =>
    let id := test.val + 1
    match s.test.tests.find? (·.1 == id) with
    | none => s
    | some (_, t) =>
      if t.stop.isNone && !runComplete t lanes then s else
      let outcome := t.stop.getD 0
      let rec_ := resultRecord s id outcome t lanes
      let errors := Nat.min 0xFFFFFFFF (total ((List.range (testLanes t.target)).map fun l => (laneEntry t lanes l).2.2.1))
      let s := s.onTest fun x => { x with tests := x.tests.filter (·.1 ≠ id), results := x.results.filter (·.1 ≠ id) ++ [(id, rec_)] }
      let s := countTest t lanes s
      let s := match t.target with
        | .slot n p =>
          if (stackAt s n).running then askToken n p (updChan (slotNo n p) (fun c => { c with owesRest := true }) s) else s
        | .bundle _ _ => s
      notify .hub 0x9001 0 (leBytes 1 id ++ leBytes 1 outcome ++ slice t.cmd 1 1 ++ slice t.cmd 4 2 ++ leBytes 4 errors) s

/-- SYNC_LOSS (R481): more than 16 of 64 compared bits mismatch, so the checker counts a loss and locks again. -/
def execSyncLoss (test : Fin 16) (lane : Fin 68) (mismatches : Nat) (s : State) : Answered :=
  whenReleased s fun s =>
    if mismatches ≤ 16 then s else
    s.onTest fun x => { x with tests := x.tests.map fun e =>
      if e.1 = test.val + 1 && e.2.stop.isNone && decide (lane.val < testLanes e.2.target) then
        (e.1, { e.2 with syncs := put 0 lane.val (look 0 lane.val e.2.syncs + 1) e.2.syncs })
      else e }

/-- Object 0x9012 of an identifier. -/
def testState (s : State) (id : Nat) : Nat :=
  match s.test.tests.find? (·.1 == id) with
  | none => 0
  | some (_, t) =>
    let k := Nat.min 1000 (Config.testProgress id s.clk.hub)
    (if t.margin && k == 1000 then 2 else 1) + k * 2 ^ 8

/-! ### Test access port -/

/-- EXTEST takes effect: the start-up sequence is held, or the complex is in shutdown state 4 (R488). -/
def extestOpen (s : State) : Bool := s.start.state == 4 || s.power.shutdown == 4

/-- The chain serves the port: from ready onward while object 0x9020:00 is 1; before, while the sequence is held (R432). -/
def chainOpen (s : State) : Bool := if s.start.state = 0 then false else if s.start.state = 4 then true else objGet s 0x9020 0 == 1

/-- A load of an instruction that selects a data register: 0 bypass, 1 IDCODE, 2 boundary, 3 chain, 4 instruments. Nothing
loads while the controller is held in Test-Logic-Reset (R25). -/
def loadIr (code dr : Nat) (s : State) : State :=
  if s.test.reset then s else s.onTest fun t => { t with ir := code, dr := dr, extest := false }

/-- A load of an instruction that reaches the chain: counted, with notice 0x9002 at most once per 1 s (R488). -/
def loadChain (code dr : Nat) (s : State) : State :=
  if s.test.reset then s
  else if !chainOpen s then loadIr code 0 s
  else if s.start.state = 4 then loadIr code dr s
  else
    let s := (loadIr code dr s).onTest fun t => { t with accesses := (t.accesses + 1) % 2 ^ 32, unsaid := t.unsaid + 1 }
    let due := match s.test.saidAt with
      | some a => decide (a + 1000000000 ≤ s.clk.hub)
      | none => true
    if !due then s else
    let n := s.test.unsaid
    let s := s.onTest fun t => { t with unsaid := 0, saidAt := some s.clk.hub }
    notify .hub 0x9002 1 (leBytes 1 code ++ leBytes 4 n) s

/-- A load of EXTEST (R488). -/
def loadExtest (s : State) : State :=
  if s.test.reset then s
  else if extestOpen s then (loadIr 0x00 2 s).onTest fun t => { t with extest := true }
  else (loadIr 0x00 0 s).onTest fun t => { t with bypassed := (t.bypassed + 1) % 2 ^ 32 }

/-- What the boundary register captures: qz_rst_n, the node ID straps, and pins that the state does not hold (R487). -/
def loadSample (s : State) : State :=
  if s.test.reset then s else
  let pins := (List.range 68).map fun i => bit (Config.choice s.draw) i
  ((loadIr 0x02 2 s).drawn).onTest fun t => { t with boundary := [s.released] ++ (List.range 4).map (bit s.ident.nodeId) ++ pins }

/-- EXTEST. -/
def execExtest (s : State) : Answered := whenReleased s loadExtest
/-- IDCODE (R487). -/
def execIdcode (s : State) : Answered := whenReleased s (loadIr 0x01 1)
/-- SAMPLE_PRELOAD (R487). -/
def execSamplePreload (s : State) : Answered := whenReleased s loadSample
/-- CHAIN_SELECT (R488). -/
def execChainSelect (s : State) : Answered := whenReleased s (loadChain 0x10 3)
/-- BYPASS (R487). -/
def execBypass (s : State) : Answered := whenReleased s (loadIr 0xFF 0)

/-- INSTRUMENTS (R489): a claim of a target that is free and permitted; one that another party holds changes nothing. Naming
its own claim again, the port releases it (DESIGN CHOICE, assumption 99). -/
def execInstruments (claim : Option Target) (s : State) : Answered :=
  whenReleased s fun s =>
    let open_ := chainOpen s && !s.test.reset
    let s := loadChain 0x11 4 s
    match claim with
    | none => s
    | some t =>
      if open_ && s.test.claims.contains t then s.onTest fun x => { x with claims := x.claims.filter (· != t) }
      else if !open_ || targetBusy s t || !(targetPermitted s 0 t || targetPermitted s 3 t) then s
      else s.onTest fun x => { x with claims := x.claims ++ [t] }

/-- TAP_INSTRUCTION_LOAD (Table 16.9). -/
def execTapInstructionLoad (code : BitVec 8) (s : State) : Answered :=
  whenReleased s fun s =>
    match code.toNat with
    | 0x00 => loadExtest s
    | 0x01 => loadIr 0x01 1 s
    | 0x02 => loadSample s
    | 0x10 => loadChain 0x10 3 s
    | 0x11 => loadChain 0x11 4 s
    | c => loadIr c 0 s

/-- TEST_LOGIC_RESET (R25): tap_trst_n low holds the controller, which selects IDCODE; the networks' claims end. -/
def execTestLogicReset (held : Bool) (s : State) : Answered :=
  whenReleased s fun s =>
    if held then s.onTest fun t => { t with ir := 0x01, reset := true, dr := 1, extest := false, claims := [] }
    else s.onTest fun t => { t with reset := false }

/-- The IDCODE register (R487). -/
def idcodeWord : Nat :=
  1 + Config.manufacturer.toNat * 2 + 0x515A * 2 ^ 12 + Config.hubStepping.toNat % 16 * 2 ^ 28

end Sys2Proof.Machine
end

