-- ==== Sys2Proof/Machine/Objects.lean ====
section
/-!
DEFINITION. What a read of each object returns (the object tables of chapters 1 to 16). Objects that are not named here
read their Default column (RO) or their written value (RW, RWS); a WO object reads zero (R15).
-/
namespace Sys2Proof.Machine

/-! ### Requesters and their windows (R84, R169, R187, R240, R322, R358) -/

/-- Window set of a requester: sessions 0 to 8, then CP0 to CP3. -/
def windowOf : Src → Nat
  | .sp _ session _ => session
  | .cp port _ _ => 9 + port.val

def winAt (s : State) (w : Nat) : Windows := nth s.win w {}
def updWin (w : Nat) (f : Windows → Windows) (s : State) : State := s.onWin (modNth · w f)

/-- An I32 as the object's number (R15). -/
def i32 (x : Int) : Nat := (x % 2 ^ 32).toNat
/-- A count that its U32 or U16 object can hold wraps or saturates nowhere in the manual; it is shown modulo its width. -/
def u32 (x : Nat) : Nat := x % 2 ^ 32

/-- Bits [k · w + w − 1 : k · w] from a list. -/
def packBits (w : Nat) (xs : List Nat) : Nat := xs.foldr (fun x acc => x + 2 ^ w * acc) 0
/-- A mask from flags. -/
def maskOf (bs : List Bool) : Nat := packBits 1 (bs.map b2n)

/-! ### Channel, arbiter and slot windows -/

/-- Physical slot of a logical channel, 127 when none serves it. -/
def pchOf (s : State) (g : Nat) : Nat := match servingSlot s g with
  | some c => c % 66
  | none => 127

/-- Object 0x3071 of a channel (Table 5.9). A bank counts as throttled without a token or spaced as a whole; an offender row
alone does not throttle its bank (DESIGN CHOICE, assumption 80). -/
def channelState (s : State) (g : Nat) : Nat :=
  let c := slotNo (g / 64) (pchOf s g)
  let served := (servingSlot s g).isSome
  let x := if served then chanAt s c else {}
  pchOf s g + b2n (liveChannel s g) * 2 ^ 7 + b2n (x.inRest || (served && restCalled s c && restReady s c)) * 2 ^ 8
  + b2n (served && pauseCalled s c) * 2 ^ 9 + b2n (stackAt s (g / 64)).hot * 2 ^ 10
  + b2n (x.banks.any fun b => b.2.tokens == 0 || b.2.spaced) * 2 ^ 11 + b2n x.selfRefresh * 2 ^ 12

/-- Object 0x3421 of a channel (Table 6.6). -/
def arbiterState (s : State) (g : Nat) : Nat :=
  match servingSlot s g with
  | none => 0x1C0
  | some c =>
    let us := (List.range 6).filterMap fun j => presented s 2 (chanArb c) j
    let inputs := maskOf ((List.range 6).map fun j => us.any (·.input == j))
    let holder := (arbAt s (chanArb c)).ticket.bind fun t => (s.tree.units.find? (·.id == t)).map (·.input)
    inputs + holder.getD 7 * 2 ^ 6 + (us.map (·.score)).foldl Nat.max 0 % 256 * 2 ^ 9

/-- Object 0x5022 of a channel (Table 11.13). -/
def slotState (s : State) (g : Nat) : Nat :=
  let c := slotNo (g / 64) (pchOf s g)
  let served := (servingSlot s g).isSome
  let sw16 := if served then swAt s c 16 else 0xFFF
  let sw17 := if served then swAt s c 17 else 15
  pchOf s g + b2n (liveChannel s g) * 2 ^ 7 + bits sw16 5 0 * 2 ^ 8 + bits sw16 11 6 * 2 ^ 14 + bits sw17 3 0 * 2 ^ 20
  + (if served then (chanAt s c).sectors.length else 0) % 128 * 2 ^ 24

/-- Object 0x5020 of a stack. -/
def stackSpares (s : State) (n : Nat) : Nat :=
  if !s.variant.enables n then 0 else
  let copy := match copyOf s n with
    | some h => h.gch % 64
    | none => 127
  let live := ((List.range 64).filter fun ch => liveChannel s (64 * n + ch)).length
  let barren := Nat.min 255 (((stackAt s n).rows.filter fun r => r.2.1 == 0).length)
  Nat.min 3 (goodSpares s n).length + live * 2 ^ 2 + copy * 2 ^ 9 + Nat.min 255 (spareLanesUsed s n) * 2 ^ 16 + barren * 2 ^ 24

/-! ### Scalars by chapter -/

/-- Chapters 1 and 2. -/
def identObject (s : State) (index sub : Nat) : Option Nat :=
  match index with
  | 0x1000 => some s.variant.deviceType
  | 0x1002 => some fusedId
  | 0x1003 => some (if sub = 1 then Config.hubStepping.toNat else nth s.ident.medStep (sub - 2) 0)
  | 0x1004 => some (match sub with
    | 1 => s.variant.mask
    | 2 => s.variant.maxRate
    | 3 => s.variant.ceiling
    | 4 => s.variant.envelope
    | 5 => s.variant.foster
    | _ => s.variant.exported)
  | 0x1005 => some (if sub = 1 then hubWord else nth s.ident.medWord (sub - 2) 0)
  | 0x1006 => some (quadCaps s (sub - 1))
  | 0x1007 => some (complexCaps s)
  | 0x1010 => some (nth s.ident.stackId (sub - 1) 0)
  | 0x1200 => some (hubStamp s)
  | 0x1201 => some (quadTime s (sub - 1) % 2 ^ 61)
  | 0x1202 => some (maskOf s.clk.lost + b2n s.clk.running.isSome * 2 ^ 8)
  | 0x1203 => some (if sub = 1 then 0 else nth s.clk.snap (sub - 2) 0)
  | 0x1210 => some (dateNow s)
  | 0x1211 => some s.clk.dateSet
  | 0x1220 => some (u32 s.clk.cycles)
  | 0x1221 => some (u32 (poweredNow s))
  | 0x1230 => some (1000 + Config.speed (hubMs s) % 311)
  | _ => none

/-- Chapter 3. -/
def mapObject (s : State) (w index sub : Nat) : Option Nat :=
  match index with
  | 0x2001 => some (match sub with
    | 1 => budget s
    | 2 => liveCount s
    | 3 => guardCount s
    | 4 => mapOuts s
    | 5 => fosterFree s
    | _ => s.map.foster.length)
  | 0x2011 => some (winAt s w).seg
  | 0x2012 => some (curEntry s (((winAt s w).seg + sub - 1) % 524288)).word
  | 0x2013 => some (winAt s w).result
  | 0x2022 => some (Nat.min 16 s.map.moves.length)
  | 0x2023 => some (u32 s.map.moved)
  | 0x2030 => some (match s.map.rebuild with
    | some n => 1 + n % 2 ^ 20 * 2
    | none => 0)
  | 0x2031 => some (u32 s.map.passes)
  | 0x2040 => some s.touch.length
  | _ => none

/-- Chapter 4. -/
def portObject (s : State) (index sub : Nat) : Option Nat :=
  let p := sub - 1
  let d := portAt s p
  match index with
  | 0x2420 => some d.tags.length
  | 0x2440 => some (b2n d.up + b2n d.quiet * 2 + b2n d.chatter.isSome * 4
      + (liveBundles (linkAt s (portGroup p))).length * 2 ^ 3)
  | 0x2441 => some (packBits 4 ((List.range 4).map fun q => nth d.gens q 0 % 16))
  | 0x2460 => some d.dropped
  | 0x2461 => some d.collective
  | _ => none

/-- Chapters 5 and 6. -/
def channelObject (s : State) (w index sub : Nat) : Option Nat :=
  match index with
  | 0x3001 => some (pinRate s)
  | 0x3002 => some (stackAt s (sub - 1)).step
  | 0x3030 => some (maskOf (s.stk.map (·.hot)))
  | 0x3031 => some (i32 (stackAt s (sub - 1)).temp)
  | 0x3040 => match sub with
    | 3 => some (total (s.quads.map (·.nrfs)) % 2 ^ 64)
    | 4 => some (u32 (total (s.quads.map (·.offenders.2.2))))
    | _ => none
  | 0x3050 => match sub with
    | 2 => some (total (s.stk.map (·.rests)))
    | 3 => some ((s.chans.filter fun c => c.2.interval == 4000).length)
    | _ => none
  | 0x3060 => some (u32 (stackAt s (sub - 1)).caReplays)
  | 0x3070 => some (winAt s w).chan
  | 0x3071 => some (channelState s (((winAt s w).chan + sub - 1) % 2048))
  | 0x3410 => some (nth s.tree.high (sub - 1) 0 % 256)
  | 0x3412 => some (maskOf ((List.range 48).map s.tree.masked.contains))
  | 0x3413 => some ((s.tree.units.filter fun u => u.locked && (u.level == 1 || u.level == 2)).length)
  | 0x3420 => some (winAt s w).arb
  | 0x3421 => some (arbiterState s (((winAt s w).arb + sub - 1) % 2048))
  | _ => none

/-- Object 0x3832 of a port. -/
def urgencyState (s : State) (p : Nat) : Nat :=
  let u := fun (g : Nat) => nth s.reg.urgency (8 * p + g) {}
  packBits 2 ((List.range 8).map fun g => (u g).level % 4) + maskOf ((List.range 8).map fun g => (u g).demoted) * 2 ^ 16
  + maskOf ((List.range 8).map fun g => (u g).chatter) * 2 ^ 24

/-- Object 0x3841 of a port. -/
def gateState (s : State) (p : Nat) : Nat :=
  let l := nth s.reg.gates p {}
  let active := !l.entries.isEmpty
  (if active then (l.at s.clk.hub).1 else 0) + b2n active * 2 ^ 6 + b2n (nth s.reg.gateNext p none).isSome * 2 ^ 7
  + (if active then l.mask s.clk.hub else 0) % 256 * 2 ^ 8

/-- Chapter 7. -/
def regObject (s : State) (index sub : Nat) : Option Nat :=
  let e := entryAt s (sub - 1)
  match index with
  | 0x3801 => some s.reg.w
  | 0x3811 => some e.rsv
  | 0x3812 => some e.eff
  | 0x3813 => some s.reg.result
  | 0x3820 => some (u32 (nth (shownFloors s) (sub - 1) 0))
  | 0x3821 => some (ratFloor (quadFloor s true (sub - 1))).toNat
  | 0x3832 => some (urgencyState s (sub - 1))
  | 0x3841 => some (gateState s (sub - 1))
  | 0x3850 => if 46 < sub then some 0 else none
  | 0x3851 => some (u32 e.excess)
  | 0x3852 => some (u32 e.worst)
  | 0x3861 => some (e.depth % 2 ^ 16)
  | 0x3862 => some (e.depthMax % 2 ^ 16)
  | 0x3863 => some (u32 e.delay)
  | 0x3864 => some (u32 e.delayMax)
  | _ => none

/-- Object 0x4022 of a pass. -/
def passState (s : State) (i : Nat) : Nat :=
  match passAt s i with
  | none => 0
  | some p => 1 + b2n p.running * 2 + p.options % 256 * 2 ^ 8 + (if p.size = 0 then 0 else p.done * 1000 / p.size) * 2 ^ 16

/-- Chapters 8 to 10. -/
def codecObject (s : State) (w index sub : Nat) : Option Nat :=
  let q := sub - 1
  match index with
  | 0x4021 => some s.codec.result
  | 0x4022 => some (passState s (sub - 1))
  | 0x4030 => some (winAt s w).blocks
  | 0x4040 => some (if sub = 1 then s.map.guards.length else (s.rehomes.filter (·.kind == 2)).length)
  | 0x4041 => some (if sub = 0 then s.codec.lost.length else nth s.codec.lost (sub - 1) 0)
  | 0x4050 => some (total ((s.chans.filter fun c => quadOfSlot c.1 == q).map fun c => c.2.sectors.length))
  | 0x4051 => some (s.codec.short.filter fun r => belowStrength s r.1 r.2.1 r.2.2).length
  | 0x4820 => some ((s.engines.outings.filter (·.1.1 == q)).length + walksActive s q * 2 ^ 9 + engInFlight s q % 2 ^ 15 * 2 ^ 16)
  | 0x4821 => some (bagsInFlight s)
  | 0x4830 => some (nth s.engines.totals (sub - 1) 0)
  | 0x4C22 => some (Nat.min 4096 s.fabric.lines.length + b2n (decide (4096 ≤ linesUsed s)) * 2 ^ 13)
  | 0x4C23 => some (nth s.fabric.totals (sub - 1) 0)
  | 0x4C30 => some (winAt s w).sharer
  | 0x4C31 => some (look 0 (((winAt s w).sharer + sub - 1) % 524288) s.map.sharers)
  | 0x4C32 => some ((liveSegs s).filter (·.2.replica)).length
  | 0x4C33 => some (nth s.fabric.totals 4 0)
  | _ => none

/-- Chapter 11. -/
def spareObject (s : State) (w index sub : Nat) : Option Nat :=
  match index with
  | 0x5020 => some (stackSpares s (sub - 1))
  | 0x5021 => some (winAt s w).slot
  | 0x5022 => some (slotState s (((winAt s w).slot + sub - 1) % 2048))
  | 0x5031 => some s.start.repairResult
  | 0x5032 => some ((queuedHard s).length % 2 ^ 16 + (queuedColumns s).length % 2 ^ 16 * 2 ^ 16)
  | 0x5033 => some (softRepairs s).length
  | 0x5040 =>
    let d := nth s.start.disagreements (sub - 1) (0, 0, false, false)
    some (d.1 % 2 ^ 16 + d.2.1 % 4 * 2 ^ 16 + b2n d.2.2.1 * 2 ^ 18 + b2n d.2.2.2 * 2 ^ 19)
  | 0x5041 => some (u32 s.start.retired.length)
  | 0x5401 => some (match sub with
    | 1 => u32 s.nor.ledger.next
    | 2 => 4096 * s.nor.ledger.freeCount ledgerSize
    | 3 => u32 s.nor.ledger.erases
    | 4 => u32 s.nor.journal.next
    | 5 => u32 s.nor.journal.erases
    | _ => s.nor.ledger.bad.length + s.nor.journal.bad.length)
  | 0x5411 => some s.nor.jDropped
  | 0x5420 => some (winAt s w).journal
  | _ => none

/-- Time to the throttle threshold, µs (object 0x6014). -/
def limitMicros (s : State) (n : Nat) : Nat :=
  match if s.variant.enables n then timeToLimit s n (throttleAt s n) else none with
  | some t => Nat.min 0xFFFFFFFF (ratFloor (t * 1000)).toNat
  | none => 0xFFFFFFFF

/-- Chapter 12. -/
def powerObject (s : State) (index sub : Nat) : Option Nat :=
  let n := sub - 1
  let h := heatAt s n
  match index with
  | 0x6002 => some (milliwatts (totalPower s))
  | 0x6003 => some (if s.variant.enables n then milliwatts (stackPower s n) else 0)
  | 0x6004 => some (milliwatts (diePower s n))
  | 0x6005 => some ((ratFloor s.power.energy).toNat % 2 ^ 64)
  | 0x6006 => some s.image.powerSet
  | 0x6011 => some s.power.level
  | 0x6012 => some (if s.variant.enables n then wantedLevel s n % 16 + thermalLevel s n % 16 * 2 ^ 4 + b2n h.flask.isSome * 2 ^ 8
      + b2n (readoutsFailed s n) * 2 ^ 9 + b2n h.diverged * 2 ^ 10 else 0)
  | 0x6013 => some (i32 (quarters h.est))
  | 0x6014 => some (limitMicros s n)
  | 0x6015 => some (i32 (nth s.power.junction n 0))
  | 0x6021 => some (u32 (nth s.power.flaskTotals n 0))
  | 0x6033 => some s.power.shutdown
  | _ => none

/-- Object 0x1110 of a session. -/
def sessionWord (s : State) (k : Nat) : Nat :=
  match s.svc.sessions.find? (·.1 == k) with
  | none => 0
  | some (_, x) => x.mac + x.role % 4 * 2 ^ 48 + 2 ^ 50 + b2n (s.svc.transfers.any fun t => t.2.session == k) * 2 ^ 51

/-- Chapter 13. -/
def serviceObject (s : State) (index sub : Nat) : Option Nat :=
  match index with
  | 0x1101 => match sub with
    | 1 => some s.ident.nodeId
    | 4 => some (b2n s.svc.plcaOk + b2n (s.ident.nodeId == 0) * 2)
    | _ => none
  | 0x1102 => if sub = 1 then some s.svc.mac else none
  | 0x1104 => some (u32 (nth s.svc.counts (sub - 1) 0))
  | 0x1110 => some (sessionWord s sub)
  | 0x1112 => some (u32 s.svc.failures)
  | 0x1120 => some (portAt s (sub - 1)).role
  | 0x1132 => some (nth s.svc.subs (sub - 1) {}).drops
  | 0x1141 => some (s.nor.settings.length % 2 ^ 16 + s.nor.free % 32 * 2 ^ 16)
  | _ => none

/-- Code of a quadrant's state (object 0x7010). -/
def QState.code : QState → Nat
  | .starting => 0 | .normal => 1 | .held => 2 | .slate => 3 | .offline => 4

/-- Chapters 14 and 15. -/
def startObject (s : State) (index sub : Nat) : Option Nat :=
  match index with
  | 0x7001 => some (if !isReady s then s.start.state else if fixedMapOn s then 3
                    else if (List.range 4).any (fun k => inSlate s k || isOffline s k) then 2 else 1)
  | 0x7002 => some (nth s.start.times (sub - 1) 0)
  | 0x7010 =>
    let k := quadAt s (sub - 1)
    some (k.st.code + b2n k.hold * 2 ^ 3 + k.slate % 16 * 2 ^ 4 + k.offCause % 4 * 2 ^ 8)
  | 0x7030 => let g := linkAt s (sub - 1)
              some (g.live % 2 ^ 16 + g.retrain % 2 ^ 16 * 2 ^ 16)
  | 0x7031 => some ((linkAt s (sub - 1)).inUse % 2 ^ 16)
  | 0x7032 => some (detourMask s)
  | 0x7060 => some (if sub = 1 then s.start.faults else u32 s.start.longest)
  | 0x7810 => match sub with
    | 1 => some s.image.source
    | 2 => some s.image.version
    | 3 => some s.image.security
    | 4 => some s.image.format
    | _ => none
  | 0x7811 => let r := regionAt s sub
              some (r.state + r.seq * 2 ^ 8)
  | 0x7812 => some (s.image.skipped % 2 ^ 16)
  | 0x7821 => some s.image.result
  | 0x7823 => some s.image.copy
  | 0x7830 => some (nth s.image.attempts (sub - 1) 0xFF)
  | _ => none

/-- Chapter 16. -/
def testObject (s : State) (index sub : Nat) : Option Nat :=
  match index with
  | 0x8001 => some (overflowSummary s)
  | 0x8011 => some (u32 (nth s.cnt.shown (sub - 1) 0))
  | 0x8012 => some (u32 (nth s.cnt.shown (sub + 5) 0))
  | 0x9001 => some idcodeWord
  | 0x9011 => some s.test.result
  | 0x9012 => some (testState s sub)
  | 0x9021 => some s.test.accesses
  | 0x9022 => some s.test.bypassed
  | _ => if isCounter index then some (counterValue s index sub) else none

/-! ### Values -/

/-- An array's subindex 00 that holds a fixed entry count. -/
def isEntryCount (index sub : Nat) : Bool := sub == 0 && (objRow index 1).isSome && index ≠ 0x4041

/-- The value that state computes for a scalar object; none where the object reads its written or Default value. -/
def computed (s : State) (w index sub : Nat) : Option Nat :=
  if isEntryCount index sub then none
  else if index < 0x1100 then identObject s index sub
  else if index < 0x1200 then serviceObject s index sub
  else if index < 0x2000 then identObject s index sub
  else if index < 0x2400 then mapObject s w index sub
  else if index < 0x3000 then portObject s index sub
  else if index < 0x3800 then channelObject s w index sub
  else if index < 0x4000 then regObject s index sub
  else if index < 0x5000 then codecObject s w index sub
  else if index < 0x6000 then spareObject s w index sub
  else if index < 0x7000 then powerObject s index sub
  else if index < 0x8000 then startObject s index sub
  else testObject s index sub

/-- Bytes of the text of object 0x1001:00. -/
def designationBytes (v : Variant) : Bytes := padTo 16 (v.designation.toList.map fun c => BitVec.ofNat 8 c.toNat)

/-- The entry at a journal read position (object 0x5421). -/
def journalEntry (s : State) (seq : Nat) : Bytes :=
  match s.nor.journal.recs.find? (·.seq == seq) with
  | some r => padTo 4096 r.bytes
  | none => List.replicate 4096 0

/-- The 64 block words of a segment (object 0x4031). -/
def blockWords (s : State) (seg : Nat) : Bytes :=
  let e := curEntry s seg
  if e.state = .absent || !e.blockSum then List.replicate 256 0
  else (List.range 64).flatMap fun b => leBytes 4 (readBlockWord s e.place b)

/-- The value of a BLOB or STR object, none for a scalar. -/
def blobObject (s : State) (w index sub : Nat) : Option Bytes :=
  match index with
  | 0x1001 => some (designationBytes s.variant)
  | 0x1122 => some (List.replicate 32 0)
  | 0x2450 => if sub = 0 then none else some (portAt s (sub - 1)).lastErr
  | 0x3840 => if sub = 0 then none else some (nth s.reg.gates (sub - 1) {}).raw
  | 0x4023 => if sub = 0 then none else some ((s.codec.summaries[sub - 1]?).getD (List.replicate 96 0))
  | 0x4031 => some (blockWords s (winAt s w).blocks)
  | 0x4840 => some s.engines.lastFail
  | 0x5421 => some (journalEntry s (winAt s w).journal)
  | 0x5430 => if sub = 0 then none else some ((s.nor.forecasts[sub - 1]?).getD (forecastEntry sub 0 0 0xFFFFFFFF 0))
  | 0x5440 => if sub = 0 then none
    else some (if s.variant.enables (sub - 1) then wearRecord s (sub - 1) else List.replicate 32 0)
  | 0x7003 => some s.start.result
  | 0x7810 => if sub = 5 then some s.image.digest else none
  | 0x9013 => if sub = 0 then none else some (look (List.replicate 16 0) sub s.test.results)
  | _ => none

/-- What a read of a defined object returns. -/
def readObject (s : State) (w index sub : Nat) (r : ObjRow) : Bytes :=
  if r.access = 2 then List.replicate r.size 0
  else match blobObject s w index sub with
    | some bs => bs
    | none =>
      let v := match computed s w index sub with
        | some v => v
        | none => if r.access = 0 then r.dflt else objGet s index sub
      leBytes r.size v

end Sys2Proof.Machine
end

