-- ==== Sys2Proof/Machine/Startup.lean ====
section
/-!
DEFINITION. The release of qz_rst_n and the start-up sequence (R24 to R35, R326 to R330, R339 to R342, R354, R428 to R437),
the start-up hold, hard repair results, and the assertion of qz_rst_n.
-/
namespace Sys2Proof.Machine

/-! ### What a release starts from (R26, R45, R60) -/

/-- Everything but the NOR device's content at its reset value; records not yet programmed are lost. -/
def cold (s : State) : State :=
  { pending := s.pending, variant := s.variant, draw := s.draw,
    nor := { s.nor with waiting := [], jSecond := 0, jCount := 0, jDropped := 0, jUnsaid := 0 } }

/-- QZ_RST_N_ASSERT (R26). -/
def execQzRstNAssert (s : State) : Answered := .next (cold s)

/-! ### The ledger's state (R351, R354) -/

/-- A record passes its check. -/
def Rec.sound (r : Rec) : Bool := crc32c (r.bytes.take (r.bytes.length - 4)) == field r.bytes (r.bytes.length - 4) 4

/-- Records up to the first that fails its check or breaks the sequence. -/
def soundRun : List Rec → List Rec
  | [] => []
  | r :: rest =>
    if !r.sound then []
    else match rest with
      | [] => [r]
      | x :: _ => if x.seq = (r.seq + 1) % 2 ^ 32 then r :: soundRun rest else [r]

/-- The begins of the checkpoints whose begin and end pass their checks and agree, the newest first. -/
def checkpointBegins (rs : List Rec) : List Rec :=
  (rs.reverse.filter (·.kind == 0x0F)).filterMap fun e => rs.find? fun b => b.kind == 1 && b.seq == e.at 0 4 && b.sound && e.sound

/-- The newest complete checkpoint of this unit and the records after it; none when there is none. -/
def ledgerRecords (rs : List Rec) : Option (List Rec) :=
  ((checkpointBegins rs).find? fun b => b.at 0 8 == fusedId).map fun b => soundRun (rs.dropWhile (·.seq != b.seq))

/-- Slot and lane of a Table 11.2 entry of MEDk. -/
def entrySlot (k e : Nat) : Nat × Nat := (8 * k + bits e 23 21, bits e 20 14)
def entryLane (e : Nat) : Nat := bits e 13 8
def entryKind (e : Nat) : Nat := e / 2 ^ 28

/-- The ledger holds a unit as retired. -/
def keepRetired (u : Unit11) (s : State) : State :=
  let s := s.onStart fun t => { t with retired := if t.retired.contains u then t.retired else t.retired ++ [u] }
  if u.die = 0 || 4 < u.die then s else
  let (n, p) := entrySlot (u.die - 1) u.entry
  match entryKind u.entry with
  | 1 => updStack n (fun t => { t with spares := t.spares.filter (· ≠ p) }) s
  | 2 => updStack n (fun t => { t with badLanes := if t.badLanes.contains (p, entryLane u.entry) then t.badLanes
                                                     else t.badLanes ++ [(p, entryLane u.entry)] }) s
  | _ => s

/-- A spare lane serves a position from now on. -/
def reassign (c pos spare : Nat) (s : State) : State :=
  let s := match holderLane s c pos with
    | some l => assignLane c l none s
    | none => s
  assignLane c spare (some pos) s

/-- A queued repair is what a record of an action ends: a row for actions 1, 3 and 5, a column for 2, 4 and 6, either for the
others (Table 11.9). -/
def endsQueued (action : Nat) (r : Repair) : Bool :=
  if action = 1 || action = 3 || action = 5 then r.action == 5
  else if action = 2 || action = 4 || action = 6 then r.action == 6
  else r.action == 5 || r.action == 6

/-- Drop the oldest queued repair of an address that a record ends. -/
def unqueue (x : Repair) (s : State) : State :=
  s.onStart fun t => { t with repairs := dropFirst (fun r =>
    r.stack == x.stack && r.pch == x.pch && r.bank == x.bank && r.addr == x.addr && endsQueued x.action r) t.repairs }

/-- Drop the soft repair of an address: action 1 row, 2 column. -/
def unsoft (x : Repair) (action : Nat) (s : State) : State :=
  s.onStart fun t => { t with repairs := t.repairs.filter fun r => r != { x with action := action } }

/-- Remove the sector map entries that a repair covers: of a row, or of a column (R336, R341). -/
def uncover (x : Repair) (column : Bool) (s : State) : State :=
  updChan (slotNo x.stack x.pch) (fun c => { c with sectors := c.sectors.filter fun e =>
    !(e.1 == x.bank && (if column then e.2.2.1 == x.addr else e.2.1 == x.addr)) }) s

/-- A stack repair record (kind 0x08). -/
def applyRepair (x : Repair) (s : State) : State :=
  let add := fun (s : State) => s.onStart fun t => { t with repairs := t.repairs ++ [x] }
  match x.action with
  | 1 => uncover x false (add s)
  | 2 => uncover x true (add (unqueue x s))
  | 3 => uncover x false (unsoft x 1 (unqueue x s))
  | 4 => uncover x true (unsoft x 2 (unqueue x s))
  | 5 | 6 => add s
  | _ => unqueue x s

/-- One ledger record applied (Table 11.9). -/
def applyRecord (r : Rec) (s : State) : State :=
  let b := r.at
  match r.kind with
  | 0x02 => updStack (b 0 1) (fun t => { t with table := modNth t.table (b 1 1) fun _ => b 2 1, spares := t.spares.filter (· ≠ b 2 1) }) s
  | 0x03 => reassign (slotNo (b 0 2 / 64) (b 2 1)) (b 3 1) (b 4 1) s
  | 0x04 => keepRetired ⟨b 0 1, b 4 4⟩ s
  | 0x05 =>
    let s := updStack (b 0 2 / 64) (fun t => { t with table := modNth t.table (b 0 2 % 64) fun _ => 255 }) s
    s.onMap fun m => { m with mapped := m.mapped ++ [b 0 2] }
  | 0x06 =>
    if b 0 1 ≠ 1 then s else
    s.onMap fun m => { m with foster := m.foster ++ [{ channel := true, src := b 2 2, first := b 4 4, count := b 8 2, dst := b 10 2, dstFirst := b 12 4 }] }
  | 0x07 => updChan (slotNo (b 0 2 / 64) (b 2 1)) (fun c => { c with sectors := c.sectors ++ [(b 3 1, b 4 2, b 6 1, b 7 1)] }) s
  | 0x08 => applyRepair ⟨b 0 1, b 1 1, b 2 1, b 3 1, b 4 2⟩ s
  | 0x0A =>
    let peak : Int := if b 2 2 < 32768 then b 2 2 else (b 2 2 : Int) - 65536
    updStack (b 0 1) (fun t => { t with peak := peak, ms85 := b 4 4 * 3600000, ms95 := b 8 4 * 3600000, wearCorr := b 12 8,
                                        wearUncorr := b 20 4, wearCa := b 24 4 }) s
  | 0x10 =>
    let n := b 0 1
    let p := b 1 1
    let es := (List.range (b 8 2)).map fun i => (b (12 + 8 * i) 1, b (14 + 8 * i) 2, b (13 + 8 * i) 1, b (16 + 8 * i) 1)
    let s := setSw (slotNo n p) 17 (b 6 2) (setSw (slotNo n p) 16 (b 4 2) s)
    let s := updStack n (fun t => { t with
      table := if b 2 1 < 64 then modNth t.table (b 2 1) fun _ => p else t.table,
      spares := if b 2 1 = 0xFE then t.spares else t.spares.filter (· ≠ p) }) s
    updChan (slotNo n p) (fun c => { c with sectors := es }) s
  | 0x11 => forEach (List.range (b 2 2)) (fun i s => s.onStart fun t =>
      { t with repairs := t.repairs ++ [⟨b 0 1, b 1 1, b (4 + 4 * i) 1, b (5 + 4 * i) 1, b (6 + 4 * i) 2⟩] }) s
  | _ => s

/-- The ledger applied at a start; without a complete checkpoint of this unit it starts empty, with notice 0x5061 when it
holds records. Channel records stand only for mapped-out channels, and no frame record survives (R60). -/
def applyLedger (s : State) : State :=
  if !s.nor.present then s else
  match ledgerRecords s.nor.ledger.recs with
  | some rs =>
    let s := forEach rs applyRecord s
    let s := s.onNor fun n => { n with ledger := rs.getLast?.elim n.ledger fun e => n.ledger.cutAfter ledgerSize e }
    s.onMap fun m => { m with foster := m.foster.filter fun r => m.mapped.contains r.src }
  | none => if s.nor.ledger.recs.isEmpty then s
    else
      let cause := if (checkpointBegins s.nor.ledger.recs).isEmpty then 1 else 2
      notify .hub 0x5061 2 [cause] (s.onNor fun n => writeDirectory { n with ledger := n.ledger.restart ledgerSize, history := [] })

/-! ### Fuse maps (R327, R328) -/

/-- An entry of a die's map sets no reserved kind or field. -/
def fuseEntryOk (die e : Nat) : Bool :=
  bits e 27 24 == 0 && match entryKind e with
    | 1 => die != 0 && bits e 13 0 == 0
    | 2 => die != 0 && bits e 7 0 == 0
    | 3 => bits e 7 0 == 0
    | _ => false

/-- A fuse map passes its check. -/
def fuseMapOk (die : Nat) (ws : List (BitVec 32)) : Bool :=
  let w0 := (ws.headD 0).toNat
  let n := bits w0 7 0
  ws.length == n + 2 && bits w0 15 8 == 1 && bits w0 31 16 == die
  && (nth ws (n + 1) 0).toNat == crc32c ((ws.take (n + 1)).flatMap fun w => leBytes 4 w.toNat)
  && ((ws.drop 1).take n).all fun e => fuseEntryOk die e.toNat

/-- Entries of a die's good read of try t. -/
def fuseRead (env : StartEnv) (die t : Nat) : Option (List Nat) :=
  let d := if die = 0 then env.hub else nth env.meds (die - 1) {}
  (d.fuseReads[t]?).bind fun x =>
    if x.1 == x.2 && fuseMapOk die x.1 then some (((x.1.drop 1).take (x.1.length - 2)).map (·.toNat)) else none

/-- A die's shadow of this unit: unit ID, then the map's entries. -/
def shadowOf (s : State) (die : Nat) : Option (List Nat) :=
  (s.nor.shadows.find? fun x => x.1 == die && x.2.headD 0 == fusedId).map fun x => x.2.drop 1

/-- A good read that differs from the shadow rewrites it and journals the difference. -/
def takeShadow (die : Nat) (entries : List Nat) (s : State) : State :=
  let old := shadowOf s die
  if !s.nor.present || old == some entries then s else
  let was := old.getD []
  let added := (entries.filter (!was.contains ·)).length
  let removed := (was.filter (!entries.contains ·)).length
  let s := countErase 1 (s.onNor fun n => { n with shadows := n.shadows.filter (·.1 ≠ die) ++ [(die, fusedId :: entries)] })
  journal 0x89 (leBytes 1 die ++ [0] ++ leBytes 2 added ++ leBytes 2 removed ++ leBytes 2 0) s

/-! ### Reconciliation (R329, R330) -/

/-- Die of a lane-end unit, its link group and bundle (Table 11.2, R458). -/
def endBundle (u : Unit11) : Option (Nat × Nat) :=
  let link := bits u.entry 23 20
  let b := bits u.entry 19 16
  if entryKind u.entry ≠ 3 || 68 ≤ bits u.entry 14 8 then none
  else if u.die = 0 then
    (if link ≤ 7 then some (link, b) else if link = 8 && b < 4 then some (8, b) else none)
  else
    let k := u.die - 1
    if link = 0 then some (4 + k, b)
    else if link = 1 && b < 4 then some (9 + k, b)
    else if link = 2 && b < 4 then some (9 + (k + 3) % 4, b)
    else none

/-- A unit belongs to Qk's comparison: its MED's slots and lanes that are tested, its MED's lane ends, and the hub ends of
its link group. -/
def unitOfQuad (s : State) (k : Nat) (u : Unit11) : Bool :=
  if u.die = 0 then (endBundle u).any (·.1 == 4 + k)
  else u.die == k + 1 && match entryKind u.entry with
    | 1 => let (n, p) := entrySlot k u.entry; s.variant.enables n && (stackAt s n).qualified && decide (p < 66)
    | 2 => let (n, p) := entrySlot k u.entry; s.variant.enables n && (stackAt s n).qualified && decide (p < 66) && decide (entryLane u.entry < 49)
    | _ => (endBundle u).isSome

/-- A unit is one of the hub's other units. -/
def unitOfHub (u : Unit11) : Bool := u.die == 0 && (endBundle u).any fun g => decide (g.1 < 4) || g.1 == 8

/-- Tested stacks of a quadrant. -/
def testedStacks (s : State) (k : Nat) : List Nat := ((List.range 8).map (8 * k + ·)).filter fun n => s.variant.enables n && (stackAt s n).qualified
/-- Units of Qk that are tested: slots and lanes, and 2,176 + 1,088 + 2,176 lane ends. -/
def quadUnits (s : State) (k : Nat) : Nat := (testedStacks s k).length * 66 * 50 + 5440
/-- The hub's other lane ends. -/
def hubUnits : Nat := 68 * 68 * 2

/-- Lane ends that fail on a die. -/
def failedEnds (die : Nat) (d : DieEnv) : List Unit11 := d.badLaneEnds.map fun e => ⟨die, 3 * 2 ^ 28 + e.toNat⟩

/-- Slots that hold no good lane in some position (R326, R434): more than 2 bad DQ lanes or 1 bad CA lane. -/
def shortSlots (k : Nat) (lanes : List Unit11) : List Unit11 :=
  ((lanes.map fun u => entrySlot k u.entry).eraseDups.filter fun x =>
    let ls := (lanes.filter fun u => entrySlot k u.entry == x).map fun u => entryLane u.entry
    decide (2 < (ls.filter (· < 38)).length) || decide (1 < (ls.filter (38 ≤ ·)).length)).map fun x => slotUnit (slotNo x.1 x.2)

/-- Units of Qk that fail their test, given the fused ones. -/
def failedUnits (env : StartEnv) (s : State) (k : Nat) (fused : List Unit11) : List Unit11 :=
  let ns := testedStacks s k
  let lanes := ns.flatMap fun n => (nth env.positions n {}).badLanes.map fun x => laneUnit (slotNo n x.1) x.2
  let slots := ns.flatMap fun n => (nth env.positions n {}).badSlots.map fun p => slotUnit (slotNo n p)
  let ends := failedEnds (k + 1) (nth env.meds k {}) ++ failedEnds 0 env.hub
  let known := (lanes ++ (fused ++ s.start.retired).filter fun u => entryKind u.entry == 2 && u.die == k + 1).eraseDups
  ((slots ++ lanes ++ ends ++ shortSlots k known).filter (unitOfQuad s k)).eraseDups

/-- What a comparison settled on: fused units, failed units, disagreements, units, rereads. -/
structure Judged where
  fused     : List Unit11 := []
  failed    : List Unit11 := []
  count     : Nat := 0
  units     : Nat := 0
  rereads   : Nat := 0
  suspected : Bool := false
  shadow    : Bool := false
  /-- The good read it rests on. -/
  read      : Option (List Nat) := none

/-- Units in one list and not in the other. -/
def disagree (a b : List Unit11) : Nat := (a.filter (!b.contains ·)).length + (b.filter (!a.contains ·)).length

/-- The hub map of a try: its good read, else its shadow, else empty. -/
def hubMap (env : StartEnv) (s : State) (t : Nat) : List Nat := (fuseRead env 0 t).getD ((shadowOf s 0).getD [])

/-- One comparison of Qk, try t. -/
def compareQuad (env : StartEnv) (s : State) (k t : Nat) : Judged :=
  let med := fuseRead env (k + 1) t
  let fused := (((med.getD []).map fun e => (⟨k + 1, e⟩ : Unit11)) ++ (hubMap env s t).map fun e => (⟨0, e⟩ : Unit11)).filter (unitOfQuad s k)
  let fused := fused.eraseDups
  let failed := failedUnits env s k fused
  let n := disagree fused failed
  { fused := fused, failed := failed, count := if med.isSome then n else 0, units := quadUnits s k, rereads := t,
    suspected := med.isNone || decide (quadUnits s k < 100 * n), read := med }

/-- One comparison of the hub's other units. -/
def compareHub (env : StartEnv) (t : Nat) : Judged :=
  let hub := fuseRead env 0 t
  let fused := (((hub.getD []).map fun e => (⟨0, e⟩ : Unit11)).filter unitOfHub).eraseDups
  let failed := ((failedEnds 0 env.hub).filter unitOfHub).eraseDups
  let n := disagree fused failed
  { fused := fused, failed := failed, count := if hub.isSome then n else 0, units := hubUnits, rereads := t,
    suspected := hub.isNone || decide (hubUnits < 100 * n), read := hub }

/-- The first try within the limit, of the first and 3 rereads, else the last. -/
def settle (f : Nat → Judged) : Judged := ((List.range 4).map f |>.find? (!·.suspected)).getD (f 3)

/-- Qk's comparison: a suspected read leaves no unit fused. -/
def judgeQuad (env : StartEnv) (s : State) (k : Nat) : Judged :=
  let j := settle (compareQuad env s k)
  if j.suspected then { j with fused := [] } else j

/-- The hub's comparison: a suspected read is replaced by the shadow of this unit, or by an empty map. -/
def judgeHub (env : StartEnv) (s : State) : Judged :=
  let j := settle (compareHub env)
  if !j.suspected then j else
  let sh := shadowOf s 0
  { j with fused := ((sh.getD []).map fun e => (⟨0, e⟩ : Unit11)).filter unitOfHub, shadow := sh.isSome }

/-- Count in Table 14.8. -/
def tally (i n : Nat) (s : State) : State := s.onStart fun t => { t with tally := modNth t.tally i (· + n) }

/-- A comparison is shown in object 0x5040; a suspected one is reported, another updates its die's shadow. -/
def reportFuses (die : Nat) (j : Judged) (s : State) : State :=
  let s := s.onStart fun t => { t with disagreements := modNth t.disagreements die fun _ => (j.count, j.rereads, j.suspected, j.shadow) }
  if j.suspected then
    let s := journal 0x87 (leBytes 1 die ++ leBytes 1 j.rereads ++ leBytes 2 j.count ++ leBytes 2 j.units ++ leBytes 2 0) s
    notify .hub 0x5030 2 (leBytes 1 die ++ leBytes 2 j.count ++ leBytes 2 j.units ++ leBytes 1 (b2n j.shadow)) s
  else match j.read with
    | some es => takeShadow die es s
    | none => s

/-- A unit that is fused good and not retired fails its test (R329). -/
def retireAtStart (u : Unit11) (s : State) : State :=
  let s := (retireUnit u 1 s)
  let s := journal 0x88 (leBytes 1 u.die ++ [1] ++ leBytes 2 0 ++ leBytes 4 u.entry) s
  tally 2 1 (notify .hub 0x5031 1 (leBytes 4 u.entry ++ leBytes 1 u.die) s)

/-- The units of a comparison that R329 retires. -/
def newlyBad (s : State) (j : Judged) : List Unit11 :=
  if j.suspected then [] else j.failed.filter fun u => !j.fused.contains u && !s.start.retired.contains u

/-- Every comparison of a start: the hub's, then those of Q0 to Q3. -/
def comparisons (env : StartEnv) (s : State) : List Judged := judgeHub env s :: (List.range 4).map (judgeQuad env s)

/-! ### Steps 1 to 7 -/

/-- MAC address in force (R395). -/
def macAddress (s : State) : Nat :=
  let u := fusedId
  let o := objGet s 0x1102 2
  if o ≠ 0 then o % 2 ^ 48 else 0x0A * 2 ^ 40 + bits u 55 40 * 2 ^ 24 + bits u 39 16

/-- A valid identity was read: six words, and a vendor code that is not reserved (R30, R140). -/
def identityOk (ws : List (BitVec 16)) : Bool :=
  ws.length == 6 && (nth ws 0 0).toNat != 0 && (nth ws 0 0).toNat != 0xFFFF

/-- The settings words of a stack qualify it at a pin rate in Mb/s (R141). -/
def wordsOk (ws : List Nat) (rate : Nat) : Bool :=
  let c := nth ws 2 0
  bit c 0 && bit c 1 && bit c 3 && bit c 4 && decide (16 ≤ nth ws 3 0) && decide (rate ≤ 100 * nth ws 4 0) && nth ws 5 0 == 1036

/-- The vendor code is qualified at the stack's stepping: by the image's list, else by the built-in one (R30, R460). -/
def vendorOk (s : State) (ws : List Nat) : Bool :=
  let step := bits (nth ws 1 0) 15 8
  if s.image.hasQualified then s.image.qualified.any fun e => e.1 == nth ws 0 0 && decide (e.2 ≤ step)
  else Config.builtinQualified (BitVec.ofNat 16 (nth ws 0 0)) step

/-- A stack is not qualified: journalled, notice 0x7010, its quadrant in Slate mode (R30). -/
def refuseStack (n : Nat) (s : State) : State :=
  let code := nth (stackAt s n).words 0 0
  let body := leBytes 1 n ++ leBytes 2 code
  let s := notify .hub 0x7010 2 body s
  let s := if 2 < objGet s 0x5410 0 then journal 0x80 (leBytes 2 0x7010 ++ [2, 0] ++ leBytes 8 (hubStamp s) ++ body) s else s
  enterSlate (n / 8) 1 s

/-- Steps 3 and 7 at a position: identity and words, then R30 and R141. -/
def readIdentity (env : StartEnv) (n : Nat) (s : State) : State :=
  if !s.variant.enables n then s else
  let s := askSideband n 1 5 s
  let ws := (nth env.positions n {}).words
  let nums := ws.map (·.toNat)
  if !identityOk ws then refuseStack n s else
  let s := s.onIdent fun i => { i with stackId := modNth i.stackId n fun _ => nth nums 0 0 * 65536 + nth nums 1 0 }
  let s := updStack n (fun t => { t with words := nums }) s
  if vendorOk s nums && wordsOk nums (pinRate s) then updStack n (fun t => { t with qualified := true, running := true }) s
  else refuseStack n s

/-- Step 5 (R436, R437): words and steppings of MEDk, and what its effective capability asks. -/
def exchangeWords (env : StartEnv) (k : Nat) (s : State) : State :=
  let d := nth env.meds k {}
  let word := match d.words with
    | [] => 0
    | w :: ws => (ws.foldl (· &&& ·) w).toNat
  let s := s.onIdent fun i => { i with medWord := modNth i.medWord k fun _ => word }
  let caps := quadCaps s k
  let head := leBytes 1 k ++ leBytes 2 Config.hubStepping.toNat ++ leBytes 2 d.stepping.toNat
  let missing := 15 - caps % 16
  if missing ≠ 0 then enterSlate k 2 (notify .hub 0x7011 2 (head ++ leBytes 4 missing) s)
  else if caps ≠ hubWord || caps ≠ word then
    notify .hub 0x7012 0 (head ++ leBytes 4 ((hubWord ||| word) &&& (2 ^ 32 - 1 - caps))) s
  else s

/-- Windows of a requester at their defaults (R408). -/
def defaultWindows (s : State) : Windows :=
  { seg := objDefault s 0x2011 0, chan := objDefault s 0x3070 0, arb := objDefault s 0x3420 0, blocks := objDefault s 0x4030 0,
    sharer := objDefault s 0x4C30 0, slot := objDefault s 0x5021 0, journal := objDefault s 0x5420 0 }

/-- What the applied image and the settings put in force before the complex runs: windows, roles, regulation values, gate
lists, envelope and thresholds. -/
def takeDefaults (s : State) : State :=
  let w := defaultWindows s
  let s := s.onWin (·.map fun _ => w)
  let s := forEach (List.range 4) (fun p s => updPort p (fun d => { d with role := objGet s 0x1121 (p + 1) }) s) s
  let s := takeWritten s
  let s := forEach (List.range 5) (fun p s =>
    let v := objDefault s 0x3840 (p + 1)
    match gateListOf (leBytes (8 + 8 * (v % 256)) v) with
    | some l => s.onReg fun r => { r with gates := modNth r.gates p fun _ => l }
    | none => s) s
  (s.onPower fun w => { w with envelope := objGet s 0x6001 0, thresholds := (objGet s 0x6010 1, objGet s 0x6010 2) }).onCnt
    fun c => { c with w := objGet s 0x8010 0 }

/-- Whole milliseconds of hub time. -/
def markTime (i : Nat) (s : State) : State := s.onStart fun t => { t with times := modNth t.times i fun _ => hubMs s }
/-- The start-up result body (Table 14.8); `stackTime` is the time of step 11 in ms. -/
def startBody (result stackTime : Nat) (s : State) : Bytes :=
  let t := s.start
  let qs := List.range 4
  leBytes 1 result
  ++ leBytes 1 (total (qs.map fun k => b2n (inSlate s k) * 2 ^ k + b2n (isOffline s k) * 2 ^ (4 + k)))
  ++ leBytes 2 (total (qs.map fun k => if inSlate s k then (quadAt s k).slate * 16 ^ k else 0))
  ++ leBytes 4 (nth t.times 3 0) ++ leBytes 4 (nth t.times 2 0) ++ leBytes 4 stackTime
  ++ leBytes 2 (nth t.tally 0 0) ++ leBytes 2 (nth t.tally 1 0) ++ leBytes 2 (nth t.tally 2 0) ++ leBytes 2 (nth t.tally 3 0)
  ++ leBytes 2 (nth t.tally 4 0) ++ leBytes 1 (nth t.tally 5 0) ++ [0]

/-- Start failed (R433): SP and the dictionary stay in service. -/
def failStart (s : State) : State :=
  let body := startBody 3 0 s
  let s := s.onStart fun t => { t with state := 5, result := body }
  notify .hub 0x7002 3 body (journal 0x85 body s)

/-- Steps 1 to 7: false when the hub fails its wrapper test. Settings and ledger are applied before what could raise a
notice. -/
def startFirst (env : StartEnv) (s : State) : State × Bool :=
  let s := { cold s with released := true }
  let steps := (List.range 4).map fun k => (nth env.meds k {}).stepping.toNat
  let s := s.onIdent fun i => { i with nodeId := env.nodeId.toNat, medStep := steps }
  let s := s.onNor fun n => { n with present := env.norAnswers, cycles := if env.norAnswers then n.cycles + 1 else n.cycles }
  let s := s.onClk fun c => { c with cycles := if env.norAnswers then s.nor.cycles else 1, base := if env.norAnswers then s.nor.powered else 0 }
  let s := s.onLinks fun l => l.zipIdx.map fun x => { x.1 with size := if x.2 < 8 then 16 else 4 }
  let (t1, s) := drawUpTo 100000000 s
  let (t2, s) := drawUpTo 500000000 s
  let s := if env.norAnswers then applySettings s else notify .hub 0x7003 2 [] s
  let s := s.onSvc fun v => { v with mac := macAddress s }
  let s := applyLedger (applyDirectory s)
  let s := markTime 0 (pass t1 s)
  if !env.hubTest then (failStart s, false) else
  let s := forEach (List.range 4) (exchangeWords env) s
  let s := takeDefaults (activateImages env s)
  let s := forEach (List.range 32) (readIdentity env) s
  (markTime 1 (pass t2 s), true)

/-! ### Steps 8 to 11 -/

/-- A value training starts from (R460). -/
def phyStart (s : State) (n i : Nat) : Nat :=
  let v := nth (stackAt s n).words 0 0
  match s.image.phy.find? (·.1 == v) with
  | some e => nth e.2 i 0
  | none => (Config.builtinPhy (BitVec.ofNat 16 v) (12 + i)).toNat

/-- What the 64 inventory words of a slot say: for each bank, numbered 64 × slot + bank, the spare rows and columns free
(Table 11.5). A word that is not valid counts as none free (DESIGN CHOICE, assumption 124). -/
def inventoryOf (x : Nat × List (BitVec 16)) : List (Nat × Nat × Nat) :=
  (List.range 64).map fun b =>
    let w := (nth x.2 b 0).toNat
    (x.1 * 64 + b, if bit w 15 then (Nat.min 48 (bits w 5 0), Nat.min 2 (bits w 7 6)) else (0, 0))

/-- Spare rows and columns free as the inventory gives them, less those that the rewritten soft repairs take (R339,
R342); the last slot is asked last. -/
def takeInventory (env : StartEnv) (n : Nat) (s : State) : State :=
  let inv := (nth env.positions n {}).inventory.flatMap inventoryOf
  let soft := (softRepairs s).filter (·.stack == n)
  let keys := (inv.map (·.1) ++ soft.map fun (r : Repair) => r.pch * 64 + r.bank).eraseDups
  let rows := keys.map fun k =>
    let base := match inv.find? (·.1 == k) with
      | some x => x.2
      | none => (48, 2)
    let mine := soft.filter fun r => r.pch * 64 + r.bank == k
    (k, base.1 - (mine.filter (·.action == 1)).length, base.2 - (mine.filter (·.action == 2)).length)
  askSideband n 3 65 (updStack n (fun t => { t with rows := rows.filter fun r => r.2 != (48, 2) }) s)

/-- The slot's stack permits a hard repair (R340). -/
def hardAllowed (s : State) (n : Nat) : Bool := bit (quadCaps s (n / 8)) 13 && stackCap s n 2

/-- A queued column repair that is not hard is performed as a soft one while its bank has a free column (R341). -/
def softColumn (x : Repair) (s : State) : State :=
  let c := slotNo x.stack x.pch
  let (rows, cols) := bankSpares s c x.bank
  if cols = 0 then s else
  setBankSpares c x.bank rows (cols - 1) (uncover x true (addRepair { x with action := 2 } (unqueue x s)))

/-- SWW of SW20 and SW21 naming a hard repair (R338, R340). -/
def beginHard (x : Repair) (s : State) : State :=
  let c := slotNo x.stack x.pch
  setSw c 21 (x.bank + if x.action = 6 then 128 else 64) (setSw c 20 x.addr s)

/-- The first hard repair that waits on a slot. -/
def firstHard (s : State) (stack pch : Nat) : Option Repair := s.start.hard.find? fun r => r.stack == stack && r.pch == pch

/-- The hard repair that makes a soft one permanent uses its spare (R340). -/
def ofSoft (s : State) (r : Repair) : Bool := s.start.repairs.contains { r with action := r.action - 4 }

/-- A queued hard repair has a spare beside those that the ones before it in the queue take (R340, R341). -/
def hasSpare (s : State) (before : List Repair) (r : Repair) : Bool :=
  let (rows, cols) := bankSpares s (slotNo r.stack r.pch) r.bank
  let taken := before.filter fun x => x.stack == r.stack && x.pch == r.pch && x.bank == r.bank && x.action == r.action && !ofSoft s x
  ofSoft s r || decide (taken.length < if r.action = 5 then rows else cols)

/-- Repairs of step 8: those to be hardened are queued, at most 64 hard ones begin, other column repairs are soft. None starts in
a quadrant in Slate mode (R347). -/
def performRepairs (s : State) : State :=
  let able := fun (r : Repair) => (stackAt s r.stack).qualified && !inSlate s (r.stack / 8)
  let s := if objGet s 0x5002 0 = 1 then
      forEach (softRepairs s) (fun r s =>
        let q := { r with action := r.action + 4 }
        if able r && hardAllowed s r.stack && !s.start.repairs.contains q then addRepair q s else s) s
    else s
  let queued := s.start.repairs.filter fun r => (r.action == 5 || r.action == 6) && able r && hardAllowed s r.stack
  let due := (forEach queued (fun r ok => if hasSpare s ok r then ok ++ [r] else ok) []).take 64
  let s := s.onStart fun t => { t with hard := due }
  let s := forEach (due.filter fun r => firstHard s r.stack r.pch == some r) beginHard s
  forEach (s.start.repairs.filter fun r => r.action == 6 && able r && !hardAllowed s r.stack) softColumn s

/-- The lane end lies at the far end of its link: the MED's end of a hub link, the next MED's end of a detour. -/
def farEnd (u : Unit11) : Bool := u.die != 0 && bits u.entry 23 20 != 1

/-- Hub ends and MED ends: what is bad takes spares, bundles with more than 4 bad lane ends are dropped (R434). -/
def acceptBundles (bad : List Unit11) (s : State) : State :=
  let ends := bad.filterMap fun u => (endBundle u).map fun x => (x, spareIndex x.2 (farEnd u) (bits u.entry 15 15))
  forEach (List.range 13) (fun g s =>
    let size := (linkAt s g).size
    let mine := ends.filter fun e => e.1.1 == g && decide (e.1.2 < size)
    let out := (List.range size).filter fun b => 4 < (mine.filter (·.1.2 == b)).length
    let kept := mine.filter fun e => !out.contains e.1.2
    let used := kept.length
    let mask := total (out.map fun b => 2 ^ b)
    let inner := (4 ≤ g && g < 8) || 9 ≤ g
    let s := updLink g (fun l => { l with
      spares := (List.range 32).map fun i => (kept.filter (·.2 == i)).length, inUse := used, dropped := mask,
      live := if inner then 2 ^ size - 1 - mask else 0 }) s
    let s := tally 1 used (tally 5 out.length s)
    let live := ((List.range 16).filter fun b => bit (linkAt s g).live b).length
    forEach out (fun b s => notify .hub 0x7050 1 (leBytes 1 g ++ leBytes 1 b ++ [4] ++ leBytes 1 live) s) s) s

/-- Lane ends that are bad after a comparison. -/
def badEnds (s : State) (js : List Judged) : List Unit11 :=
  ((js.flatMap fun j => j.fused ++ j.failed) ++ s.start.retired).eraseDups.filter fun u => entryKind u.entry == 3

/-- Step 8: repairs. -/
def startRepairs (env : StartEnv) (s : State) : State :=
  performRepairs (forEach ((List.range 32).filter fun n => (stackAt s n).qualified) (takeInventory env) s)

/-- Steps 9 to 11: lane ends reconciled, both waves accepted. -/
def startWaves (env : StartEnv) (s : State) : State :=
  let js := comparisons env s
  let ends := fun (us : List Unit11) => us.filter fun u => entryKind u.entry == 3
  let s := forEach (ends (js.flatMap (newlyBad s))) retireAtStart s
  let s := acceptBundles (badEnds s js) s
  let (t3, s) := drawUpTo 236000000 s
  let s := s.onStart fun t => { t with times := modNth t.times 2 fun _ => (1074000000 + t3) / 1000000 }
  let (t4, s) := drawUpTo 420000000 s
  pass (2 ^ 35 * 1000 / pinRate s + t4) s

/-! ### Step 12 -/

/-- Bad lanes of a slot take its spares (R329, R332). -/
def spareLanes (n p : Nat) (s : State) : State :=
  let c := slotNo n p
  let bad := ((stackAt s n).badLanes.filter (·.1 == p)).map (·.2)
  let due := sortBy id ((bad.filterMap (lanePosition s c)).eraseDups.filter fun pos =>
    match holderLane s c pos with
    | some l => bad.contains l
    | none => true)
  let due := due.filter fun pos => pos < 36 || (38 ≤ pos && pos < 48)
  forEach due (fun pos s => match (freeLanes s c pos).head? with
    | none => s
    | some l =>
      let g := match (stackAt s n).table.findIdx? (· == p) with
        | some ch => 64 * n + ch
        | none => 64 * n
      let s := reassign c pos l s
      tally 0 1 (ledger 0x03 (leBytes 2 g ++ leBytes 1 p ++ leBytes 1 pos ++ leBytes 1 l ++ [4]) s)) s

/-- Slots of a stack reconciled (R326): bad spares are retired, a channel on a bad slot takes the lowest good spare. -/
def settleTable (n : Nat) (isBad : Nat → Bool) (s : State) : State :=
  let gone := (stackAt s n).spares.filter isBad
  let s := forEach gone (fun p s =>
    let s := updStack n (fun t => { t with spares := t.spares.filter (· ≠ p) }) s
    if s.start.retired.contains (slotUnit (slotNo n p)) then s else retireUnit (slotUnit (slotNo n p)) 4 s) s
  forEach (List.range 64) (fun ch s =>
    let p := nth (stackAt s n).table ch 255
    if 66 ≤ p || !isBad p then s else
    match (sortBy id (stackAt s n).spares).head? with
    | none => s
    | some d =>
      let s := updStack n (fun t => { t with table := modNth t.table ch fun _ => d, spares := t.spares.filter (· ≠ d) }) s
      tally 3 1 (ledger 0x02 (leBytes 1 n ++ leBytes 1 ch ++ leBytes 1 d ++ [1]) s)) s

/-- A channel without a slot is mapped out at start, with no data to move (R77, R326). -/
def mapOutAtStart (g : Nat) (s : State) : State :=
  let s := updStack (g / 64) (fun t => { t with table := modNth t.table (g % 64) fun _ => 255 }) s
  let (s, frames) := installRecords g none s
  let s := s.onMap fun m => { m with mapped := m.mapped ++ [g] }
  let m := mapOuts s
  let s := ledger 0x05 (leBytes 2 g ++ leBytes 2 m ++ leBytes 4 frames) s
  tally 4 1 (notify .hub 0x2010 1 (leBytes 4 (budget s) ++ leBytes 2 m ++ leBytes 2 g) s)

/-- The repair words that a start's rewritten soft repairs leave on the slots of a stack (R338, R339). -/
def repairWords (s : State) (n : Nat) : List (Nat × Nat) :=
  let rs := (softRepairs s).filter (·.stack == n)
  ((rs.map (·.pch)).eraseDups.filterMap fun p => (rs.filter (·.pch == p)).getLast?).flatMap fun r =>
    [(r.pch * 32 + 18, r.addr), (r.pch * 32 + 19, r.bank + (if r.action = 1 then 64 else 128))]

/-- Training leaves every driven slot of a stack its settings words; the training and acceptance bursts count, their
numbers free (R138, R141, R434). -/
def trainStack (n : Nat) (s : State) : State :=
  let words := (stackSlots s n).flatMap fun c =>
    [(c % 66 * 32 + 8, tRL s n), (c % 66 * 32 + 9, tWL s n), (c % 66 * 32 + 11, b2n (stackAt s n).hot), (c % 66 * 32 + 12, phyStart s n 0),
     (c % 66 * 32 + 13, (Config.trainedWord n (c % 66) 13).toNat), (c % 66 * 32 + 14, (Config.trainedWord n (c % 66) 14).toNat),
     (c % 66 * 32 + 15, 3)]
  let s := updStack n (fun t => { t with
    sw := t.sw.filter (fun e => [16, 17, 20, 21].contains (e.1 % 32)) ++ (words ++ repairWords s n).filter (·.2 ≠ 0),
    base := quadTime s (n / 8), readMs := quadTime s (n / 8) / 1000000, deferFrom := quadTime s (n / 8) }) s
  let s := s.onChans fun m => m.map fun e => if stackOf e.1 == n then (e.1, { e.2 with refBase := e.2.slot }) else e
  let count := fun (i : Nat) (s : State) => bump i (n + 1) (Config.choice s.draw + 1) s.drawn
  count 0x8400 (count 0x8403 (count 0x8404 s))

/-- First temperature and thermal model of a stack (R143, R370). -/
def startModel (env : StartEnv) (n : Nat) (s : State) : State :=
  let t := (nth env.positions n {}).temp
  let s := goodReading n t s
  let r : Rat := (t : Rat) / 4
  updHeat n (fun h => { h with est := r, amb := r - thermalParam s n 1 * stackPower s n, counts := energyCounts s n }) s

/-- Periods, windows and steps of the counters begin at ready. -/
def alignTimes (s : State) : State :=
  let h := s.clk.hub
  let near := fun (t w : Nat) => t / w * w
  let s := s.onReg fun r => { r with
    window := near h r.w, sampled := near h r.period, latWin := r.latWin.map (fun _ => near h 1000000),
    entries := r.entries.map fun x => { x with win := near h r.w } }
  let s := s.onMap fun m => { m with period := h, params := (List.range 4).map fun i => objGet s 0x2021 (i + 1) }
  let s := s.onCnt fun c => { c with last := near h (c.w * 1000), valid := false }
  let s := s.onQuads fun l => l.zipIdx.map fun x => { x.1 with epochs := quadTime s x.2 / 16000000 }
  s.onPower fun w => { w with stepAt := near h 100000, junctionAt := near h 100000,
                              dieAt := near h 100000 :: (List.range 4).map fun q => near (quadTime s q) 100000 }

/-- Slots reconciled: units retired, Slate mode for a suspected read, lanes and slot tables (R326, R329, R330). A suspected
comparison takes no slot or lane out of use. -/
def settleSlots (env : StartEnv) (s : State) : State :=
  let js := comparisons env s
  let s := forEach ((js.flatMap (newlyBad s)).filter fun u => entryKind u.entry != 3) retireAtStart s
  let s := forEach js.zipIdx (fun x s => reportFuses x.2 x.1 s) s
  let s := forEach js.zipIdx (fun x s => if x.2 ≠ 0 && x.1.suspected then enterSlate (x.2 - 1) 3 s else s) s
  let tested := js.flatMap fun j => j.fused ++ if j.suspected then [] else j.failed
  let bad := (tested ++ s.start.retired).eraseDups.filter fun u => entryKind u.entry != 3 && u.die != 0
  let ns := (List.range 32).filter fun n => (stackAt s n).qualified
  let s := forEach (bad.filter fun u => entryKind u.entry == 2) (fun u s =>
    let (n, p) := entrySlot (u.die - 1) u.entry
    let l := entryLane u.entry
    updStack n (fun t => { t with badLanes := if t.badLanes.contains (p, l) then t.badLanes else t.badLanes ++ [(p, l)] }) s) s
  let slots := bad.filter fun u => entryKind u.entry == 1
  let s := forEach ns (fun n s => settleTable n (fun p => slots.contains (slotUnit (slotNo n p))) s) s
  let s := forEach ns (fun n s => forEach ((stackAt s n).badLanes.map (·.1)).eraseDups (fun p s =>
    if slots.contains (slotUnit (slotNo n p)) then s else spareLanes n p s) s) s
  let lost := ns.flatMap fun n => ((List.range 64).filter fun ch =>
    let p := nth (stackAt s n).table ch 255
    decide (p < 66) && slots.contains (slotUnit (slotNo n p))).map (64 * n + ·)
  forEach lost mapOutAtStart s

/-- The quadrants' states at ready: an unreachable one is offline (R452), another is normal or in Slate mode. -/
def openQuads (s : State) : State :=
  let s := s.onQuads (·.map fun k => if k.st = .starting then { k with st := .normal } else { k with applied := k.applied.map fun _ => s.objs })
  forEach (List.range 4) (fun k s => if reachable s k then s else goOffline k 2 s) s

/-- Ready (R428, R433): state, notice 0x7001, journal entry 0x85; start failed when no quadrant comes up. -/
def declareReady (s : State) : State :=
  if (List.range 4).all (isOffline s) then failStart s else
  let result := if fixedMapOn s then 2 else if (List.range 4).all (fun k => (quadAt s k).st = .normal) then 0 else 1
  let stackTime := hubMs s
  let (d, s) := drawUpTo 50000000 s
  let s := markTime 3 (pass d s)
  let body := startBody result stackTime s
  let s := s.onStart fun t => { t with state := result + 1, result := body, env := none, held := 0 }
  let s := if s.image.source = 3 then s.onImage fun m => { m with copy := 1 } else s
  let s := alignTimes s
  notify .hub 0x7001 0 body (journal 0x85 body s)

/-- Step 12. -/
def startLast (env : StartEnv) (s : State) : State :=
  let s := settleSlots env s
  let ns := (List.range 32).filter fun n => (stackAt s n).qualified
  let s := forEach ns trainStack s
  let s := forEach ns (startModel env) s
  declareReady (openQuads s)

/-! ### The hold (R432) and the commands -/

/-- The sequence is held before step 8 (1) or step 12 (2). -/
def holdAt (k : Nat) (env : StartEnv) (s : State) : State := s.onStart fun t => { t with state := 4, env := some env, held := k }

/-- From step 12. -/
def runLast (env : StartEnv) (s : State) : State := if objGet s 0x7050 0 = 2 then holdAt 2 env s else startLast env s

/-- From step 9: the sequence waits (3) while hard repairs run. -/
def runWaves (env : StartEnv) (s : State) : State :=
  if s.start.hard.isEmpty then runLast env (startWaves env s) else s.onStart fun t => { t with env := some env, held := 3 }

/-- From step 8. -/
def runRepairs (env : StartEnv) (s : State) : State :=
  if objGet s 0x7050 0 = 1 then holdAt 1 env s else runWaves env (startRepairs env s)

/-- The release of qz_rst_n runs the sequence to ready, to a hold or to its failure. -/
def startUp (env : StartEnv) (s : State) : State :=
  let (s, ok) := startFirst env s
  if ok then runRepairs env s else s

/-- START_UP (R429): qz_rst_n is released; nothing happens when it is high already. -/
def execStartUp (env : StartEnv) (s : State) : Answered := .next (if s.released then s else keepFixed s true (startUp env s))

/-- The sequence goes on from where it stands. -/
def resumeStart (s : State) : State :=
  match s.start.env with
  | none => s
  | some env =>
    let k := s.start.held
    let s := s.onStart fun t => { t with state := 0, env := none, held := 0 }
    if k = 1 then runWaves env (startRepairs env s) else if k = 2 then startLast env s else runWaves env s

/-- A write of 0 to object 0x7050 releases a held sequence. -/
def releaseStart (s : State) : State := if s.start.state = 4 then resumeStart s else s

/-- HARD_REPAIR_RESULT (R340, Table 11.5): a status word that shows the slot's hard repair done or failed ends it, and it leaves
the queue either way; the slot's next one begins, and after the last the start-up sequence goes on. A busy word ends nothing. -/
def execHardRepairResult (stack : Fin 32) (pch : Fin 66) (status : BitVec 16) (s : State) : Answered :=
  whenReleased s fun s =>
    match firstHard s stack pch with
    | none => s
    | some x =>
      let s := askSideband stack 3 (256 + pch) s
      let done := bit status.toNat 1
      if !done && !bit status.toNat 2 then s else
      let column := x.action == 6
      let soft := s.start.repairs.contains { x with action := if column then 2 else 1 }
      let s := s.onStart fun t => { t with hard := dropFirst (· == x) t.hard }
      let result := if !done then 8 else if column then 4 else 3
      let s := applyRepair { x with action := result } s
      let s := if done && !soft then
          let (rows, cols) := bankSpares s (slotNo stack pch) x.bank
          if column then setBankSpares (slotNo stack pch) x.bank rows (cols - 1) s
          else setBankSpares (slotNo stack pch) x.bank (rows - 1) cols s
        else s
      let s := ledger 0x08 (repairRecord { x with action := result }) s
      let s := notify .hub 0x5040 0 (leBytes 1 stack ++ leBytes 1 pch ++ leBytes 1 x.bank ++ leBytes 2 x.addr ++ leBytes 1 (if done then 1 else 2)) s
      let s := match firstHard s stack pch with
        | some y => beginHard y s
        | none => s
      if s.start.hard.isEmpty && s.start.held = 3 then resumeStart s else s

end Sys2Proof.Machine
end

