-- ==== Sys2Proof/Machine/Access.lean ====
section
/-!
DEFINITION. Access to the dictionary: what a write of each object does, the two ways to it (a Jenryn message of the service
link, a dictionary request of a compute port), role checks and kept responses (R11, R122, R123, R400 to R412, R479).
-/
namespace Sys2Proof.Machine

/-! ### Writing an object -/

/-- A write's effect and its status: 0x00 done, 0x0A rejected, 0x10 accepted and not yet in effect. -/
abbrev Written := State × Nat

def doneWrite (s : State) : Written := (s, 0)
def rejectWrite (s : State) : Written := (s, 0x0A)
/-- The status of a write that a command object judged. -/
def judged (r : State × Bool) : Written := (r.1, if r.2 then 0 else 0x0A)
/-- A write accepted only on a condition. -/
def onlyIf (c : Bool) (s t : State) : Written := if c then doneWrite t else rejectWrite s

/-- The host date is written (R52). -/
def writeDate (v : Nat) (s : State) : State :=
  let s := journal 0x81 (leBytes 8 (dateNow s) ++ leBytes 8 v) s
  s.onClk fun c => if v = 0 then { c with date := 0 } else { c with date := v, dateAt := c.hub, dateSet := c.hub % 2 ^ 61 }

/-- A MED captures its quadrant's time: a request reaches it and its quadrant is not held in reset (R55, assumption 45). -/
def captures (s : State) (q : Nat) : Bool := (quadAt s q).st ≠ .held && (quadAt s q).resetAt.isNone && reachable s q

/-- A snapshot starts; a write while one runs is ignored (R55). -/
def startSnapshot (s : State) : State :=
  if s.clk.running.isSome then s else
  let times := (List.range 4).map fun q => if captures s q then some (quadTime s q) else none
  s.onClk fun c => { c with running := some ⟨c.hub, times⟩ }

/-- A segment command (Table 3.5), its result kept for the requester (R68). -/
def writeSegment (w : Nat) (bs : Bytes) (s : State) : Written :=
  let c : SegCmd := { reserved1 := BitVec.ofNat 8 (field bs 1 1), reserved2 := BitVec.ofNat 16 (field bs 2 2),
                      segment := BitVec.ofNat 32 (field bs 4 4), image := BitVec.ofNat 64 (field bs 8 8) }
  let (s, r) := segCommand (field bs 0 1) c s
  judged (updWin w (fun x => { x with result := r }) s, r == 0)

/-- A window base of a requester. -/
def setWindow (index v : Nat) (w : Windows) : Windows :=
  if index = 0x2011 then { w with seg := v }
  else if index = 0x3070 then { w with chan := v }
  else if index = 0x3420 then { w with arb := v }
  else if index = 0x4030 then { w with blocks := v }
  else if index = 0x4C30 then { w with sharer := v }
  else if index = 0x5021 then { w with slot := v }
  else { w with journal := v }

/-- Objects with a value for each requester. -/
def isWindow (index : Nat) : Bool := [0x2011, 0x3070, 0x3420, 0x4030, 0x4C30, 0x5021, 0x5420].contains index

/-- An RW or RWS object takes a value (R11, R424). -/
def writeValue (index sub v : Nat) (r : ObjRow) (s : State) : Written :=
  if r.access = 4 then
    let (t, ok) := persist index sub r.size v s
    if ok then doneWrite (objSet index sub v t) else rejectWrite t
  else doneWrite (objSet index sub v s)

/-- A staging write: rejected without a NOR device (R433); one that arrives while a copy runs waits for its end (R464). -/
def writeImage (src : Src) (bs : Bytes) (s : State) : Written :=
  if !s.nor.present then rejectWrite s
  else if s.image.copy = 1 then (s.onImage fun m => { m with waiting := m.waiting ++ [(src, bs)] }, 0x10) else judged (stageImage bs s)

/-- HMAC message of an unlock (R410). -/
def unlockMessage (challenge source : Bytes) (session role : Nat) : Bytes :=
  challenge ++ leBytes 8 fusedId ++ leBytes 1 role ++ leBytes 1 session ++ source
/-- The response code a role's key gives. -/
def unlockCode (role : Nat) (message : Bytes) : Bytes := hmacSha256 (leBytes 32 (Config.key role).toNat) message

/-- A source is locked out (R411). -/
def lockedOut (s : State) (source : Bytes) : Bool := s.svc.lockouts.any fun l => l.1 == source && decide (s.clk.hub < l.2)

/-- A failed unlock of a source: counted, said, and the fourth within 60 s locks the source out for 60 s (R411). -/
def unlockFailed (source : Bytes) (role : Nat) (s : State) : State :=
  let now := s.clk.hub
  let locked := lockedOut s source
  let s := s.onSvc fun v => { v with failures := (v.failures + 1) % 2 ^ 32 }
  let s := notify .hub 0x1002 1 (source ++ leBytes 1 role) s
  if locked then s else
  let recent := s.svc.fails.filter (fun f => decide (now < f.2 + 60000000000)) ++ [(source, now)]
  let n := (recent.filter (·.1 == source)).length
  if n < 4 then s.onSvc fun v => { v with fails := recent }
  else
    let s := s.onSvc fun v => { v with fails := recent.filter (·.1 != source),
                                       lockouts := v.lockouts.filter (·.1 != source) ++ [(source, now + 60000000000)] }
    notify .hub 0x1003 1 (source ++ leBytes 1 n) s

/-- A response code unlocks: not in a lockout, its challenge at most 10 s old, and the code the role's (R410, R411). -/
def unlocks (s : State) (source : Bytes) (session role : Nat) (challenge : Option (Bytes × Nat)) (code : Bytes) : Bool :=
  match challenge with
  | none => false
  | some (c, t) => !lockedOut s source && decide (s.clk.hub ≤ t + 10000000000)
      && code == unlockCode role (unlockMessage c source session role)

/-- An in-band unlock of a port (R412). -/
def unlockPort (p : Nat) (bs : Bytes) (s : State) : Written :=
  let role := field bs 0 1
  if role ≠ 2 && role ≠ 3 then rejectWrite s else
  let source := leBytes 6 (p + 1)
  let ok := unlocks s source 0 role (portAt s p).challenge (bs.drop 1)
  let s := updPort p (fun d => { d with challenge := none }) s
  if ok then doneWrite (updPort p (fun d => { d with role := role }) s) else rejectWrite (unlockFailed source role s)

/-- Objects that only a compute port may write: 0x1123 unlock, 0x1124 role drop (R412). -/
def writeRole (src : Src) (index : Nat) (bs : Bytes) (s : State) : Written :=
  match src with
  | .sp _ _ _ => rejectWrite s
  | .cp p _ _ =>
    if index = 0x1123 then unlockPort p bs s
    else
      let v := leNat bs
      onlyIf (decide (1 ≤ v) && decide (v ≤ 2) && decide (v ≤ (portAt s p).role)) s (updPort p (fun d => { d with role := v }) s)

/-- A write of a scalar command object. -/
def writeCommand (ends : Bool) (index sub v : Nat) (s : State) : Written :=
  match index with
  | 0x1140 => onlyIf (v == 1 && s.nor.present) s (eraseSettings s)
  | 0x1203 => onlyIf (v == 1) s (startSnapshot s)
  | 0x3411 => onlyIf (v == 1) s (s.onTree fun t => { t with high := List.replicate 12 0 })
  | 0x3865 => onlyIf (v == 1) s (clearSamples s)
  | 0x6031 => onlyIf (v == 1 || v == 2) s (triggerShutdown { cause := 3, force := v == 2 } s)
  | 0x6032 => onlyIf (v == 1 && resumeAllowed s) s (beginResume s)
  | 0x7020 => onlyIf (quadResetAllowed s (sub - 1) v) s (writeQuadReset (sub - 1) v ends s)
  | 0x7021 => onlyIf (portResetAllowed v) s (writePortReset (sub - 1) v s)
  | 0x7022 => onlyIf (slateAllowed s v) s (writeSlate v s)
  | 0x7822 => onlyIf (cancelAllowed s v) s (cancelStaging s)
  | 0x8002 => doneWrite (clearOverflow v s)
  | _ => rejectWrite s

/-- A write of a command object that is a BLOB. -/
def writeBlob (src : Src) (index sub : Nat) (bs : Bytes) (s : State) : Written :=
  match index with
  | 0x2010 => writeSegment (windowOf src) bs s
  | 0x3810 => judged (writeReservationSet bs s)
  | 0x3840 => judged (writeGateList (sub - 1) bs s)
  | 0x4020 => judged (writeScrub bs s)
  | 0x5030 => judged (writeRepair bs s)
  | 0x7820 => writeImage src bs s
  | _ => judged (writeTest bs s)

/-- Objects whose write is a command in a BLOB. -/
def isBlobCommand (index : Nat) : Bool := [0x2010, 0x3810, 0x3840, 0x4020, 0x5030, 0x7820, 0x9010].contains index

/-- A write of an object with a row of access WO, RW, RWQ or RWS, after the role check (R11, R15). `ends` says whether the
work a quadrant reset waits for ends within its bound. -/
def performWrite (src : Src) (ends : Bool) (index sub : Nat) (r : ObjRow) (bs : Bytes) (s : State) : Written :=
  let v := leNat bs
  if (variableSize index).isNone && bs.length ≠ r.size then rejectWrite s
  else if isBlobCommand index then writeBlob src index sub bs s
  else if index = 0x1123 || index = 0x1124 then writeRole src index bs s
  else if r.access = 2 then writeCommand ends index sub v s
  else if !valueOk s.variant index sub v || !relationOk s index sub v then rejectWrite s
  else if index = 0x1210 then doneWrite (writeDate v s)
  else if isWindow index then doneWrite (updWin (windowOf src) (setWindow index v) s)
  else if index = 0x7050 then
    let (t, st) := writeValue index sub v r s
    (if st = 0 && v = 0 then releaseStart t else t, st)
  else writeValue index sub v r s

/-- The value of an object as a requester reads it. -/
def valueOf (s : State) (w index sub : Nat) : Bytes := match objRow index sub with
  | some r => readObject s w index sub r
  | none => []

/-! ### The service link's answers (R394, R401) -/

/-- Kept responses with one more: the last 16 of each source address. -/
def keepAnswer (a : Answer) (l : List Answer) : List Answer :=
  let l := if 16 ≤ (l.filter (·.mac == a.mac)).length then dropFirst (·.mac == a.mac) l else l
  l ++ [a]

/-- Queue a response frame. -/
def queueAnswer (a : Answer) (s : State) : State := s.onSvc fun v => { v with out := v.out ++ [a] }

/-- Answer a request: keep the response and queue it, behind the invalidation that its command has sent (R318). A write still
running is only kept. -/
def giveAnswer (a : Answer) (s : State) : State :=
  let a := if a.status = 0 || a.status = 0x10 then a else { a with payload := [] }
  let a := { a with behind := s.fabric.commandMark }
  let s := s.onFabric fun f => { f with commandMark := none }
  if a.status = 0x10 then s.onSvc fun v => { v with kept := keepAnswer { a with status := 0, running := true, since := s.clk.hub } v.kept }
  else queueAnswer a (s.onSvc fun v => { v with kept := keepAnswer a v.kept })

/-- The kept response of a request, by source, session and transaction (R401). -/
def keptAnswer (s : State) (mac session txn : Nat) : Option Answer :=
  s.svc.kept.find? fun a => a.mac == mac && a.session == session && a.txn == txn

/-- A repeated request is answered again, not executed again. -/
def repeatAnswer (a : Answer) (s : State) : State :=
  let s := s.onSvc fun v => { v with counts := modNth v.counts 5 (· + 1) }
  if a.running then
    let s := s.onSvc fun v => { v with kept := v.kept.map fun x => if x = a then { x with status := 0x10 } else x }
    queueAnswer { a with status := 0x10, payload := [] } s
  else queueAnswer a s

/-- Header fields of a Jenryn frame: source, session, transaction, type (Table 13.1). -/
def frameKey (f : Frame) : Nat × Nat × Nat × Nat := (f.source.toNat, field f.payload 4 1, field f.payload 6 2, field f.payload 1 1)

/-- Take the frame of a message from the received ones. A message that no frame delivered stands for the frame's arrival
(assumption 2). -/
def takeFrame (mac session txn mtype : Nat) (s : State) : State :=
  s.onSvc fun v => { v with inbox := dropFirst (fun f => frameKey f == (mac, session, txn, mtype)) v.inbox }

/-- A session number a frame may name: 0, or one its sender opened (R408). -/
def sessionOpen (s : State) (mac session : Nat) : Bool := session == 0 || s.svc.sessions.any fun x => x.1 == session && x.2.mac == mac

/-- A frame has named a session (R408). -/
def touchSession (session : Nat) (s : State) : State :=
  s.onSvc fun v => { v with sessions := v.sessions.map fun x => if x.1 = session then (x.1, { x.2 with lastFrame := s.clk.hub }) else x }

/-- Role of a session (R407). -/
def sessionRole (s : State) (session : Nat) : Nat := match s.svc.sessions.find? (·.1 == session) with
  | some x => x.2.role
  | none => 1

/-- SP neither sends nor receives while hub_ref is lost (R396). -/
def linkDead (s : State) : Bool := nth s.clk.lost 0 false

/-- A message of the service link runs once, and is answered (R398 to R401, R408). `needs` asks for an opened session. -/
def serve (src : Src) (mtype : Nat) (needs : Bool) (run : Nat → Nat → State → State × Nat × Bytes) (s : State) : State :=
  match src with
  | .cp _ _ _ => s
  | .sp mac session txn =>
    if linkDead s then s else
    let m := mac.toNat
    let t := txn.toNat
    let s := takeFrame m session t mtype s
    match keptAnswer s m session t with
    | some a => repeatAnswer a s
    | none =>
      let a : Answer := { mac := m, session := session, txn := t, mtype := mtype, status := 0x11 }
      if !sessionOpen s m session || (needs && session == 0) then giveAnswer a s
      else
        let (s, status, payload) := run m session (touchSession session s)
        giveAnswer { a with status := status, payload := payload } s

/-! ### Checks on the service link -/

/-- Objects readable, and writable, before ready (R402, R428, R432, R444). -/
def earlyRead (index : Nat) : Bool := (0x1000 ≤ index && index ≤ 0x12FF) || (0x5000 ≤ index && index ≤ 0x55FF) || (0x7000 ≤ index && index ≤ 0x73FF)
def earlyWrite (index : Nat) : Bool := (0x1100 ≤ index && index ≤ 0x11FF) || index = 0x7040 || index = 0x7050

/-- Status that stops a read of an object by role (R407, R419), 0 when none. -/
def readStop (role index sub : Nat) : Nat := match objRow index sub with
  | none => 0x09
  | some r => if r.access = 0 && decide (role < r.role) then 0x08 else 0
/-- Status that stops a write of an object by role. -/
def writeStop (role index sub : Nat) : Nat := match objRow index sub with
  | none => 0x09
  | some r => if r.access = 0 || decide (role < r.role) then 0x08 else 0

/-- The same on the service link, where an object may not be accessible before ready. -/
def serviceStop (s : State) (write : Bool) (role index sub : Nat) : Nat :=
  if !isReady s && !(if write then earlyWrite index else earlyRead index) then 0x17
  else if write then writeStop role index sub else readStop role index sub

/-- Index, subindex and a zero byte. -/
def objHeader (index sub : Nat) : Bytes := leBytes 2 index ++ leBytes 1 sub ++ [0]

/-- Read message: the value, or all entries of an array (R403). -/
def runRead (index sub : Nat) (array : Bool) (_mac session : Nat) (s : State) : State × Nat × Bytes :=
  let st := serviceStop s false (sessionRole s session) index sub
  if st ≠ 0 then (s, st, []) else
  let n := if array && sub = 1 then leNat (valueOf s session index 0) else 1
  let value := (List.range n).flatMap fun k => valueOf s session index (sub + k)
  if 1484 < value.length then (s, 0x14, []) else (s, 0, objHeader index sub ++ value)

/-- A write on the service link; a Write message carries at most 1,484 bytes of value (R403). -/
def runWrite (src : Src) (ends limited : Bool) (index sub : Nat) (bs : Bytes) (_mac session : Nat) (s : State) : State × Nat × Bytes :=
  let st := serviceStop s true (sessionRole s session) index sub
  if st ≠ 0 then (s, st, [])
  else if limited && decide (1484 < bs.length) then (s, 0x14, [])
  else match objRow index sub with
    | none => (s, 0x09, [])
    | some r =>
      let (s, st) := performWrite src ends index sub r bs s
      (s, st, objHeader index sub)

/-- Describe message (R420). -/
def runDescribe (index sub : Nat) (_mac session : Nat) (s : State) : State × Nat × Bytes :=
  let st := serviceStop s false (sessionRole s session) index sub
  if st ≠ 0 then (s, st, []) else
  match objRow index sub with
  | none => (s, 0x09, [])
  | some r => (s, 0, objHeader index sub ++ leBytes 1 r.type ++ leBytes 1 r.access ++ leBytes 1 r.role ++ [0] ++ leBytes 4 r.size)

/-! ### In-band requests (R122, R123, R412, R479) -/

/-- Smallest length code of Table 4.4 that holds n bytes. -/
def lenCodeFor (n : Nat) : Option Nat := leastFrom (fun c => decide (n ≤ 2 ^ c)) 13 0

/-- Index and subindex of a dictionary request. -/
def dictIndex (r : Request) : Nat := bits r.opField.toNat 15 0
def dictSub (r : Request) : Nat := bits r.opField.toNat 23 16

/-- A counter read that object 0x8003 admits (R479). -/
def admitted (s : State) (p : Nat) (opcode : Nat) (r : Request) : Bool :=
  let mask := objGet s 0x8003 (p + 1)
  let i := dictIndex r
  opcode == 0x18 && ((isCounter i && bit mask (counterGroup i)) || ((i == 0x8011 || i == 0x8012) && bit mask 0))

/-- Status that stops a dictionary request before its object, in the order of Table 4.7; 0 when none. -/
def inBandStop (s : State) (p opcode : Nat) (r : Request) : Nat :=
  if !r.mgmt || r.lock || r.lockEnd || (lenOf r.lenCode.toNat).isNone then 0x03
  else if fixedMapOn s then 0x06
  else if admitted s p opcode r then 0
  else if !bit (objGet s 0x2410 (p + 1)) r.domain.toNat then 0x07
  else if objGet s 0x2430 (p + 1) = 0 then 0x0C
  else 0

/-- A read of object 0x1122:00 issues a challenge to the port (R412). -/
def issueChallenge (p : Nat) (s : State) : Bytes × State :=
  let c := leBytes 32 (Config.challenge s.draw).toNat
  (c, updPort p (fun d => { d with challenge := some (c, s.clk.hub) }) s.drawn)

/-- What a Dictionary read answers: status and value. -/
def inBandRead (p : Nat) (r : Request) (s : State) : State × Nat × Bytes :=
  let i := dictIndex r
  let sub := dictSub r
  let n := (lenOf r.lenCode.toNat).getD 0
  let stop := if admitted s p 0x18 r then (if (objRow i sub).isNone then 0x09 else 0) else readStop (portAt s p).role i sub
  if stop ≠ 0 then (s, stop, [])
  else if i = 0x1122 then
    if n < 32 then (s, 0x0A, []) else
    let (c, s) := issueChallenge p s
    (s, 0, c)
  else
    let v := valueOf s (9 + p) i sub
    if n < v.length then (s, 0x0A, []) else (s, 0, v)

/-- What a Dictionary write answers (R123). -/
def inBandWrite (src : Src) (ends : Bool) (p : Nat) (r : Request) (s : State) : Written :=
  let i := dictIndex r
  let sub := dictSub r
  let stop := writeStop (portAt s p).role i sub
  if stop ≠ 0 then (s, stop) else
  match objRow i sub with
  | none => (s, 0x09)
  | some row =>
    let n := if (variableSize i).isSome then declaredSize i r.data else row.size
    if lenCodeFor n ≠ some r.lenCode.toNat || !(r.data.drop n).all (· == 0) then rejectWrite s
    else performWrite src ends i sub row (padTo n (r.data.take n)) s

/-- Answer a dictionary request, behind the invalidation that its command has sent (R318); a port whose link the write took down
is not answered. -/
def inBandAnswer (p opcode : Nat) (r : Request) (status : Nat) (value : Bytes) (s : State) : State :=
  let m := s.fabric.commandMark
  let s := s.onFabric fun f => { f with commandMark := none }
  if !(portAt s p).up then s
  else if status ≠ 0 then reject p status opcode r s
  else respond p { kind := if opcode = 0x18 then 2 else 1, tag := r.tag.toNat, data := value, opcode := opcode, behind := m } s

/-- A dictionary request is executed (R122). -/
def runInBand (src : Src) (ends : Bool) (p opcode : Nat) (r : Request) (s : State) : State :=
  let stop := inBandStop s p opcode r
  if stop ≠ 0 then inBandAnswer p opcode r stop [] s
  else if opcode = 0x18 then
    let (s, st, v) := inBandRead p r s
    inBandAnswer p opcode r st v s
  else
    let (s, st) := inBandWrite src ends p r s
    if st = 0x10 then s else inBandAnswer p opcode r st [] s

/-- A dictionary request of the port still runs: a staging write that waits for an image copy. -/
def dictBusy (s : State) (p : Nat) : Bool := s.image.waiting.any fun x => match x.1 with
  | .cp q _ _ => q.val == p
  | .sp _ _ _ => false

/-- A dictionary request in its turn: one at a time, in arrival order (R122). -/
def turnInBand (src : Src) (ends : Bool) (p opcode : Nat) (r : Request) (s : State) : State :=
  if dictBusy s p || !(portAt s p).dict.isEmpty then updPort p (fun d => { d with dict := d.dict ++ [(opcode, r, ends)] }) s
  else runInBand src ends p opcode r s

/-- The dictionary requests that waited run until one waits again. -/
def resumeDict (p : Fin 4) (s : State) : State := go (portAt s p).dict.length s
where
  go : Nat → State → State
    | 0, s => s
    | n + 1, s =>
      match (portAt s p).dict with
      | [] => s
      | x :: rest =>
        if dictBusy s p then s else
        go n (runInBand (.cp p x.2.1.tag x.2.1.domain) x.2.2 p x.1 x.2.1 (updPort p (fun d => { d with dict := rest }) s))

/-- A dictionary request of any port arrives (R93, R97, R98, R122). -/
def inBand (src : Src) (ends : Bool) (p opcode : Nat) (r : Request) (s : State) : State :=
  if !takesRequests s p then s else
  let (flits, s) := takeInbox p opcode r s
  let s := returnFlits p flits s
  let s := if breaksSequence r then breakSequence p s else s
  let s :=
    if (portAt s p).tags.contains r.tag.toNat && tagInRange p r then tagReuse p r s
    else if !portAccepts p opcode then reject p 0x04 opcode r (if tagInRange p r then takeTag p r s else s)
    else if !tagInRange p r then reject p 0x03 opcode r s
    else turnInBand src ends p opcode r (takeTag p r s)
  let s := failMember p r s
  answerUnlisted (portAt s p).inbox.length p s

/-- The in-band write request that carries a value: header fields that the command does not give are zero. -/
def writeRequest (tag : BitVec 16) (domain : BitVec 6) (index sub : Nat) (bs : Bytes) : Request :=
  let c := (lenCodeFor bs.length).getD 12
  { tag := tag, domain := domain, lenCode := BitVec.ofNat 4 c, opField := BitVec.ofNat 24 (index + sub * 2 ^ 16),
    mgmt := true, data := padTo (2 ^ c) bs }

/-- A write of an object by either way (R400): a Write message, or a Dictionary write. -/
def objectWrite (src : Src) (ends : Bool) (index sub : Nat) (bs : Bytes) (s : State) : State :=
  match src with
  | .sp _ _ _ => serve src 0x03 false (runWrite src ends true index sub bs) s
  | .cp p tag domain => inBand src ends p 0x19 (writeRequest tag domain index sub bs) s

/-- A write of one byte. -/
def byteWrite (src : Src) (index sub : Nat) (v : BitVec 8) (s : State) : State := objectWrite src true index sub [v] s

/-- A staging write that waited for a copy has ended: its answer, unless status 0x10 has left (R400, R464). -/
def finishStaged (src : Src) (ok : Bool) (s : State) : State :=
  let status := if ok then 0 else 0x0A
  match src with
  | .cp p tag domain =>
    let r := writeRequest tag domain 0x7820 0 (List.replicate 4096 0)
    resumeDict p (if (portAt s p).tags.contains tag.toNat then inBandAnswer p 0x19 r status [] s else s)
  | .sp mac session txn =>
    match keptAnswer s mac.toNat session txn.toNat with
    | none => s
    | some a =>
      if !a.running then s else
      let b := { a with status := status, running := false, payload := if ok then a.payload else [] }
      let s := s.onSvc fun v => { v with kept := v.kept.map fun x => if x = a then b else x }
      if a.status = 0x10 then s else queueAnswer b s

end Sys2Proof.Machine
end

