-- ==== Sys2Proof/Machine/Service.lean ====
section
/-!
DEFINITION. The service link's messages: frames, reads and writes, transfers, sessions, notices and their acknowledgement
(chapter 13, R391 to R418).
-/
namespace Sys2Proof.Machine

/-! ### Received frames (R393, R396, R397, R399) -/

/-- Message types a host sends, with the least and the greatest payload length (Tables 13.2 and 13.3). -/
def messageLengths : Nat → Option (Nat × Nat)
  | 0x01 => some (0, 0)
  | 0x02 => some (4, 4)
  | 0x03 => some (4, 1488)
  | 0x04 => some (4, 4)
  | 0x08 => some (12, 12)
  | 0x09 => some (8, 1032)
  | 0x0A => some (8, 8)
  | 0x0B => some (4, 4)
  | 0x10 => some (4, 4)
  | 0x11 => some (32, 32)
  | 0x12 => some (0, 0)
  | 0x21 => some (4, 4)
  | _ => none

/-- Reserved bytes of a request payload: first byte and count (Table 13.3). -/
def reservedBytes : Nat → List (Nat × Nat)
  | 0x02 | 0x03 | 0x04 => [(3, 1)]
  | 0x08 => [(1, 1), (5, 3)]
  | 0x09 | 0x0A | 0x0B | 0x10 => [(1, 3)]
  | _ => []

/-- Status that stops a frame before its message is read: 0x15 unknown, 0x03 malformed, 0 none. -/
def frameStop (p : Bytes) : Nat :=
  match if field p 0 1 = 1 then messageLengths (field p 1 1) else none with
  | none => 0x15
  | some (lo, hi) =>
    let n := field p 8 2
    let body := slice p 12 n
    let flags := field p 2 1
    let ok := decide (12 + n ≤ p.length) && decide (lo ≤ n) && decide (n ≤ hi) && decide (flags < 8) && !bit flags 0
      && zeros p 3 1 && zeros p 5 1 && zeros p 10 2 && (reservedBytes (field p 1 1)).all fun r => zeros body r.1 r.2
    if ok then 0 else 0x03

/-- The cause by which a frame is dropped: the entry of object 0x1104 that counts it, none when the frame is accepted. -/
def frameDrop (s : State) (f : Frame) : Option Nat :=
  let mine := f.dest.toNat == s.svc.mac || (f.dest == 0xFFFFFFFFFFFF && field f.payload 1 1 == 1)
  if !f.fcsOk || f.length < 64 || 1518 < f.length then some 2
  else if !f.inOpportunity then some 3
  else if f.tagged || f.etherType ≠ 0x88B5 || !mine then some 4
  else none

/-- An accepted frame: a repeat and an unreadable message are answered at once, another waits for its command. -/
def acceptFrame (f : Frame) (s : State) : State :=
  let (mac, session, txn, mtype) := frameKey f
  let s := if sessionOpen s mac session then touchSession session s else s
  let stop := frameStop f.payload
  if mtype = 0x21 then (if stop = 0 then s.onSvc fun v => { v with inbox := v.inbox ++ [f] } else s)
  else match keptAnswer s mac session txn with
    | some a => repeatAnswer a s
    | none =>
      let a : Answer := { mac := mac, session := session, txn := txn, mtype := mtype, status := stop }
      if s.svc.inbox.any fun x => x.source == f.source && (frameKey x).2.1 == session && (frameKey x).2.2.1 == txn then
        queueAnswer { a with status := 0x10 } (s.onSvc fun v => { v with counts := modNth v.counts 5 (· + 1) })
      else if stop ≠ 0 then giveAnswer a s
      else s.onSvc fun v => { v with inbox := v.inbox ++ [f] }

/-- FRAME_RECEIVED (R393). -/
def execFrameReceived (f : Frame) (s : State) : Answered :=
  whenReleased s fun s =>
    if linkDead s then s else
    match frameDrop s f with
    | some k => s.onSvc fun v => { v with counts := modNth v.counts k (· + 1) }
    | none => acceptFrame f (s.onSvc fun v => { v with counts := modNth v.counts 0 (· + 1) })

/-! ### Discover, Read, Write, Describe -/

/-- The payload that answers Discover (Table 13.3). -/
def discoverPayload (s : State) : Bytes :=
  leBytes 8 fusedId ++ leBytes 4 s.variant.deviceType ++ leBytes 1 s.ident.nodeId ++ [0]
  ++ leBytes 2 (leNat (valueOf s 0 0x10FF 0)) ++ designationBytes s.variant

/-- DISCOVER (R398): answered only in session 0 (R403). -/
def execDiscover (src : Src) (s : State) : Answered :=
  whenReleased s fun s =>
    match src with
    | .sp mac session txn =>
      if session = 0 then serve src 0x01 false (fun _ _ s => (s, 0, discoverPayload s)) s
      else if linkDead s then s else takeFrame mac.toNat session txn.toNat 0x01 s
    | .cp _ _ _ => s

/-- SERVICE_READ (R400, R403). -/
def execServiceRead (src : Src) (index : BitVec 16) (sub : BitVec 8) (array : Bool) (s : State) : Answered :=
  whenReleased s (serve src 0x02 false (runRead index.toNat sub.toNat array))

/-- SERVICE_WRITE (R400). -/
def execServiceWrite (src : Src) (index : BitVec 16) (sub : BitVec 8) (value : Bytes) (s : State) : Answered :=
  whenReleased s (serve src 0x03 false (runWrite src true true index.toNat sub.toNat value))

/-- DESCRIBE (R420). -/
def execDescribe (src : Src) (index : BitVec 16) (sub : BitVec 8) (s : State) : Answered :=
  whenReleased s (serve src 0x04 false (runDescribe index.toNat sub.toNat))

/-- IN_PROGRESS_RESPONSE (R400): 100 ms after a write that still runs. -/
def execInProgressResponse (src : Src) (s : State) : Answered :=
  whenReleased s fun s =>
    match src with
    | .cp _ _ _ => s
    | .sp mac session txn =>
      match keptAnswer s mac.toNat session txn.toNat with
      | none => s
      | some a =>
        if !a.running || a.status = 0x10 || s.clk.hub < a.since + 100000000 || linkDead s then s else
        let s := s.onSvc fun v => { v with kept := v.kept.map fun x => if x = a then { x with status := 0x10 } else x }
        queueAnswer { a with status := 0x10, payload := [] } s

/-! ### Transfers (R404 to R406) -/

/-- Sizes a write transfer of an object may have. -/
def writeSizes (index sub : Nat) : Nat × Nat := match variableSize index, objRow index sub with
  | some b, _ => b
  | none, some r => (r.size, r.size)
  | none, none => (1, 0)

/-- The transfer a session's frame names: its own, and not 10 s without a frame. -/
def transferOf (s : State) (session id : Nat) : Option Transfer :=
  match s.svc.transfers.find? fun t => t.1 == id && t.2.session == session with
  | some t => if s.clk.hub < t.2.touched + 10000000000 then some t.2 else none
  | none => none

def updTransfer (id : Nat) (f : Transfer → Transfer) (s : State) : State :=
  s.onSvc fun v => { v with transfers := v.transfers.map fun t => if t.1 = id then (t.1, f t.2) else t }
def endTransfer (id : Nat) (s : State) : State := s.onSvc fun v => { v with transfers := v.transfers.filter (·.1 != id) }
/-- Transfers without a frame for 10 s are abandoned (R406). -/
def dropStale (s : State) : State :=
  s.onSvc fun v => { v with transfers := v.transfers.filter fun t => decide (s.clk.hub < t.2.touched + 10000000000) }

/-- Transfer begin (R404): checks of the object, then its length, then a free transfer. -/
def runBegin (write : Bool) (index sub length : Nat) (_mac session : Nat) (s : State) : State × Nat × Bytes :=
  let st := serviceStop s write (sessionRole s session) index sub
  let (lo, hi) := writeSizes index sub
  if st ≠ 0 then (s, st, [])
  else if !write && length ≠ 0 then (s, 0x03, [])
  else if write && (length < lo || hi < length || 8388608 < length) then (s, 0x0A, [])
  else
  let s := dropStale s
  match leastFrom (fun i => s.svc.transfers.all (·.1 != i)) 4 1 with
    | none => (s, 0x18, [])
    | some id =>
      if s.svc.transfers.any (·.2.session == session) then (s, 0x18, []) else
      let data := if write then [] else valueOf s session index sub
      let n := if write then length else data.length
      let t : Transfer := { session := session, write := write, index := index, sub := sub, length := n, data := data, touched := s.clk.hub }
      (s.onSvc fun v => { v with transfers := v.transfers ++ [(id, t)] }, 0,
        leBytes 1 id ++ [0, 0, 0] ++ leBytes 4 n ++ leBytes 2 1024 ++ [0, 0])

/-- Transfer block (R405). -/
def runBlock (id offset : Nat) (data : Bytes) (_mac session : Nat) (s : State) : State × Nat × Bytes :=
  match transferOf s session id with
  | none => (s, 0x13, [])
  | some t =>
    let s := updTransfer id (fun t => { t with touched := s.clk.hub }) s
    let head := leBytes 1 id ++ [0, 0, 0] ++ leBytes 4 offset
    let n := Nat.min 1024 (t.length - offset)
    if t.write then
      if t.last = some offset then (s, 0, head)
      else if offset ≠ t.data.length || t.length ≤ offset then (s, 0x16, [])
      else if data.length ≠ n then (s, 0x13, [])
      else (updTransfer id (fun t => { t with data := t.data ++ data, last := some offset }) s, 0, head)
    else if !data.isEmpty then (s, 0x03, [])
    else if offset % 1024 ≠ 0 || t.length ≤ offset then (s, 0x16, [])
    else (s, 0, head ++ slice t.data offset n)

/-- Transfer end (R405): a write transfer writes its object once; the transfer is over either way. -/
def runEnd (src : Src) (id crc : Nat) (_mac session : Nat) (s : State) : State × Nat × Bytes :=
  match transferOf s session id with
  | none => (s, 0x13, [])
  | some t =>
    let s := endTransfer id s
    let sum := crc32c t.data
    let head := leBytes 1 id ++ [0, 0, 0] ++ leBytes 4 sum
    if !t.write then (s, 0, head)
    else if t.data.length ≠ t.length || sum ≠ crc then (s, 0x13, [])
    else match objRow t.index t.sub with
      | none => (s, 0x09, [])
      | some r =>
        let (s, st) := performWrite src true t.index t.sub r t.data s
        (s, st, head)

/-- Transfer abort (R406). -/
def runAbort (id : Nat) (_mac session : Nat) (s : State) : State × Nat × Bytes :=
  match transferOf s session id with
  | none => (s, 0x13, [])
  | some _ => (endTransfer id s, 0, leBytes 1 id ++ [0, 0, 0])

/-- TRANSFER_BEGIN (R404). -/
def execTransferBegin (src : Src) (write : Bool) (index : BitVec 16) (sub : BitVec 8) (length : Nat) (s : State) : Answered :=
  whenReleased s (serve src 0x08 true (runBegin write index.toNat sub.toNat length))
/-- TRANSFER_BLOCK (R405). -/
def execTransferBlock (src : Src) (transfer offset : Nat) (data : Bytes) (s : State) : Answered :=
  whenReleased s (serve src 0x09 true (runBlock transfer offset data))
/-- TRANSFER_END (R405). -/
def execTransferEnd (src : Src) (transfer : Nat) (crc : BitVec 32) (s : State) : Answered :=
  whenReleased s (serve src 0x0A true (runEnd src transfer crc.toNat))
/-- TRANSFER_ABORT (R406). -/
def execTransferAbort (src : Src) (transfer : Nat) (s : State) : Answered :=
  whenReleased s (serve src 0x0B true (runAbort transfer))
/-- TRANSFER_TIMEOUT (R406): 10 s of hub time without a frame. -/
def execTransferTimeout (transfer : Nat) (s : State) : Answered :=
  whenReleased s fun s =>
    if linkDead s || s.svc.transfers.any (fun t => t.1 == transfer && decide (s.clk.hub < t.2.touched + 10000000000)) then s
    else endTransfer transfer s

/-! ### Sessions (R408 to R411) -/

/-- A session closes: its transfers end without writing (R406). -/
def closeSession (k : Nat) (s : State) : State :=
  s.onSvc fun v => { v with sessions := v.sessions.filter (·.1 != k), transfers := v.transfers.filter (·.2.session != k) }

/-- Session open (R408): the lowest free session, observer until it is unlocked. -/
def runOpen (role : Nat) (mac _session : Nat) (s : State) : State × Nat × Bytes :=
  if role = 0 || 3 < role then (s, 0x0A, []) else
  match leastFrom (fun k => s.svc.sessions.all (·.1 != k)) 8 1 with
  | none => (s, 0x18, [])
  | some k =>
    let w := defaultWindows s
    let s := updWin k (fun _ => w) s
    let (c, s) := if role = 1 then ((none : Option Bytes), s) else (some (leBytes 32 (Config.challenge s.draw).toNat), s.drawn)
    let x : Session := { mac := mac, wanted := role, challenge := c.map fun b => (b, s.clk.hub), lastFrame := s.clk.hub }
    (s.onSvc fun v => { v with sessions := v.sessions ++ [(k, x)] }, 0,
      leBytes 1 k ++ leBytes 1 1 ++ [0, 0] ++ c.getD (List.replicate 32 0))

/-- Session unlock (R410, R411). -/
def runUnlock (code : Bytes) (mac session : Nat) (s : State) : State × Nat × Bytes :=
  match s.svc.sessions.find? (·.1 == session) with
  | none => (s, 0x11, [])
  | some (_, x) =>
    let source := beBytes 6 mac
    let ok := unlocks s source session x.wanted x.challenge code
    let change := fun (y : Session) => { y with challenge := none, role := if ok then x.wanted else y.role }
    let s := s.onSvc fun v => { v with sessions := v.sessions.map fun e => if e.1 = session then (e.1, change e.2) else e }
    if ok then (notify .hub 0x1001 0 (leBytes 1 session ++ leBytes 1 x.wanted ++ source) s, 0, leBytes 1 x.wanted ++ [0, 0, 0])
    else (unlockFailed source x.wanted s, 0x12, [])

/-- SESSION_OPEN (R408). -/
def execSessionOpen (src : Src) (role : BitVec 8) (s : State) : Answered := whenReleased s (serve src 0x10 false (runOpen role.toNat))
/-- SESSION_UNLOCK (R410). -/
def execSessionUnlock (src : Src) (code : Bytes) (s : State) : Answered := whenReleased s (serve src 0x11 true (runUnlock code))
/-- SESSION_CLOSE (R408). -/
def execSessionClose (src : Src) (s : State) : Answered :=
  whenReleased s (serve src 0x12 true fun _ k s => (closeSession k s, 0, []))
/-- SESSION_IDLE_TIMEOUT (R408): no frame for the time of object 0x1111:00. -/
def execSessionIdleTimeout (session : Fin 9) (s : State) : Answered :=
  whenReleased s fun s =>
    match s.svc.sessions.find? (·.1 == session.val) with
    | none => s
    | some (_, x) =>
      if linkDead s || decide (s.clk.hub < x.lastFrame + objGet s 0x1111 0 * 1000000000) then s else closeSession session s

/-! ### Sending (R394, R413 to R418) -/

/-- A body as a Notice frame carries it: padded to a multiple of 4. -/
def paddedBody (n : Notice) (resend : Bool) : Bytes := let b := noticeBody n resend; padTo (roundUp b.length 4) b

/-- Bodies of a queue that one frame carries: in queue order, at most 64 and at most 1,484 bytes; info and warn bodies beyond
the rate stay (R417, R418). Room in bodies and bytes, info and warn bodies still allowed; bodies taken and left. -/
def takeBodies (room bytes rate : Nat) : List Notice → List Notice × List Notice
  | [] => ([], [])
  | n :: q =>
    let size := (paddedBody n false).length
    if n.severity < 2 && rate = 0 then
      let (t, l) := takeBodies room bytes rate q
      (t, n :: l)
    else if room = 0 || bytes < size then ([], n :: q)
    else
      let (t, l) := takeBodies (room - 1) (bytes - size) (if n.severity < 2 then rate - 1 else rate) q
      (n :: t, l)

/-- Bodies a subscriber may still be sent this second. -/
def rateLeft (s : State) (d : Subscriber) : Nat :=
  objGet s 0x1133 0 - (if d.second = s.clk.hub / 1000000000 then d.sent else 0)

/-- Subscribers that a Notice frame could serve now. -/
def noticesFor (s : State) : List Nat :=
  (List.range 8).filter fun i =>
    let d := nth s.svc.subs i {}
    (subscription s i).1 ≠ 0 && !(takeBodies 64 1484 (rateLeft s d) d.queue).1.isEmpty

/-- The complex's own frame of a type: header and payload (Table 13.1). -/
def jenrynFrame (mtype flags status session txn : Nat) (payload : Bytes) : Bytes :=
  leBytes 1 1 ++ leBytes 1 mtype ++ leBytes 1 flags ++ leBytes 1 status ++ leBytes 1 session ++ [0] ++ leBytes 2 txn
  ++ leBytes 2 payload.length ++ [0, 0] ++ payload

/-- A frame leaves. -/
def putFrame (dest : Nat) (bs : Bytes) (s : State) : State :=
  s.onSvc fun v => { v with wire := (dest, bs), counts := modNth v.counts 1 (· + 1) }

/-- A Notice frame of some bodies leaves for a subscriber. -/
def putNotices (i : Nat) (resend : Bool) (ns : List Notice) (s : State) : State :=
  let payload := leBytes 1 ns.length ++ [0, 0, 0] ++ ns.flatMap (paddedBody · resend)
  let s := putFrame (subscription s i).1 (jenrynFrame 0x20 0 0 0 (s.svc.frames % 65536) payload) s
  s.onSvc fun v => { v with frames := v.frames + 1 }

/-- Notice 0x1010 for a subscriber whose queue has space after drops (R415). -/
def saidServiceDrops (i : Nat) (s : State) : State :=
  let d := nth s.svc.subs i {}
  if d.unsaid = 0 || 64 ≤ d.queue.length then s else
  let n : Notice := { code := 0x1010, severity := 1, stamp := hubStamp s, payload := leBytes 1 (i + 1) ++ leBytes 4 d.unsaid }
  journalNotice n (subQueue i n (s.onSvc fun v => { v with subs := modNth v.subs i fun d => { d with unsaid := 0 } }))

/-- The bodies that fit leave for a subscriber; fault and critical bodies are kept where it acknowledges (R418). -/
def sendNotices (i : Nat) (s : State) : State :=
  let d := nth s.svc.subs i {}
  let (ns, left) := takeBodies 64 1484 (rateLeft s d) d.queue
  let sec := s.clk.hub / 1000000000
  let sent := (if d.second = sec then d.sent else 0) + (ns.filter (·.severity < 2)).length
  let keep := if (subscription s i).2.2.2 then (ns.filter fun n => decide (2 ≤ n.severity)).map fun n => (⟨n, 0, s.clk.hub⟩ : Kept) else []
  let s := s.onSvc fun v => { v with
    subs := modNth v.subs i fun d => { d with queue := left, second := sec, sent := sent, kept := d.kept ++ keep }, lastNotice := true }
  saidServiceDrops i (putNotices i false ns s)

/-- A response may leave: the invalidation it follows has left the hub (R318). -/
def answerDue (s : State) (a : Answer) : Bool := a.behind.all (leftHub s)

/-- The oldest response that may leave does so. -/
def sendAnswer (s : State) : State :=
  match s.svc.out.find? (answerDue s) with
  | none => s
  | some a =>
    let s := s.onSvc fun v => { v with out := dropFirst (· == a) v.out, lastNotice := false }
    putFrame a.mac (jenrynFrame a.mtype 1 a.status a.session a.txn a.payload) s

/-- TRANSMIT_OPPORTUNITY (R394): one frame; responses and notices alternate while both wait. Which of several subscribers is
served is a free choice. -/
def execTransmitOpportunity (s : State) : Answered :=
  whenReleased s fun s =>
    if linkDead s then s else
    let subs := noticesFor s
    let notice := !subs.isEmpty && (!(s.svc.out.any (answerDue s)) || !s.svc.lastNotice)
    if notice then sendNotices (nth subs (Config.choice s.draw % subs.length) 0) s.drawn else sendAnswer s

/-- A sequence number at or before another, over its 32 bits. -/
def seqReached (named seq : Nat) : Bool := decide ((named + 2 ^ 32 - seq) % 2 ^ 32 < 2 ^ 31)

/-- NOTICE_ACKNOWLEDGE (R418): it is not answered. -/
def execNoticeAcknowledge (src : Src) (sequence : BitVec 32) (s : State) : Answered :=
  whenReleased s fun s =>
    match src with
    | .cp _ _ _ => s
    | .sp mac session txn =>
      if linkDead s then s else
      let s := takeFrame mac.toNat session txn.toNat 0x21 s
      let s := if sessionOpen s mac.toNat session then touchSession session s else s
      forEach (List.range 8) (fun i s =>
        if (subscription s i).1 = mac.toNat then s.onSvc fun v => { v with
          subs := modNth v.subs i fun d => { d with kept := d.kept.filter fun k => !seqReached sequence.toNat k.body.seq } }
        else s) s

/-- NOTICE_RESEND (R418): the oldest kept body that is 100 ms old leaves again; after its fifth resend it is dropped. -/
def execNoticeResend (subscriber : Fin 8) (s : State) : Answered :=
  whenReleased s fun s =>
    if linkDead s then s else
    let i := subscriber.val
    match (nth s.svc.subs i {}).kept.find? fun k => decide (k.sentAt + 100000000 ≤ s.clk.hub) with
    | none => s
    | some k =>
      if k.resends < 5 then
        let s := s.onSvc fun v => { v with subs := modNth v.subs i fun d => { d with
          kept := d.kept.map fun x => if x = k then { x with resends := x.resends + 1, sentAt := s.clk.hub } else x } }
        putNotices i true [k.body] s
      else
        let s := s.onSvc fun v => { v with subs := modNth v.subs i fun d => { d with
          kept := d.kept.filter (· != k), drops := (d.drops + 1) % 2 ^ 32 } }
        raiseBut (i + 1) { code := 0x1011, severity := 1, stamp := hubStamp s,
                           payload := leBytes 1 (i + 1) ++ leBytes 2 k.body.code ++ leBytes 4 k.body.seq } s

/-- PLCA_STATUS_CHANGE (R391): object 0x1101:04 follows the PLCA status. -/
def execPlcaStatusChange (ok : Bool) (s : State) : Answered := whenReleased s fun s => s.onSvc fun v => { v with plcaOk := ok }

end Sys2Proof.Machine
end

