-- ==== Sys2Proof/Machine/Commands.lean ====
section
/-!
DEFINITION. The rows of the command table that are a write of one object, by a Write message or a Dictionary write, the
in-band requests themselves, and the end of what such writes start (a snapshot, a copy of an image).
-/
namespace Sys2Proof.Machine

/-! ### In-band requests (R122) -/

/-- The requester of a port's dictionary request. -/
def portSrc (port : PortId) (r : Request) : Src := .cp (if h : port.val < 4 then ⟨port.val, h⟩ else 0) r.tag r.domain

/-- DICTIONARY_READ (R122, R123). -/
def execDictionaryRead (port : PortId) (r : Request) (s : State) : Answered :=
  whenReleased s (inBand (portSrc port r) true port 0x18 r)
/-- DICTIONARY_WRITE (R122, R123). -/
def execDictionaryWrite (port : PortId) (r : Request) (s : State) : Answered :=
  whenReleased s (inBand (portSrc port r) true port 0x19 r)

/-- A dictionary request of one object. -/
def inBandOn (index opcode : Nat) (port : Fin 4) (r : Request) (s : State) : State :=
  if dictIndex r = index then inBand (.cp port r.tag r.domain) true port.val opcode r s else s

/-- IN_BAND_CHALLENGE (R412): a Dictionary read of object 0x1122:00. -/
def execInBandChallenge (port : Fin 4) (r : Request) (s : State) : Answered := whenReleased s (inBandOn 0x1122 0x18 port r)
/-- IN_BAND_UNLOCK (R410 to R412): a Dictionary write of object 0x1123:00. -/
def execInBandUnlock (port : Fin 4) (r : Request) (s : State) : Answered := whenReleased s (inBandOn 0x1123 0x19 port r)
/-- IN_BAND_ROLE_DROP (R412): a Dictionary write of object 0x1124:00. -/
def execInBandRoleDrop (port : Fin 4) (r : Request) (s : State) : Answered := whenReleased s (inBandOn 0x1124 0x19 port r)

/-! ### Any object -/

/-- OBJECT_WRITE (R400). -/
def execObjectWrite (src : Src) (index : BitVec 16) (sub : BitVec 8) (value : Bytes) (s : State) : Answered :=
  whenReleased s (objectWrite src true index.toNat sub.toNat value)
/-- SETTINGS_STORE_RESET (R425). -/
def execSettingsStoreReset (src : Src) (value : BitVec 8) (s : State) : Answered := whenReleased s (byteWrite src 0x1140 0 value)

/-! ### Time (chapter 2) -/

/-- SNAPSHOT_START (R55). -/
def execSnapshotStart (src : Src) (value : BitVec 8) (s : State) : Answered := whenReleased s (byteWrite src 0x1203 1 value)

/-- SNAPSHOT_COMPLETE (R55): all values are replaced together. A capture falls within its request's round trip, of at most
200 ns. -/
def execSnapshotComplete (roundTrips : List Nat) (s : State) : Answered :=
  whenReleased s fun s =>
    match s.clk.running with
    | none => s
    | some x =>
      if roundTrips.length ≠ 4 || roundTrips.any (fun r => decide (200 < r)) then s else
      let (caps, s) := (List.range 4).foldl (fun (a : List Nat × State) q =>
        match nth x.times q none with
        | none => (a.1 ++ [0], a.2)
        | some t => let (d, s) := drawUpTo (nth roundTrips q 0) a.2; (a.1 ++ [(t + d) % 2 ^ 61], s)) ([], s)
      let trips := (List.range 4).map fun q => if (nth x.times q none).isSome then nth roundTrips q 0 else 0
      s.onClk fun c => { c with running := none, snap := [x.issued % 2 ^ 61] ++ caps ++ trips }

/-- HOST_DATE_WRITE (R52). -/
def execHostDateWrite (src : Src) (value : BitVec 64) (s : State) : Answered :=
  whenReleased s (objectWrite src true 0x1210 0 (leBytes 8 value.toNat))

/-! ### Segments (Table 3.5) -/

/-- The 16 bytes of a segment command. -/
def segBytes (cmd : Nat) (c : SegCmd) : Bytes :=
  leBytes 1 cmd ++ leBytes 1 c.reserved1.toNat ++ leBytes 2 c.reserved2.toNat ++ leBytes 4 c.segment.toNat ++ leBytes 8 c.image.toNat
/-- A write of object 0x2010:00. -/
def segWrite (cmd : Nat) (src : Src) (c : SegCmd) (s : State) : State := objectWrite src true 0x2010 0 (segBytes cmd c) s

/-- CREATE (R68). -/
def execCreate (src : Src) (c : SegCmd) (s : State) : Answered := whenReleased s (segWrite 1 src c)
/-- FREE (R68). -/
def execFree (src : Src) (c : SegCmd) (s : State) : Answered := whenReleased s (segWrite 2 src c)
/-- MODIFY (R68). -/
def execModify (src : Src) (c : SegCmd) (s : State) : Answered := whenReleased s (segWrite 3 src c)
/-- MOVE (R68). -/
def execMove (src : Src) (c : SegCmd) (s : State) : Answered := whenReleased s (segWrite 4 src c)

/-! ### Arbiters and regulation -/

/-- HIGH_WATER_CLEAR (R187). -/
def execHighWaterClear (src : Src) (value : BitVec 8) (s : State) : Answered := whenReleased s (byteWrite src 0x3411 0 value)
/-- SAMPLE_CLEAR (R210). -/
def execSampleClear (src : Src) (value : BitVec 8) (s : State) : Answered := whenReleased s (byteWrite src 0x3865 0 value)
/-- GATE_LIST_WRITE (R201). -/
def execGateListWrite (src : Src) (port : PortId) (value : Bytes) (s : State) : Answered :=
  whenReleased s (objectWrite src true 0x3840 (port.val + 1) value)
/-- RESERVATION_SET_WRITE (R205). -/
def execReservationSetWrite (src : Src) (value : Bytes) (s : State) : Answered := whenReleased s (objectWrite src true 0x3810 0 value)

/-! ### Commands whose first byte names them -/

/-- A write of a command object whose first byte is the row's command. -/
def namedWrite (index cmd : Nat) (src : Src) (value : Bytes) (s : State) : State :=
  objectWrite src true index 0 (leBytes 1 cmd ++ value.drop 1) s

/-- SCRUB_DEFINE (R249). -/
def execScrubDefine (src : Src) (value : Bytes) (s : State) : Answered := whenReleased s (namedWrite 0x4020 1 src value)
/-- SCRUB_STOP (R249). -/
def execScrubStop (src : Src) (value : Bytes) (s : State) : Answered := whenReleased s (namedWrite 0x4020 2 src value)
/-- SPARE_LANE (R347). -/
def execSpareLane (src : Src) (value : Bytes) (s : State) : Answered := whenReleased s (namedWrite 0x5030 1 src value)
/-- SPARE_CHANNEL (R347). -/
def execSpareChannel (src : Src) (value : Bytes) (s : State) : Answered := whenReleased s (namedWrite 0x5030 2 src value)
/-- MAP_OUT_CHANNEL (R347). -/
def execMapOutChannel (src : Src) (value : Bytes) (s : State) : Answered := whenReleased s (namedWrite 0x5030 3 src value)
/-- QUEUE_HARD_ROW_REPAIR (R340). -/
def execQueueHardRowRepair (src : Src) (value : Bytes) (s : State) : Answered := whenReleased s (namedWrite 0x5030 4 src value)
/-- QUEUE_COLUMN_REPAIR (R341). -/
def execQueueColumnRepair (src : Src) (value : Bytes) (s : State) : Answered := whenReleased s (namedWrite 0x5030 5 src value)
/-- CANCEL_QUEUED_REPAIRS (Table 11.14). -/
def execCancelQueuedRepairs (src : Src) (value : Bytes) (s : State) : Answered := whenReleased s (namedWrite 0x5030 6 src value)
/-- TEST_START (R482). -/
def execTestStart (src : Src) (value : Bytes) (s : State) : Answered := whenReleased s (namedWrite 0x9010 1 src value)
/-- TEST_STOP (R482). -/
def execTestStop (src : Src) (value : Bytes) (s : State) : Answered := whenReleased s (namedWrite 0x9010 2 src value)

/-! ### Start-up, shutdown, resets, Slate mode -/

/-- START_UP_HOLD (R432): a write of object 0x7050:00. -/
def execStartUpHold (src : Src) (value : BitVec 8) (s : State) : Answered := whenReleased s (byteWrite src 0x7050 0 value)
/-- SHUTDOWN_IN_MODE (R382): a write of 1 to object 0x6031:00. -/
def execShutdownInMode (src : Src) (value : BitVec 8) (s : State) : Answered := whenReleased s (byteWrite src 0x6031 0 value)
/-- SHUTDOWN_IMMEDIATE (R382): a write of 2 to object 0x6031:00. -/
def execShutdownImmediate (src : Src) (value : BitVec 8) (s : State) : Answered := whenReleased s (byteWrite src 0x6031 0 value)
/-- RESUME (R386). -/
def execResume (src : Src) (value : BitVec 8) (s : State) : Answered := whenReleased s (byteWrite src 0x6032 0 value)
/-- QUADRANT_RESET (R439). -/
def execQuadrantReset (src : Src) (q : Fin 4) (ends : Bool) (s : State) : Answered :=
  whenReleased s (objectWrite src ends 0x7020 (q.val + 1) [1])
/-- QUADRANT_RESET_AND_HOLD (R439). -/
def execQuadrantResetAndHold (src : Src) (q : Fin 4) (ends : Bool) (s : State) : Answered :=
  whenReleased s (objectWrite src ends 0x7020 (q.val + 1) [2])
/-- QUADRANT_RELEASE_HOLD (R439). -/
def execQuadrantReleaseHold (src : Src) (q : Fin 4) (s : State) : Answered :=
  whenReleased s (objectWrite src true 0x7020 (q.val + 1) [3])
/-- PORT_RESET (R441). -/
def execPortReset (src : Src) (port : PortId) (s : State) : Answered := whenReleased s (byteWrite src 0x7021 (port.val + 1) 1)
/-- PORT_RESET_AND_HOLD (R441). -/
def execPortResetAndHold (src : Src) (port : PortId) (s : State) : Answered := whenReleased s (byteWrite src 0x7021 (port.val + 1) 2)
/-- PORT_RELEASE_HOLD (R441). -/
def execPortReleaseHold (src : Src) (port : PortId) (s : State) : Answered := whenReleased s (byteWrite src 0x7021 (port.val + 1) 3)
/-- SLATE_ENTER (R456). -/
def execSlateEnter (src : Src) (value : BitVec 8) (s : State) : Answered := whenReleased s (byteWrite src 0x7022 0 value)
/-- SLATE_LEAVE (R456). -/
def execSlateLeave (src : Src) (value : BitVec 8) (s : State) : Answered := whenReleased s (byteWrite src 0x7022 0 value)

/-! ### Images, counters -/

/-- STAGING_WRITE (R464): by a transfer that has ended with the image, or in-band for an image of 4,096 bytes. -/
def execStagingWrite (src : Src) (image : Bytes) (s : State) : Answered :=
  whenReleased s fun s =>
    match src with
    | .sp _ _ _ => serve src 0x0A false (runWrite src true false 0x7820 0 image) s
    | .cp _ _ _ => objectWrite src true 0x7820 0 image s
/-- STAGING_CANCEL (R465). -/
def execStagingCancel (src : Src) (value : BitVec 8) (s : State) : Answered := whenReleased s (byteWrite src 0x7822 0 value)

/-- IMAGE_COPY (R470): the copy of the staged image in force ends; staging writes that waited run. -/
def execImageCopy (readBackOk : Bool) (s : State) : Answered :=
  whenReleased s fun s =>
    if s.image.copy ≠ 1 || !s.nor.present then s else
    let s := if readBackOk then copyDone s else copyFails s
    if s.image.copy = 1 then s else runStaging finishStaged s

/-- OVERFLOW_CLEAR (R476). -/
def execOverflowClear (src : Src) (value : BitVec 8) (s : State) : Answered := whenReleased s (byteWrite src 0x8002 0 value)

end Sys2Proof.Machine
end

