-- ==== Sys2Proof/Machine/Dispatch.lean ====
section
/-!
DEFINITION. The dispatch from a command to its meaning, one arm per row of spec/opcode_table.json.
-/
namespace Sys2Proof.Machine

/-- The effect of a command on everything but the queue. -/
def exec (i : Instr) (s : State) : Host.Outcome State Fault Refusal :=
  match i with
  | .qzRstNAssert => Sys2Proof.Machine.execQzRstNAssert s
  | .startUp env => Sys2Proof.Machine.execStartUp env s
  | .hardRepairResult stack pch status => Sys2Proof.Machine.execHardRepairResult stack pch status s
  | .startUpHold src value => Sys2Proof.Machine.execStartUpHold src value s
  | .referenceLost die => Sys2Proof.Machine.execReferenceLost die s
  | .referenceRestored die => Sys2Proof.Machine.execReferenceRestored die s
  | .quadrantOffline q => Sys2Proof.Machine.execQuadrantOffline q s
  | .quadrantReturn q => Sys2Proof.Machine.execQuadrantReturn q s
  | .snapshotStart src value => Sys2Proof.Machine.execSnapshotStart src value s
  | .snapshotComplete roundTrips => Sys2Proof.Machine.execSnapshotComplete roundTrips s
  | .hostDateWrite src value => Sys2Proof.Machine.execHostDateWrite src value s
  | .poweredTimePersist => Sys2Proof.Machine.execPoweredTimePersist s
  | .flitReceived port bundle flit => Sys2Proof.Machine.execFlitReceived port bundle flit s
  | .linkReplay port acked => Sys2Proof.Machine.execLinkReplay port acked s
  | .read port r => Sys2Proof.Machine.execRead port r s
  | .write port r => Sys2Proof.Machine.execWrite port r s
  | .writeZero port r => Sys2Proof.Machine.execWriteZero port r s
  | .poison port r => Sys2Proof.Machine.execPoison port r s
  | .atomic port r => Sys2Proof.Machine.execAtomic port r s
  | .atomicFetch port r => Sys2Proof.Machine.execAtomicFetch port r s
  | .writeFence port r => Sys2Proof.Machine.execWriteFence port r s
  | .fullFence port r => Sys2Proof.Machine.execFullFence port r s
  | .fenceComplete port tag => Sys2Proof.Machine.execFenceComplete port tag s
  | .collectiveDeclare port r => Sys2Proof.Machine.execCollectiveDeclare port r s
  | .dictionaryRead port r => Sys2Proof.Machine.execDictionaryRead port r s
  | .dictionaryWrite port r => Sys2Proof.Machine.execDictionaryWrite port r s
  | .outingStart port r => Sys2Proof.Machine.execOutingStart port r s
  | .replicaFill port r => Sys2Proof.Machine.execReplicaFill port r s
  | .replicaRelease port r => Sys2Proof.Machine.execReplicaRelease port r s
  | .combinedAtomic port r => Sys2Proof.Machine.execCombinedAtomic port r s
  | .combinedAtomicFetch port r => Sys2Proof.Machine.execCombinedAtomicFetch port r s
  | .lockTimeout port => Sys2Proof.Machine.execLockTimeout port s
  | .visibilityPoint reqId => Sys2Proof.Machine.execVisibilityPoint reqId s
  | .responseSent port notice => Sys2Proof.Machine.execResponseSent port notice s
  | .portQuietEnter port samples => Sys2Proof.Machine.execPortQuietEnter port samples s
  | .portQuietLeave port samples => Sys2Proof.Machine.execPortQuietLeave port samples s
  | .quietChatter port changes => Sys2Proof.Machine.execQuietChatter port changes s
  | .quietChatterEnd port quietNs level => Sys2Proof.Machine.execQuietChatterEnd port quietNs level s
  | .sweepMarkerArrival requester q => Sys2Proof.Machine.execSweepMarkerArrival requester q s
  | .sweepAcknowledge requester q => Sys2Proof.Machine.execSweepAcknowledge requester q s
  | .arbiterDecision arbiter => Sys2Proof.Machine.execArbiterDecision arbiter s
  | .urgencyLevelChange port group samples spanNs => Sys2Proof.Machine.execUrgencyLevelChange port group samples spanNs s
  | .urgencyChatterStart port group changes => Sys2Proof.Machine.execUrgencyChatterStart port group changes s
  | .urgencyChatterEnd port group worst quietNs => Sys2Proof.Machine.execUrgencyChatterEnd port group worst quietNs s
  | .regulationWindowBoundary => Sys2Proof.Machine.execRegulationWindowBoundary s
  | .creditPositive entry => Sys2Proof.Machine.execCreditPositive entry s
  | .gateOpen port group => Sys2Proof.Machine.execGateOpen port group s
  | .gateListWrite src port value => Sys2Proof.Machine.execGateListWrite src port value s
  | .gateListActivate port => Sys2Proof.Machine.execGateListActivate port s
  | .reservationSetWrite src value => Sys2Proof.Machine.execReservationSetWrite src value s
  | .reservationSetActivate => Sys2Proof.Machine.execReservationSetActivate s
  | .floorRecompute cause => Sys2Proof.Machine.execFloorRecompute cause s
  | .latencyWindowEnd entry => Sys2Proof.Machine.execLatencyWindowEnd entry s
  | .samplingBoundary => Sys2Proof.Machine.execSamplingBoundary s
  | .sampleClear src value => Sys2Proof.Machine.execSampleClear src value s
  | .highWaterClear src value => Sys2Proof.Machine.execHighWaterClear src value s
  | .combiningWindowExpiry line => Sys2Proof.Machine.execCombiningWindowExpiry line s
  | .basketFlushVisible reqId => Sys2Proof.Machine.execBasketFlushVisible reqId s
  | .create src c => Sys2Proof.Machine.execCreate src c s
  | .free src c => Sys2Proof.Machine.execFree src c s
  | .modify src c => Sys2Proof.Machine.execModify src c s
  | .move src c => Sys2Proof.Machine.execMove src c s
  | .freedSlotCleared index => Sys2Proof.Machine.execFreedSlotCleared index s
  | .moveComplete segment => Sys2Proof.Machine.execMoveComplete segment s
  | .placementEvaluation => Sys2Proof.Machine.execPlacementEvaluation s
  | .mapRebuildComplete => Sys2Proof.Machine.execMapRebuildComplete s
  | .channelQueueEntry stack pch => Sys2Proof.Machine.execChannelQueueEntry stack pch s
  | .issueHalfSlot stack pch => Sys2Proof.Machine.execIssueHalfSlot stack pch s
  | .idleCloseTimeout stack pch bank => Sys2Proof.Machine.execIdleCloseTimeout stack pch bank s
  | .hammerEpochBoundary q => Sys2Proof.Machine.execHammerEpochBoundary q s
  | .activationTokenRefill stack pch bank => Sys2Proof.Machine.execActivationTokenRefill stack pch bank s
  | .refreshDue stack pch bank => Sys2Proof.Machine.execRefreshDue stack pch bank s
  | .readBurstReturn stack pch noise => Sys2Proof.Machine.execReadBurstReturn stack pch noise s
  | .escalationComplete stack pch => Sys2Proof.Machine.execEscalationComplete stack pch s
  | .missingBurstTimeout stack pch => Sys2Proof.Machine.execMissingBurstTimeout stack pch s
  | .caAlert stack erring clears => Sys2Proof.Machine.execCaAlert stack erring clears s
  | .temperatureReadout stack first repeated => Sys2Proof.Machine.execTemperatureReadout stack first repeated s
  | .restStopDue stack pch => Sys2Proof.Machine.execRestStopDue stack pch s
  | .restStop stack pch => Sys2Proof.Machine.execRestStop stack pch s
  | .restStopEnd stack pch drift worstLane eyes => Sys2Proof.Machine.execRestStopEnd stack pch drift worstLane eyes s
  | .divisionLowerHoldExpiry stack => Sys2Proof.Machine.execDivisionLowerHoldExpiry stack s
  | .descriptorStart q slot => Sys2Proof.Machine.execDescriptorStart q slot s
  | .hamperDescriptor q slot index => Sys2Proof.Machine.execHamperDescriptor q slot index s
  | .ramblerDescriptor q slot index => Sys2Proof.Machine.execRamblerDescriptor q slot index s
  | .transcodeCopyDescriptor q slot index => Sys2Proof.Machine.execTranscodeCopyDescriptor q slot index s
  | .blockCheckDescriptor q slot index => Sys2Proof.Machine.execBlockCheckDescriptor q slot index s
  | .continueDescriptor q slot => Sys2Proof.Machine.execContinueDescriptor q slot s
  | .endDescriptor q slot => Sys2Proof.Machine.execEndDescriptor q slot s
  | .bagMerge q slot index bag => Sys2Proof.Machine.execBagMerge q slot index bag s
  | .producedWordUpdate q slot index => Sys2Proof.Machine.execProducedWordUpdate q slot index s
  | .consumedWordPoll q slot index => Sys2Proof.Machine.execConsumedWordPoll q slot index s
  | .descriptorTimeout q slot index => Sys2Proof.Machine.execDescriptorTimeout q slot index s
  | .outingComplete q slot => Sys2Proof.Machine.execOutingComplete q slot s
  | .scrubDefine src value => Sys2Proof.Machine.execScrubDefine src value s
  | .scrubStop src value => Sys2Proof.Machine.execScrubStop src value s
  | .scrubRowUnit pass stack ch => Sys2Proof.Machine.execScrubRowUnit pass stack ch s
  | .scrubPassEnd pass => Sys2Proof.Machine.execScrubPassEnd pass s
  | .scrubRepeatStart pass => Sys2Proof.Machine.execScrubRepeatStart pass s
  | .channelLost stack ch condition => Sys2Proof.Machine.execChannelLost stack ch condition s
  | .channelRebuildComplete stack ch => Sys2Proof.Machine.execChannelRebuildComplete stack ch s
  | .laneSparingPause stack pch errors eye => Sys2Proof.Machine.execLaneSparingPause stack pch errors eye s
  | .channelSparing stack ch => Sys2Proof.Machine.execChannelSparing stack ch s
  | .channelSparingCopyUnit stack => Sys2Proof.Machine.execChannelSparingCopyUnit stack s
  | .channelSparingComplete stack => Sys2Proof.Machine.execChannelSparingComplete stack s
  | .mapOut stack ch => Sys2Proof.Machine.execMapOut stack ch s
  | .mapOutComplete stack ch => Sys2Proof.Machine.execMapOutComplete stack ch s
  | .spareLane src value => Sys2Proof.Machine.execSpareLane src value s
  | .spareChannel src value => Sys2Proof.Machine.execSpareChannel src value s
  | .mapOutChannel src value => Sys2Proof.Machine.execMapOutChannel src value s
  | .queueHardRowRepair src value => Sys2Proof.Machine.execQueueHardRowRepair src value s
  | .queueColumnRepair src value => Sys2Proof.Machine.execQueueColumnRepair src value s
  | .cancelQueuedRepairs src value => Sys2Proof.Machine.execCancelQueuedRepairs src value s
  | .ledgerWrite programOk => Sys2Proof.Machine.execLedgerWrite programOk s
  | .stackWearRecord => Sys2Proof.Machine.execStackWearRecord s
  | .forecast => Sys2Proof.Machine.execForecast s
  | .meterReport die core phyPll => Sys2Proof.Machine.execMeterReport die core phyPll s
  | .governorStep => Sys2Proof.Machine.execGovernorStep s
  | .flaskAllowanceEnded stack => Sys2Proof.Machine.execFlaskAllowanceEnded stack s
  | .junctionRead temps => Sys2Proof.Machine.execJunctionRead temps s
  | .supplyFault die ns => Sys2Proof.Machine.execSupplyFault die ns s
  | .shutdownInMode src value => Sys2Proof.Machine.execShutdownInMode src value s
  | .shutdownImmediate src value => Sys2Proof.Machine.execShutdownImmediate src value s
  | .resume src value => Sys2Proof.Machine.execResume src value s
  | .resumed => Sys2Proof.Machine.execResumed s
  | .frameReceived f => Sys2Proof.Machine.execFrameReceived f s
  | .discover src => Sys2Proof.Machine.execDiscover src s
  | .serviceRead src index sub array => Sys2Proof.Machine.execServiceRead src index sub array s
  | .serviceWrite src index sub value => Sys2Proof.Machine.execServiceWrite src index sub value s
  | .describe src index sub => Sys2Proof.Machine.execDescribe src index sub s
  | .transferBegin src write index sub length => Sys2Proof.Machine.execTransferBegin src write index sub length s
  | .transferBlock src transfer offset data => Sys2Proof.Machine.execTransferBlock src transfer offset data s
  | .transferEnd src transfer crc => Sys2Proof.Machine.execTransferEnd src transfer crc s
  | .transferAbort src transfer => Sys2Proof.Machine.execTransferAbort src transfer s
  | .transferTimeout transfer => Sys2Proof.Machine.execTransferTimeout transfer s
  | .sessionOpen src role => Sys2Proof.Machine.execSessionOpen src role s
  | .sessionUnlock src code => Sys2Proof.Machine.execSessionUnlock src code s
  | .sessionClose src => Sys2Proof.Machine.execSessionClose src s
  | .sessionIdleTimeout session => Sys2Proof.Machine.execSessionIdleTimeout session s
  | .noticeAcknowledge src sequence => Sys2Proof.Machine.execNoticeAcknowledge src sequence s
  | .inProgressResponse src => Sys2Proof.Machine.execInProgressResponse src s
  | .transmitOpportunity => Sys2Proof.Machine.execTransmitOpportunity s
  | .noticeResend subscriber => Sys2Proof.Machine.execNoticeResend subscriber s
  | .inBandChallenge port r => Sys2Proof.Machine.execInBandChallenge port r s
  | .inBandUnlock port r => Sys2Proof.Machine.execInBandUnlock port r s
  | .inBandRoleDrop port r => Sys2Proof.Machine.execInBandRoleDrop port r s
  | .settingsStoreReset src value => Sys2Proof.Machine.execSettingsStoreReset src value s
  | .objectWrite src index sub value => Sys2Proof.Machine.execObjectWrite src index sub value s
  | .quadrantReset src q ends => Sys2Proof.Machine.execQuadrantReset src q ends s
  | .quadrantResetAndHold src q ends => Sys2Proof.Machine.execQuadrantResetAndHold src q ends s
  | .quadrantReleaseHold src q => Sys2Proof.Machine.execQuadrantReleaseHold src q s
  | .stateCheckError q ends => Sys2Proof.Machine.execStateCheckError q ends s
  | .quadrantResetTimeout q => Sys2Proof.Machine.execQuadrantResetTimeout q s
  | .portReset src port => Sys2Proof.Machine.execPortReset src port s
  | .portResetAndHold src port => Sys2Proof.Machine.execPortResetAndHold src port s
  | .portReleaseHold src port => Sys2Proof.Machine.execPortReleaseHold src port s
  | .linkRetrain port credits => Sys2Proof.Machine.execLinkRetrain port credits s
  | .slateEnter src value => Sys2Proof.Machine.execSlateEnter src value s
  | .slateLeave src value => Sys2Proof.Machine.execSlateLeave src value s
  | .marginCheck group bundle found => Sys2Proof.Machine.execMarginCheck group bundle found s
  | .bundleRetrain group bundle => Sys2Proof.Machine.execBundleRetrain group bundle s
  | .bundleRetrainComplete group bundle accepted => Sys2Proof.Machine.execBundleRetrainComplete group bundle accepted s
  | .stagingWrite src image => Sys2Proof.Machine.execStagingWrite src image s
  | .stagingCancel src value => Sys2Proof.Machine.execStagingCancel src value s
  | .imageCopy readBackOk => Sys2Proof.Machine.execImageCopy readBackOk s
  | .testStart src value => Sys2Proof.Machine.execTestStart src value s
  | .testStop src value => Sys2Proof.Machine.execTestStop src value s
  | .testEnd test lanes => Sys2Proof.Machine.execTestEnd test lanes s
  | .overflowClear src value => Sys2Proof.Machine.execOverflowClear src value s
  | .bandwidthWindow => Sys2Proof.Machine.execBandwidthWindow s
  | .tapInstructionLoad code => Sys2Proof.Machine.execTapInstructionLoad code s
  | .extest => Sys2Proof.Machine.execExtest s
  | .idcode => Sys2Proof.Machine.execIdcode s
  | .samplePreload => Sys2Proof.Machine.execSamplePreload s
  | .chainSelect => Sys2Proof.Machine.execChainSelect s
  | .instruments claim => Sys2Proof.Machine.execInstruments claim s
  | .bypass => Sys2Proof.Machine.execBypass s
  | .linkTraining port accepted credits => Sys2Proof.Machine.execLinkTraining port accepted credits s
  | .plcaStatusChange ok => Sys2Proof.Machine.execPlcaStatusChange ok s
  | .testLogicReset held => Sys2Proof.Machine.execTestLogicReset held s
  | .syncLoss test lane mismatches => Sys2Proof.Machine.execSyncLoss test lane mismatches s
  | .restStopDeferralEnd stack pch => Sys2Proof.Machine.execRestStopDeferralEnd stack pch s

end Sys2Proof.Machine
end

