-- ==== Sys2Proof/Machine/Tick.lean ====
section
/-!
DEFINITION. What happens with no command waiting: a nanosecond of hub time passes (assumption 1). The command table has no
row for the passage of time; everything else that falls due at a time has a row of its own.
-/
namespace Sys2Proof.Machine

/-- While hub_ref is lost the idle times of sessions and transfers do not advance (R396). -/
def holdIdle (s : State) : State :=
  if !linkDead s then s else
  s.onSvc fun v => { v with sessions := v.sessions.map fun x => (x.1, { x.2 with lastFrame := x.2.lastFrame + 1 }),
                            transfers := v.transfers.map fun x => (x.1, { x.2 with touched := x.2.touched + 1 }) }

/-- Moves and map-outs whose next copy can be issued issue it (R79, R345). -/
def stepMoves (s : State) : State :=
  if !isReady s || s.power.shutdown ≠ 0 then s
  else forEach (s.rehomes.map (·.gch)) pumpMapOut (forEach (s.map.moves.map (·.seg)) pumpMove s)

/-- A nanosecond of hub time after the release of qz_rst_n; before it nothing counts (R26). -/
def tick (s : State) : State :=
  if !s.released then s
  else keepFixed s true (stepMoves (holdIdle (pass 1 s)))

end Sys2Proof.Machine
end

