-- ==== Sys2Proof/WellFormed.lean ====
section
/-!
DEFINITION. Well-formed commands: the operands that the manual's formats admit. A meaning takes any operands, so these are
checks on a sender, and none of them stands in the way of a command.
-/
namespace Sys2Proof

/-- A service session number is 0 to 8 (R408). -/
def Src.wellFormed : Src → Bool
  | .sp _ session _ => decide (session ≤ 8)
  | .cp _ _ _ => true

/-- A length code of Table 4.4 and, for a request that carries data, that many bytes; else none (R94). -/
def Request.wellFormed (carries : Bool) (r : Request) : Bool :=
  decide (r.lenCode.toNat ≤ 12) && r.data.length == (if carries then 2 ^ r.lenCode.toNat else 0)

/-- An atomic carries its operand, and a compare and swap two (R287). -/
def Request.wellFormedAtomic (r : Request) : Bool :=
  decide (r.lenCode.toNat ≤ 12)
  && r.data.length == (if r.opField.toNat % 16 = 9 then 2 else 1) * 2 ^ r.lenCode.toNat

/-- An outing start carries its first descriptor block, of 1 to 64 descriptors (R258). -/
def Request.wellFormedOuting (r : Request) : Bool := r.wellFormed true && decide (6 ≤ r.lenCode.toNat) && r.addr == 0 && !r.lock && !r.lockEnd

/-- A dictionary request travels on the management channel and takes part in no locked sequence (R93, R109). -/
def Request.wellFormedInBand (carries : Bool) (r : Request) : Bool := r.wellFormed carries && r.mgmt && !r.lock && !r.lockEnd

/-- A flit is 264 bytes (R86). -/
def flitWellFormed (flit : Bytes) : Bool := flit.length == 264

/-- A frame's payload starts with a Jenryn header and fits the frame (R393, R397). -/
def Frame.wellFormed (f : Frame) : Bool := decide (12 ≤ f.payload.length) && decide (f.payload.length + 18 ≤ f.length)

/-- A temperature frame has 17 words (R142). -/
def tempFrameWellFormed : TempFrame → Bool
  | some ws => ws.length == 17
  | none => true

/-- A start reads four MEDs and 32 stack positions (R24). -/
def StartEnv.wellFormed (e : StartEnv) : Bool := e.meds.length == 4 && e.positions.length == 32

/-- A checker's count: lanes 0 to 67; errors among the bits compared, or the mark of a lane that never locked (R481). -/
def LaneCount.wellFormed (l : LaneCount) : Bool :=
  decide (l.lane < 68) && (decide (l.errors ≤ l.compared) || (l.errors == 0xFFFFFFFF && l.compared == 0))

/-- The reserved fields of a segment command are zero and its segment exists (Table 3.5). -/
def SegCmd.wellFormed (c : SegCmd) : Bool := c.reserved1 == 0 && c.reserved2 == 0 && decide (c.segment.toNat < 524288)

/-- Sizes of the values of command objects: scrub and test 32 bytes, repair 16 (R255, Tables 11.14 and 16.3). -/
def valueWellFormed (size : Nat) (value : Bytes) : Bool := value.length == size

/-- The operands of a command are such as the manual's formats admit. -/
def Instr.wellFormed : Instr → Bool
  | .qzRstNAssert => true
  | .startUp env => env.wellFormed
  | .hardRepairResult _ _ _ => true
  | .startUpHold src value => src.wellFormed && decide (value.toNat ≤ 2)
  | .referenceLost _ => true
  | .referenceRestored _ => true
  | .quadrantOffline _ => true
  | .quadrantReturn _ => true
  | .snapshotStart src value => src.wellFormed && value == 1
  | .snapshotComplete roundTrips => roundTrips.length == 4 && roundTrips.all (fun r => decide (r ≤ 200))
  | .hostDateWrite src _ => src.wellFormed
  | .poweredTimePersist => true
  | .flitReceived _ _ flit => flitWellFormed flit
  | .linkReplay _ _ => true
  | .read _ r => r.wellFormed false
  | .write _ r => r.wellFormed true
  | .writeZero _ r => r.wellFormed false
  | .poison _ r => r.wellFormed false
  | .atomic _ r => r.wellFormedAtomic
  | .atomicFetch _ r => r.wellFormedAtomic
  | .writeFence _ r => r.wellFormed false
  | .fullFence _ r => r.wellFormed false
  | .fenceComplete _ _ => true
  | .collectiveDeclare _ r => r.wellFormed false
  | .dictionaryRead _ r => r.wellFormedInBand false
  | .dictionaryWrite _ r => r.wellFormedInBand true
  | .outingStart _ r => r.wellFormedOuting
  | .replicaFill _ r => r.wellFormed false
  | .replicaRelease _ r => r.wellFormed false
  | .combinedAtomic _ r => r.wellFormedAtomic
  | .combinedAtomicFetch _ r => r.wellFormedAtomic
  | .lockTimeout _ => true
  | .visibilityPoint _ => true
  | .responseSent _ _ => true
  | .portQuietEnter _ _ => true
  | .portQuietLeave _ _ => true
  | .quietChatter _ changes => decide (16 < changes)
  | .quietChatterEnd _ quietNs _ => decide (10000 ≤ quietNs)
  | .sweepMarkerArrival _ _ => true
  | .sweepAcknowledge _ _ => true
  | .arbiterDecision _ => true
  | .urgencyLevelChange _ _ samples spanNs => !samples.isEmpty && decide (32 ≤ spanNs)
  | .urgencyChatterStart _ _ changes => decide (16 < changes)
  | .urgencyChatterEnd _ _ _ quietNs => decide (10000 ≤ quietNs)
  | .regulationWindowBoundary => true
  | .creditPositive _ => true
  | .gateOpen _ _ => true
  | .gateListWrite src _ value => src.wellFormed && decide (8 ≤ value.length) && decide (value.length ≤ 520)
  | .gateListActivate _ => true
  | .reservationSetWrite src value => src.wellFormed && decide (16 ≤ value.length) && decide (value.length ≤ 752)
  | .reservationSetActivate => true
  | .floorRecompute cause => decide (1 ≤ cause.val)
  | .latencyWindowEnd entry => decide (entry.val < 46)
  | .samplingBoundary => true
  | .sampleClear src value => src.wellFormed && value == 1
  | .highWaterClear src value => src.wellFormed && value == 1
  | .combiningWindowExpiry _ => true
  | .basketFlushVisible _ => true
  | .create src c => src.wellFormed && c.wellFormed
  | .free src c => src.wellFormed && c.wellFormed
  | .modify src c => src.wellFormed && c.wellFormed
  | .move src c => src.wellFormed && c.wellFormed
  | .freedSlotCleared _ => true
  | .moveComplete segment => decide (segment < 524288)
  | .placementEvaluation => true
  | .mapRebuildComplete => true
  | .channelQueueEntry _ _ => true
  | .issueHalfSlot _ _ => true
  | .idleCloseTimeout _ _ _ => true
  | .hammerEpochBoundary _ => true
  | .activationTokenRefill _ _ _ => true
  | .refreshDue _ _ _ => true
  | .readBurstReturn _ _ noise => decide (noise.length ≤ 36)
  | .escalationComplete _ _ => true
  | .missingBurstTimeout _ _ => true
  | .caAlert _ _ _ => true
  | .temperatureReadout _ first repeated => tempFrameWellFormed first && tempFrameWellFormed repeated
  | .restStopDue _ _ => true
  | .restStop _ _ => true
  | .restStopEnd _ _ _ worstLane _ => decide (worstLane < 49)
  | .divisionLowerHoldExpiry _ => true
  | .descriptorStart _ slot => decide (slot < 256)
  | .hamperDescriptor _ slot _ => decide (slot < 256)
  | .ramblerDescriptor _ slot _ => decide (slot < 256)
  | .transcodeCopyDescriptor _ slot _ => decide (slot < 256)
  | .blockCheckDescriptor _ slot _ => decide (slot < 256)
  | .continueDescriptor _ slot => decide (slot < 256)
  | .endDescriptor _ slot => decide (slot < 256)
  | .bagMerge _ slot _ _ => decide (slot < 256)
  | .producedWordUpdate _ slot _ => decide (slot < 256)
  | .consumedWordPoll _ slot _ => decide (slot < 256)
  | .descriptorTimeout _ slot _ => decide (slot < 256)
  | .outingComplete _ slot => decide (slot < 256)
  | .scrubDefine src value => src.wellFormed && valueWellFormed 32 value
  | .scrubStop src value => src.wellFormed && valueWellFormed 32 value
  | .scrubRowUnit _ _ _ => true
  | .scrubPassEnd _ => true
  | .scrubRepeatStart _ => true
  | .channelLost _ _ condition => decide (1 ≤ condition.val)
  | .channelRebuildComplete _ _ => true
  | .laneSparingPause _ _ _ _ => true
  | .channelSparing _ _ => true
  | .channelSparingCopyUnit _ => true
  | .channelSparingComplete _ => true
  | .mapOut _ _ => true
  | .mapOutComplete _ _ => true
  | .spareLane src value => src.wellFormed && valueWellFormed 16 value
  | .spareChannel src value => src.wellFormed && valueWellFormed 16 value
  | .mapOutChannel src value => src.wellFormed && valueWellFormed 16 value
  | .queueHardRowRepair src value => src.wellFormed && valueWellFormed 16 value
  | .queueColumnRepair src value => src.wellFormed && valueWellFormed 16 value
  | .cancelQueuedRepairs src value => src.wellFormed && valueWellFormed 16 value
  | .ledgerWrite _ => true
  | .stackWearRecord => true
  | .forecast => true
  | .meterReport die _ phyPll => die != .hub || phyPll == ({}, {})
  | .governorStep => true
  | .flaskAllowanceEnded _ => true
  | .junctionRead temps => temps.length == 5
  | .supplyFault _ ns => decide (1000 ≤ ns)
  | .shutdownInMode src value => src.wellFormed && value == 1
  | .shutdownImmediate src value => src.wellFormed && value == 2
  | .resume src value => src.wellFormed && value == 1
  | .resumed => true
  | .frameReceived f => f.wellFormed
  | .discover src => src.wellFormed
  | .serviceRead src _ _ _ => src.wellFormed
  | .serviceWrite src _ _ value => src.wellFormed && decide (value.length ≤ 1484)
  | .describe src _ _ => src.wellFormed
  | .transferBegin src _ _ _ length => src.wellFormed && decide (length ≤ 8388608)
  | .transferBlock src _ _ data => src.wellFormed && decide (data.length ≤ 1024)
  | .transferEnd src transfer _ => src.wellFormed && decide (1 ≤ transfer) && decide (transfer ≤ 4)
  | .transferAbort src transfer => src.wellFormed && decide (1 ≤ transfer) && decide (transfer ≤ 4)
  | .transferTimeout transfer => decide (1 ≤ transfer) && decide (transfer ≤ 4)
  | .sessionOpen src role => src.wellFormed && decide (1 ≤ role.toNat) && decide (role.toNat ≤ 3)
  | .sessionUnlock src code => src.wellFormed && code.length == 32
  | .sessionClose src => src.wellFormed
  | .sessionIdleTimeout session => decide (1 ≤ session.val)
  | .noticeAcknowledge src _ => src.wellFormed
  | .inProgressResponse src => src.wellFormed
  | .transmitOpportunity => true
  | .noticeResend _ => true
  | .inBandChallenge _ r => r.wellFormedInBand false
  | .inBandUnlock _ r => r.wellFormedInBand true
  | .inBandRoleDrop _ r => r.wellFormedInBand true
  | .settingsStoreReset src value => src.wellFormed && value == 1
  | .objectWrite src _ _ _ => src.wellFormed
  | .quadrantReset src _ _ => src.wellFormed
  | .quadrantResetAndHold src _ _ => src.wellFormed
  | .stateCheckError _ _ => true
  | .quadrantReleaseHold src _ => src.wellFormed
  | .quadrantResetTimeout _ => true
  | .portReset src _ => src.wellFormed
  | .portResetAndHold src _ => src.wellFormed
  | .portReleaseHold src _ => src.wellFormed
  | .linkRetrain _ credits => credits.all fun n => decide (32 ≤ n)
  | .slateEnter src value => src.wellFormed && decide (value.toNat < 16)
  | .slateLeave src value => src.wellFormed && value.toNat % 16 == 0
  | .marginCheck group _ x => decide (x.eye ≤ 64) && !(x.far && (decide (group.val < 4) || group.val == 8))
  | .bundleRetrain _ _ => true
  | .bundleRetrainComplete _ _ _ => true
  | .stagingWrite src image => src.wellFormed && image.length % 4096 == 0
  | .stagingCancel src value => src.wellFormed && value == 1
  | .imageCopy _ => true
  | .testStart src value => src.wellFormed && valueWellFormed 32 value
  | .testStop src value => src.wellFormed && valueWellFormed 32 value
  | .testEnd _ lanes => lanes.all LaneCount.wellFormed
  | .overflowClear src _ => src.wellFormed
  | .bandwidthWindow => true
  | .tapInstructionLoad _ => true
  | .extest => true
  | .idcode => true
  | .samplePreload => true
  | .chainSelect => true
  | .instruments _ => true
  | .bypass => true
  | .linkTraining _ _ credits => decide (32 ≤ credits)
  | .plcaStatusChange _ => true
  | .testLogicReset _ => true
  | .syncLoss _ _ mismatches => decide (16 < mismatches)
  | .restStopDeferralEnd _ _ => true

end Sys2Proof
end

