-- ==== Sys2Proof/Safety.lean ====
section
/-!
DEFINITION. What counts as a safe run, and the groups of commands that claims speak of: the rows that write one object, the
rows that are a request of a memory port, and the conditions under which such a row has its own effect.
-/
namespace Sys2Proof.Machine

/-- An answer that goes on. -/
def Answered.goesOn (o : Answered) : Bool := match o with
  | .next _ => true
  | .fault _ => false
  | .refused _ => false

/-- Some number of steps. -/
def steps : Nat → State → Answered
  | 0, s => .next s
  | n + 1, s => match step s with
    | .next t => steps n t
    | o => o

/-- The state keeps its fixed shape: stored bytes in canonical form, and one record for each port, quadrant, stack, link
group, regulation entry and requester. -/
def State.shaped (s : State) : Bool :=
  memWf s.mem && s.ports.length == 5 && s.quads.length == 4 && s.stk.length == 32 && s.links.length == 13
  && s.reg.entries.length == 48 && s.win.length == 13 && s.svc.subs.length == 8

/-- While qz_rst_n is low, everything but the NOR device is as it is with the supplies off (R26). -/
def lowPinCold (s : State) : Prop := s.released = false → s = cold s

/-! ### Rows that write one object -/

/-- A write of one object: who writes, whether the work a quadrant reset waits for ends in time, index, subindex, value. -/
structure ObjectRow where
  src   : Src
  ends  : Bool := true
  index : Nat
  sub   : Nat := 0
  value : Bytes

/-- The write of one object that a row of the command table is. -/
def objectRow : Instr → Option ObjectRow
  | .startUpHold src v => some { src, index := 0x7050, value := [v] }
  | .snapshotStart src v => some { src, index := 0x1203, sub := 1, value := [v] }
  | .hostDateWrite src v => some { src, index := 0x1210, value := leBytes 8 v.toNat }
  | .gateListWrite src port v => some { src, index := 0x3840, sub := port.val + 1, value := v }
  | .reservationSetWrite src v => some { src, index := 0x3810, value := v }
  | .sampleClear src v => some { src, index := 0x3865, value := [v] }
  | .highWaterClear src v => some { src, index := 0x3411, value := [v] }
  | .create src c => some { src, index := 0x2010, value := segBytes 1 c }
  | .free src c => some { src, index := 0x2010, value := segBytes 2 c }
  | .modify src c => some { src, index := 0x2010, value := segBytes 3 c }
  | .move src c => some { src, index := 0x2010, value := segBytes 4 c }
  | .scrubDefine src v => some { src, index := 0x4020, value := leBytes 1 1 ++ v.drop 1 }
  | .scrubStop src v => some { src, index := 0x4020, value := leBytes 1 2 ++ v.drop 1 }
  | .spareLane src v => some { src, index := 0x5030, value := leBytes 1 1 ++ v.drop 1 }
  | .spareChannel src v => some { src, index := 0x5030, value := leBytes 1 2 ++ v.drop 1 }
  | .mapOutChannel src v => some { src, index := 0x5030, value := leBytes 1 3 ++ v.drop 1 }
  | .queueHardRowRepair src v => some { src, index := 0x5030, value := leBytes 1 4 ++ v.drop 1 }
  | .queueColumnRepair src v => some { src, index := 0x5030, value := leBytes 1 5 ++ v.drop 1 }
  | .cancelQueuedRepairs src v => some { src, index := 0x5030, value := leBytes 1 6 ++ v.drop 1 }
  | .testStart src v => some { src, index := 0x9010, value := leBytes 1 1 ++ v.drop 1 }
  | .testStop src v => some { src, index := 0x9010, value := leBytes 1 2 ++ v.drop 1 }
  | .shutdownInMode src v => some { src, index := 0x6031, value := [v] }
  | .shutdownImmediate src v => some { src, index := 0x6031, value := [v] }
  | .resume src v => some { src, index := 0x6032, value := [v] }
  | .quadrantReset src q ends => some { src, ends, index := 0x7020, sub := q.val + 1, value := [1] }
  | .quadrantResetAndHold src q ends => some { src, ends, index := 0x7020, sub := q.val + 1, value := [2] }
  | .quadrantReleaseHold src q => some { src, index := 0x7020, sub := q.val + 1, value := [3] }
  | .portReset src port => some { src, index := 0x7021, sub := port.val + 1, value := [1] }
  | .portResetAndHold src port => some { src, index := 0x7021, sub := port.val + 1, value := [2] }
  | .portReleaseHold src port => some { src, index := 0x7021, sub := port.val + 1, value := [3] }
  | .slateEnter src v => some { src, index := 0x7022, value := [v] }
  | .slateLeave src v => some { src, index := 0x7022, value := [v] }
  | .stagingCancel src v => some { src, index := 0x7822, value := [v] }
  | .overflowClear src v => some { src, index := 0x8002, value := [v] }
  | .settingsStoreReset src v => some { src, index := 0x1140, value := [v] }
  | .objectWrite src i k v => some { src, index := i.toNat, sub := k.toNat, value := v }
  | _ => none

/-- The in-band request that carries a row's write. -/
def carrier (tag : BitVec 16) (domain : BitVec 6) (index sub : Nat) (value : Bytes) : Request := writeRequest tag domain index sub value

/-- A value has the length its object asks for, and an in-band request carries it whole. -/
def fits (index sub : Nat) (value : Bytes) : Bool :=
  match objRow index sub with
  | none => false
  | some r =>
    let sent := padTo (2 ^ (lenCodeFor value.length).getD 12) value
    decide (index < 65536) && decide (sub < 256) && decide (value.length ≤ 4096)
    && ((variableSize index).isSome || value.length == r.size)
    && (if (variableSize index).isSome then declaredSize index sent == value.length else true)

/-- A source may write an object now. On the service link: hub_ref is there, no response is kept for the request, the session
is the sender's, the object is accessible with its role, and a Write message holds the value. In-band: the port takes
requests, no earlier dictionary request of it runs, the tag is free and in range, the domain and object 0x2430 let dictionary
requests pass, and the role suffices. -/
def mayWrite (s : State) (src : Src) (index sub : Nat) (value : Bytes) : Bool :=
  fits index sub value &&
  match src with
  | .sp mac session txn =>
    !linkDead s && (keptAnswer s mac.toNat session txn.toNat).isNone && sessionOpen s mac.toNat session
    && serviceStop s true (sessionRole s session) index sub == 0 && decide (value.length ≤ 1484)
  | .cp p tag domain =>
    let r := carrier tag domain index sub value
    takesRequests s p && !(portAt s p).tags.contains tag.toNat && tagInRange p r && inBandStop s p 0x19 r == 0
    && !dictBusy s p && (portAt s p).dict.isEmpty
    && writeStop (portAt s p).role index sub == 0

/-- What a write finds when it is executed: on the service link its frame is taken and its session touched; in-band its flits'
credits are given back and its tag is taken. -/
def beforeWrite (src : Src) (index sub : Nat) (value : Bytes) (s : State) : State :=
  match src with
  | .sp mac session txn => touchSession session (takeFrame mac.toNat session txn.toNat 0x03 s)
  | .cp p tag domain =>
    let r := carrier tag domain index sub value
    let (flits, s) := takeInbox p 0x19 r s
    takeTag p r (returnFlits p flits s)

/-- The write's answer: the response kept and queued, or the port's response. -/
def afterWrite (src : Src) (index sub : Nat) (value : Bytes) (status : Nat) (s : State) : State :=
  match src with
  | .sp mac session txn =>
    giveAnswer { mac := mac.toNat, session := session, txn := txn.toNat, mtype := 0x03, status := status, payload := objHeader index sub } s
  | .cp p tag domain =>
    let r := carrier tag domain index sub value
    let s := if status = 0x10 then s else inBandAnswer p 0x19 r status [] s
    answerUnlisted (portAt s p).inbox.length p s

/-- The state once a write has been executed and answered with status 0x00. -/
def wrote (src : Src) (index sub : Nat) (value : Bytes) (effect : State → State) (s : State) : State :=
  keepFixed s true (afterWrite src index sub value 0 (effect (beforeWrite src index sub value s)))

/-! ### Rows that are a message of the service link -/

/-- A message of the service link: its source, session and transaction, its type, whether it needs an opened session, and what
it does. -/
structure ServiceRow where
  mac     : BitVec 48
  session : Nat
  txn     : BitVec 16
  mtype   : Nat
  needs   : Bool := false
  run     : Nat → Nat → State → State × Nat × Bytes

/-- The message that a row is, when the service processor's side sends it. -/
def serviceRow : Instr → Option ServiceRow
  | .discover (.sp m k n) => if k = 0 then some ⟨m, k, n, 0x01, false, fun _ _ s => (s, 0, discoverPayload s)⟩ else none
  | .serviceRead (.sp m k n) i j all => some ⟨m, k, n, 0x02, false, runRead i.toNat j.toNat all⟩
  | .serviceWrite (.sp m k n) i j v => some ⟨m, k, n, 0x03, false, runWrite (.sp m k n) true true i.toNat j.toNat v⟩
  | .describe (.sp m k n) i j => some ⟨m, k, n, 0x04, false, runDescribe i.toNat j.toNat⟩
  | .transferBegin (.sp m k n) w i j len => some ⟨m, k, n, 0x08, true, runBegin w i.toNat j.toNat len⟩
  | .transferBlock (.sp m k n) t off data => some ⟨m, k, n, 0x09, true, runBlock t off data⟩
  | .transferEnd (.sp m k n) t crc => some ⟨m, k, n, 0x0A, true, runEnd (.sp m k n) t crc.toNat⟩
  | .transferAbort (.sp m k n) t => some ⟨m, k, n, 0x0B, true, runAbort t⟩
  | .sessionOpen (.sp m k n) role => some ⟨m, k, n, 0x10, false, runOpen role.toNat⟩
  | .sessionUnlock (.sp m k n) code => some ⟨m, k, n, 0x11, true, runUnlock code⟩
  | .sessionClose (.sp m k n) => some ⟨m, k, n, 0x12, true, fun _ k s => (closeSession k s, 0, [])⟩
  | .stagingWrite (.sp m k n) image => some ⟨m, k, n, 0x0A, false, runWrite (.sp m k n) true false 0x7820 0 image⟩
  | _ => none

/-- SP may execute a message now: hub_ref is there, no response is kept for it, and its session is its sender's. -/
def mayServe (s : State) (r : ServiceRow) : Bool :=
  !linkDead s && (keptAnswer s r.mac.toNat r.session r.txn.toNat).isNone && sessionOpen s r.mac.toNat r.session
  && !(r.needs && r.session == 0)

/-! ### Rows that are a request of a memory port -/

/-- Port, operation and request of a row that is a request on the request channel. -/
def memoryRow : Instr → Option (PortId × Op × Request)
  | .read p r => some (p, .read, r)
  | .write p r => some (p, .write, r)
  | .writeZero p r => some (p, .zero, r)
  | .poison p r => some (p, .poison, r)
  | .atomic p r => some (p, .atomic, r)
  | .atomicFetch p r => some (p, .atomicFetch, r)
  | .writeFence p r => some (p, .fence, r)
  | .fullFence p r => some (p, .fullFence, r)
  | .collectiveDeclare p r => some (p, .declare, r)
  | .outingStart p r => some (p, .outing, r)
  | .replicaFill p r => some (p, .fill, r)
  | .replicaRelease p r => some (p, .release, r)
  | .combinedAtomic p r => some (p, .combined, r)
  | .combinedAtomicFetch p r => some (p, .combinedFetch, r)
  | _ => none

end Sys2Proof.Machine
end

