-- ==== Sys2Proof/Certificates/Slice0/Obligations.lean ====
section
/-!
DEFINITION. The statements for the provers: what each command of the table does, in the manual's terms, with what it leaves
alone; the queue of commands; qz_rst_n; the stored bytes. A command's effect is said for every state and operands that meet
the conditions under which the manual gives it that effect.
-/
open Sys2Proof Sys2Proof.Machine

/-! ### The queue, the pin and the passage of time -/

/-- A step takes the command at the front of the queue and executes it on the state with the queue's rest. -/
def Obligations.StepRunsTheFrontCommand : Prop :=
  ∀ (i : Instr) (rest : List Instr) (s : State), step { s with pending := i :: rest } = exec i { s with pending := rest }

/-- With no command waiting, a nanosecond of hub time passes after the release of qz_rst_n, and nothing happens before it (the
model's choice, assumption 1): hub time rises by one and every quadrant counter by what its oscillator gives it, at most two, with nothing else changed but
the count of free values; then idle times are held while hub_ref is lost and the running moves and map-outs issue their next copies.
What a counter has run beyond its count stays below 1 ns. -/
def Obligations.EmptyQueueLetsTimePass : Prop :=
  ∀ s : State, s.pending = [] →
    (s.released = false → step s = .next s) ∧
    (s.released = true → ∃ u, step s = .next (keepFixed s true (stepMoves (holdIdle u))) ∧ u.clk.hub = s.clk.hub + 1 ∧
      u = { s with clk := { s.clk with hub := u.clk.hub, quad := u.clk.quad, phase := u.clk.phase }, draw := u.draw } ∧
      u.clk.quad.length = s.clk.quad.length ∧
      (∀ q, q < s.clk.quad.length → quadTime s q ≤ quadTime u q ∧
        (0 ≤ nth s.clk.phase q 0 → nth s.clk.phase q 0 < 1000000 → quadTime u q ≤ quadTime s q + 2)) ∧
      ∀ q, q < 4 → 0 ≤ nth u.clk.phase q 0 ∧ nth u.clk.phase q 0 < 1000000)

/-- Every command answers a next state, which keeps the queue of waiting commands and the variant; no command ends in a fault or
a refusal. -/
def Obligations.EveryCommandAnswersAndKeepsTheQueue : Prop :=
  ∀ (i : Instr) (s : State), ∃ t, exec i s = .next t ∧ t.pending = s.pending ∧ t.variant = s.variant

/-- R26: while qz_rst_n is low every command but START_UP, which stands for its release, is ignored; QZ_RST_N_ASSERT finds
the complex as it leaves it.
qz_rst_n follows its two commands: START_UP leaves it high, QZ_RST_N_ASSERT low, every other command as it was. -/
def Obligations.QzRstNCommandsMoveThePin : Prop :=
  (∀ (i : Instr) (s : State), s.released = false → (∀ env, i ≠ .startUp env) → i ≠ .qzRstNAssert → exec i s = .next s) ∧
  (∀ (i : Instr) (s t : State), exec i s = .next t →
     (i = .qzRstNAssert → t.released = false) ∧ ((∃ env, i = .startUp env) → t.released = true) ∧
     (i ≠ .qzRstNAssert → (∀ env, i ≠ .startUp env) → t.released = s.released))

/-- QZ_RST_N_ASSERT always leaves the pin low and everything but the NOR device at its value before a first release: nothing
stored in the stacks, no request, no session, counters at 0, no reference lost, every written value gone; the NOR device keeps
its rings, its settings, its images and its stored power-cycle count, and records not yet programmed are lost
(assumptions 5 and 7). -/
def Obligations.AssertReturnsToCold : Prop :=
  ∀ s : State, ∃ t, exec .qzRstNAssert s = .next t ∧ t.released = false ∧ t.mem = [] ∧ t.touch = [] ∧ t.reqs = [] ∧
    t.ports = State.reset.ports ∧ t.stk = State.reset.stk ∧ t.map = State.reset.map ∧ t.objs = [] ∧ t.clk = State.reset.clk ∧
    t.svc = State.reset.svc ∧ t.cnt = State.reset.cnt ∧ t.reg = State.reset.reg ∧ t.test = State.reset.test ∧
    t.nor.ledger = s.nor.ledger ∧ t.nor.journal = s.nor.journal ∧ t.nor.settings = s.nor.settings ∧
    t.nor.slotA = s.nor.slotA ∧ t.nor.slotB = s.nor.slotB ∧ t.nor.staging = s.nor.staging ∧ t.nor.cycles = s.nor.cycles ∧
    t.nor.waiting = []

/-- The state after reset is cold. -/
def Obligations.ResetIsCold : Prop :=
  lowPinCold State.reset ∧ State.reset.released = false ∧ State.reset.shaped = true

/-- An invariant that every step keeps: while qz_rst_n is low, everything but the NOR device, the queue, the variant and the
count of free values is at its value before a first release. -/
def Obligations.StepKeepsLowPinCold : Prop :=
  ∀ s t : State, lowPinCold s → step s = .next t → lowPinCold t

/-! ### Start-up and recovery (chapter 14) -/

/-- START_UP with the pin low runs the start-up sequence with what the pins, the stacks and NOR answer, and leaves the pin high;
where the hub fails its wrapper test the start fails: object 0x7001 reads 5 (R433). With the pin high it changes nothing. -/
def Obligations.StartUpRunsTheSequence : Prop :=
  ∀ (env : StartEnv) (s : State),
    (s.released = false → exec (.startUp env) s = .next (keepFixed s true (startUp env s)) ∧
      (env.hubTest = false → (startUp env s).start.state = 5)) ∧
    (s.released = true → exec (.startUp env) s = .next s)

/-- START_UP_HOLD writes object 0x7050:00. The value is programmed into the settings store, each try failing or not freely: where
the store takes it, 1 or 2 is the object's value from then on and 0 releases a held sequence (R432); where it does not, the write is
rejected and the object keeps its value (R425).
HARD_REPAIR_RESULT with a status word that shows done or failed takes the slot's hard repair off those that run (R340, Table
11.5): with others still running the sequence waits on. A busy word leaves everything but the sideband request as it was. -/
def Obligations.StartUpHoldAndHardRepairs : Prop :=
  (∀ (src : Src) (v : BitVec 8) (s : State), s.released = true → mayWrite s src 0x7050 0 [v] = true → v.toNat ≤ 2 →
     let b := beforeWrite src 0x7050 0 [v] s
     let r := persist 0x7050 0 1 v.toNat b
     exec (.startUpHold src v) s = .next (keepFixed s true (afterWrite src 0x7050 0 [v] (if r.2 then 0 else 0x0A)
       (if r.2 then (if v = 0 then releaseStart else id) (objSet 0x7050 0 v.toNat r.1) else r.1))) ∧
     (r.2 = false → r.1.objs = b.objs ∧ r.1.start = b.start ∧ r.1.mem = b.mem) ∧
     (∀ x : State, objGet (objSet 0x7050 0 v.toNat x) 0x7050 0 = v.toNat) ∧
     (b.nor.present = false → r = (b, false))) ∧
  (∀ (n : Fin 32) (p : Fin 66) (status : BitVec 16) (s : State) (x : Repair), s.released = true →
     s.start.hard.find? (fun r => r.stack == n.val && r.pch == p.val) = some x →
     ((bit status.toNat 1 || bit status.toNat 2) = true → dropFirst (· == x) s.start.hard ≠ [] →
       ∃ t, exec (.hardRepairResult n p status) s = .next t ∧ t.start.hard = dropFirst (· == x) s.start.hard ∧
         t.start.held = s.start.held ∧ t.start.state = s.start.state) ∧
     (bit status.toNat 1 = false → bit status.toNat 2 = false →
       exec (.hardRepairResult n p status) s = .next (keepFixed s true (askSideband n 3 (256 + p) s))))

/-- REFERENCE_LOST sets the die's bit of object 0x1202, REFERENCE_RESTORED clears it (R47); no other die's bit changes, and the
loss of a MED's reference begins its quadrant's holdover (R450). -/
def Obligations.ReferenceRowsSetAndClearTheDiesBit : Prop :=
  ∀ (die : Die) (s : State), s.released = true → s.clk.lost.length = 5 →
    (nth s.clk.lost (dieNo die) false = false →
      ∃ t, exec (.referenceLost die) s = .next t ∧ nth t.clk.lost (dieNo die) false = true ∧
        (∀ d, d ≠ dieNo die → nth t.clk.lost d false = nth s.clk.lost d false) ∧ t.clk.hub = s.clk.hub ∧
        (∀ q : Fin 4, die = .med q → s.quads.length = 4 → (quadAt t q).lostAt = some s.clk.hub)) ∧
    (nth s.clk.lost (dieNo die) false = true →
      ∃ t, exec (.referenceRestored die) s = .next t ∧ nth t.clk.lost (dieNo die) false = false ∧
        (∀ d, d ≠ dieNo die → nth t.clk.lost d false = nth s.clk.lost d false) ∧
        t.clk.hub = s.clk.hub ∧ t.mem = s.mem ∧ t.quads = s.quads ∧ t.reqs = s.reqs)

/-- QUADRANT_OFFLINE takes a quadrant off line 100 ms after its reference was lost, with cause 1, or with cause 2 when no route
is left: its state and cause say so, notice 0x7070 goes out, tickets of what it holds lapse, its tests stop, requests that have not left the hub for it are
refused, and floors are recomputed with cause 7. QUADRANT_RETURN brings it back once the reference, after which its slots leave
self-refresh and are accepted, or a route, is there: what was held goes on, and one that had gone off line sends notice 0x7071 and
has floors recomputed (R450 to R452).
SLATE_ENTER and SLATE_LEAVE write object 0x7022:00: bits [3:0] name the quadrants that enter Slate mode with cause 4, bits
[7:4] those that leave it (R456). A write of 1 is the entry of Q0 alone. One that enters is in Slate mode with its cause; one that
leaves is normal. -/
def Obligations.QuadrantsLeaveAndReturn : Prop :=
  (∀ (q : Fin 4) (s : State), s.released = true →
     let gone := fun (cause : Nat) (x : State) =>
       let y := notify .hub 0x7070 2 (leBytes 1 q ++ leBytes 1 cause) (updQuad q (fun k => { k with st := .offline, offCause := cause }) x)
       recompute 7 (refuseWaiting q (stopTests (liveTarget y q) 2 (lapseTickets y)))
     let back := fun (x : State) =>
       let y := updQuad q (fun k => { k with lostAt := none, offCause := 0, st := if k.st ≠ .offline then k.st
         else if k.slate ≠ 0 then .slate else if k.resetAt.isSome then .held else .normal }) x
       retryHeads (pumpHub (if isOffline x q then recompute 7 (notify .hub 0x7071 0 (leBytes 1 q) y) else y))
     ((quadAt s q).st ≠ .offline → (quadAt s q).st ≠ .starting →
       (reachable s q = false → exec (.quadrantOffline q) s = .next (keepFixed s true (gone 2 s))) ∧
       (∀ t0, reachable s q = true → (quadAt s q).lostAt = some t0 → t0 + 100000000 ≤ s.clk.hub →
         exec (.quadrantOffline q) s = .next (keepFixed s true (gone 1 s))) ∧
       (∀ t0, reachable s q = true → (quadAt s q).lostAt = some t0 → s.clk.hub < t0 + 100000000 →
         exec (.quadrantOffline q) s = .next s)) ∧
     ((quadAt s q).lostAt = none → (quadAt s q).st = .offline → reachable s q = true →
       exec (.quadrantReturn q) s = .next (keepFixed s true (back s))) ∧
     (∀ t0, (quadAt s q).lostAt = some t0 → nth s.clk.lost (q.val + 1) false = false →
       exec (.quadrantReturn q) s = .next (keepFixed s true
         (back (forEach (quadSlots s q) (fun c s => trainDone c (leaveSelfRefresh c s)) s)))) ∧
     (s.quads.length = 4 → ∀ cause, (quadAt (gone cause s) q).st = .offline ∧ (quadAt (gone cause s) q).offCause = cause ∧
       (quadAt (back s) q).st ≠ .offline ∧ (quadAt (back s) q).lostAt = none)) ∧
  (∀ (src : Src) (v : BitVec 8) (s : State), s.released = true → mayWrite s src 0x7022 0 [v] = true →
     slateAllowed (beforeWrite src 0x7022 0 [v] s) v.toNat = true →
     let entered := fun (x : State) => forEach (List.range 4) (fun k x =>
       if bit v.toNat k && (quadAt x k).st ≠ .starting then enterSlate k 4 x else x) x
     let left := fun (x : State) => forEach (List.range 4) (fun k x => if bit v.toNat (4 + k) && inSlate x k then leaveSlate k x else x) x
     exec (.slateEnter src v) s = .next (wrote src 0x7022 0 [v] (left ∘ entered) s) ∧
     exec (.slateLeave src v) s = .next (wrote src 0x7022 0 [v] (left ∘ entered) s) ∧
     (v = 0x01 → (quadAt (beforeWrite src 0x7022 0 [v] s) 0).st ≠ .starting →
       exec (.slateEnter src v) s = .next (wrote src 0x7022 0 [v] (enterSlate 0 4) s)) ∧
     (∀ (x : State) (q : Nat), q < 4 → x.quads.length = 4 →
       ((quadAt x q).slate = 0 → (quadAt (enterSlate q 4 x) q).slate = 4 ∧
         ((quadAt x q).st ≠ .offline → (quadAt (enterSlate q 4 x) q).st = .slate)) ∧
       (quadAt (leaveSlate q x) q).slate = 0 ∧ (quadAt (leaveSlate q x) q).st = .normal))

/-- QUADRANT_RESET, QUADRANT_RESET_AND_HOLD and QUADRANT_RELEASE_HOLD are writes of 1, 2 and 3 to object 0x7020 of the quadrant.
Where they are accepted (a normal quadrant without a reset for 1 and 2, one that waits at step 6 for 3), the reset runs, with or
without the hold, or its step 6 runs (R439). A reset that ends leaves the quadrant normal, its end remembered, or at step 6 when it
holds; one that does not end leaves it held in reset.
STATE_CHECK_ERROR resets a normal quadrant, and takes it into Slate mode with cause 5 when a reset of it ended less than
1 s before; QUADRANT_RESET_TIMEOUT does the latter for a reset that has not reached step 6 after 40 µs (R439, R440). A quadrant
that enters Slate mode keeps the cause, and is out of its reset. -/
def Obligations.QuadrantResets : Prop :=
  (∀ (src : Src) (q : Fin 4) (ends : Bool) (s : State), s.released = true →
     (mayWrite s src 0x7020 (q + 1) [1] = true → quadResetAllowed (beforeWrite src 0x7020 (q + 1) [1] s) q 1 = true →
       exec (.quadrantReset src q ends) s = .next (wrote src 0x7020 (q + 1) [1] (resetQuad q 1 false ends) s)) ∧
     (mayWrite s src 0x7020 (q + 1) [2] = true → quadResetAllowed (beforeWrite src 0x7020 (q + 1) [2] s) q 2 = true →
       exec (.quadrantResetAndHold src q ends) s = .next (wrote src 0x7020 (q + 1) [2] (resetQuad q 1 true ends) s)) ∧
     (mayWrite s src 0x7020 (q + 1) [3] = true → quadResetAllowed (beforeWrite src 0x7020 (q + 1) [3] s) q 3 = true →
       exec (.quadrantReleaseHold src q) s = .next (wrote src 0x7020 (q + 1) [3]
         (fun x => endReset q 6000 (stopTests (liveTarget x q) 2 x)) s)) ∧
     (∀ x : State, x.quads.length = 4 →
       ((quadAt (resetQuad q 1 false false x) q).st = .held ∧ (quadAt (resetQuad q 1 false false x) q).resetAt = some x.clk.hub) ∧
       ((quadAt (resetQuad q 1 false true x) q).st = .normal ∧ (quadAt (resetQuad q 1 false true x) q).resetAt = none ∧
         (quadAt (resetQuad q 1 false true x) q).resetDone = some x.clk.hub) ∧
       ((quadAt (resetQuad q 1 true true x) q).st = .held ∧ (quadAt (resetQuad q 1 true true x) q).atStep6 = true) ∧
       ((quadAt x q).st ≠ .offline → (quadAt (endReset q 6000 x) q).st = .normal) ∧ (quadAt (endReset q 6000 x) q).resetAt = none)) ∧
  (∀ (q : Fin 4) (ends : Bool) (s : State), s.released = true →
     ((quadAt s q).st = .normal → (quadAt s q).resetAt = none →
       ((quadAt s q).resetDone = none → exec (.stateCheckError q ends) s = .next (keepFixed s true (resetQuad q 2 false ends s))) ∧
       (∀ d, (quadAt s q).resetDone = some d → d + 1000000000 ≤ s.clk.hub →
         exec (.stateCheckError q ends) s = .next (keepFixed s true (resetQuad q 2 false ends s))) ∧
       (∀ d, (quadAt s q).resetDone = some d → s.clk.hub < d + 1000000000 →
         exec (.stateCheckError q ends) s = .next (keepFixed s true (enterSlate q 5 s)))) ∧
     (∀ t0, (quadAt s q).resetAt = some t0 → (quadAt s q).atStep6 = false → t0 + 40000 ≤ s.clk.hub →
       exec (.quadrantResetTimeout q) s = .next (keepFixed s true (enterSlate q 5 s))) ∧
     (s.quads.length = 4 → (quadAt s q).slate = 0 → (quadAt (enterSlate q 5 s) q).slate = 5 ∧
       (quadAt (enterSlate q 5 s) q).resetAt = none ∧ (quadAt (resetQuad q 2 false true s) q).st = .normal))

/-- PORT_RESET, PORT_RESET_AND_HOLD and PORT_RELEASE_HOLD are writes of 1, 2 and 3 to object 0x7021 of the port: a reset of the
port with cause 1 starts, with or without a hold, or the hold ends (R441). A port whose reset starts is in reset, with the cause and
the hold, and notice 0x7080 says so.
LINK_TRAINING brings up the link of a ready complex that is neither up nor in reset, with the client's response credits;
LINK_RETRAIN brings it up again, with the credits the client then advertises, after a port reset once the port's work has ended,
neither quiet nor held; a retraining that is not
accepted is counted, and the third in a row starts a port reset with cause 2 (R88, R118, R431, R441). The link that comes up is out of
reset, with no tag in use, sequence 0 expected, and each live bundle with 152 request credits and the client's response credits. -/
def Obligations.PortsResetAndLinksTrain : Prop :=
  (∀ (src : Src) (p : PortId) (s : State), s.released = true →
     (mayWrite s src 0x7021 (p + 1) [1] = true →
       exec (.portReset src p) s = .next (wrote src 0x7021 (p + 1) [1] (startPortReset p 1 false) s)) ∧
     (mayWrite s src 0x7021 (p + 1) [2] = true →
       exec (.portResetAndHold src p) s = .next (wrote src 0x7021 (p + 1) [2] (startPortReset p 1 true) s)) ∧
     (mayWrite s src 0x7021 (p + 1) [3] = true →
       exec (.portReleaseHold src p) s = .next (wrote src 0x7021 (p + 1) [3]
         (fun x => updPort p (fun d => { d with hold := false }) (stopTests (groupTarget (portGroup p)) 2 x)) s)) ∧
     (∀ (x : State) (hold : Bool), x.ports.length = 5 → ∃ y,
       startPortReset p 1 hold x = notify .hub 0x7080 0 (leBytes 1 (p + 1) ++ leBytes 1 1) y ∧
       (portAt y p).inReset = true ∧ (portAt y p).cause = 1 ∧ (portAt y p).hold = ((portAt x p).hold || hold))) ∧
  (∀ (p : PortId) (credits : Nat) (s : State), s.released = true → isReady s = true →
     ((portAt s p).up = false → (portAt s p).inReset = false → 32 ≤ credits → s.power.shutdown = 0 →
       exec (.linkTraining p true credits) s =
         .next (keepFixed s true (linkUp p false (updPort p (fun d => { d with advertised := credits }) s)))) ∧
     ((portAt s p).inReset = true → (portAt s p).quiet = false → (portAt s p).hold = false → workEnded s p = true → s.power.shutdown = 0 →
       (32 ≤ credits → exec (.linkRetrain p (some credits)) s =
         .next (keepFixed s true (linkUp p true (updPort p (fun d => { d with advertised := credits }) s)))) ∧
       let s1 := updPort p (fun d => { d with up := false, failures := (d.failures + 1) % 3 }) s
       ((portAt s p).failures ≠ 2 → exec (.linkRetrain p none) s = .next (keepFixed s true s1)) ∧
       ((portAt s p).failures = 2 → exec (.linkRetrain p none) s = .next (keepFixed s true (startPortReset p 2 false s1)))) ∧
     (s.ports.length = 5 → ∀ back, let t := linkUp p back s
       (portAt t p).up = true ∧ (portAt t p).inReset = false ∧ (portAt t p).tags = [] ∧ (portAt t p).expect = 0 ∧
       ∀ b, b < 16 → (liveBundles (linkAt t (portGroup p))).contains b = true →
         nth (portAt t p).reqCr b 0 = 152 ∧ nth (portAt t p).respCr b 0 = (portAt s p).advertised))

/-- MARGIN_CHECK makes a lane end of a live bundle with an eye below object 0x7040:01 due, and its bundle; BUNDLE_RETRAIN takes a
due bundle out of the live set, gives its due lane ends the next spares of their directions and records each, drops one that lacks a
spare (cause 1) or that failed again within 1 s (cause 3); BUNDLE_RETRAIN_COMPLETE puts it back, or drops it (cause 2) (R334, R443,
R444). A dropped bundle is out of the live set and marked dropped, and notice 0x7050 carries the cause. -/
def Obligations.BundleRows : Prop :=
  ∀ (g : Fin 13) (b : Fin 16) (s : State), s.released = true → s.links.length = 13 →
    (∀ (far transmit : Bool) (lane : Fin 68) (eye : Nat), bit (linkAt s g).live b = true →
      (eye < objGet s 0x7040 1 → ∃ t, exec (.marginCheck g b ⟨far, transmit, lane, eye⟩) s = .next t ∧
        (linkAt t g).due = (if (linkAt s g).due.contains b.val then (linkAt s g).due else (linkAt s g).due ++ [b.val]) ∧
        (linkAt t g).dueEnds.contains (b.val, far, b2n transmit, lane.val) = true ∧
        (linkAt t g).live = (linkAt s g).live ∧ t.quads = s.quads ∧ t.mem = s.mem ∧ t.ports = s.ports) ∧
      (objGet s 0x7040 1 ≤ eye → exec (.marginCheck g b ⟨far, transmit, lane, eye⟩) s = .next s)) ∧
    (bit (linkAt s g).live b = true → (linkAt s g).due.contains b.val = true → (linkAt s g).retrain = 0 →
      ((linkAt s g).failing.contains b.val = true → exec (.bundleRetrain g b) s = .next (keepFixed s true (dropBundle g b 3 s))) ∧
      ((linkAt s g).failing.contains b.val = false → sparesLeft g b s = false →
        exec (.bundleRetrain g b) s = .next (keepFixed s true (dropBundle g b 1 s))) ∧
      ((linkAt s g).failing.contains b.val = false → sparesLeft g b s = true →
        exec (.bundleRetrain g b) s = .next (keepFixed s true (liveChange g 4 (fun l => { l with
          live := setBit l.live b false, retrain := setBit l.retrain b true, spares := sparesAfter g b s,
          inUse := l.inUse + (endsDue s g b).length, due := l.due.filter (· != b.val), failing := l.failing.filter (· != b.val),
          dueEnds := l.dueEnds.filter (·.1 != b.val) })
          (forEach (endsDue s g b) (fun e x => retireUnit (endUnit g b e.1 e.2.1 e.2.2) 3 x) s.drawn))))) ∧
    (∀ (far : Bool) (d lane : Nat), (linkAt s g).dueEnds.filter (·.1 == b.val) = [(b.val, far, d, lane)] →
      endsDue s g b = [(far, d, lane)] ∧
      (sparesLeft g b s = true → nth (linkAt s g).spares (spareIndex b far d) 0 < 4 ∨ (linkAt s g).spares.length ≤ spareIndex b far d)) ∧
    (bit (linkAt s g).retrain b = true →
      exec (.bundleRetrainComplete g b false) s = .next (keepFixed s true (dropBundle g b 2 s)) ∧
      ∃ t, exec (.bundleRetrainComplete g b true) s = .next t ∧ ∃ u, t = keepFixed s true
        (notify .hub 0x7051 0 (leBytes 1 g ++ leBytes 1 b ++ leBytes 1 (bundleSpares (linkAt u g) b)) (recovered 2000 u)) ∧
        u = liveChange g 5 (fun l => { l with
          live := setBit l.live b true, retrain := setBit l.retrain b false,
          lastRetrain := (b.val, s.clk.hub) :: l.lastRetrain.filter (·.1 != b.val) }) s) ∧
    (∀ (x : State) (cause : Nat), x.links.length = 13 → ∃ y off,
      dropBundle g b cause x = recompute off (recovered 10000 (notify .hub 0x7050 1
        (leBytes 1 g ++ leBytes 1 b ++ leBytes 1 cause ++ leBytes 1 (liveCountOf (linkAt y g))) y)) ∧
      (linkAt y g).live = setBit (linkAt x g).live b false ∧ (linkAt y g).dropped = setBit (linkAt x g).dropped b true)

/-! ### Time (chapter 2) -/

/-- SNAPSHOT_START is a write of 1 to object 0x1203:01: with none running, a snapshot starts at the present hub time, over every
quadrant that is not held in reset and that a route reaches; while one runs it is ignored. The values shown stay until the snapshot completes
(R55).
SNAPSHOT_COMPLETE replaces all values together: hub time at issue; for each captured quadrant a time from its request's issue to
the end of its round trip, and the round trip; 0 twice for one not captured (R55). No other counter moves. -/
def Obligations.SnapshotsRunAndComplete : Prop :=
  (∀ (src : Src) (s : State), s.released = true → mayWrite s src 0x1203 1 [1] = true →
     exec (.snapshotStart src 1) s = .next (wrote src 0x1203 1 [1] startSnapshot s) ∧
     ∀ x : State, (startSnapshot x).clk.snap = x.clk.snap ∧ (startSnapshot x).clk.hub = x.clk.hub ∧
       (x.clk.running.isSome = true → startSnapshot x = x) ∧
       (x.clk.running = none → ∃ times, (startSnapshot x).clk.running = some ⟨x.clk.hub, times⟩ ∧
         ∀ q, q < 4 → nth times q none =
           if (quadAt x q).st ≠ .held ∧ (quadAt x q).resetAt = none ∧ reachable x q = true then some (quadTime x q) else none)) ∧
  (∀ (trips : List Nat) (s : State) (x : Snapshot), s.released = true → s.clk.running = some x → trips.length = 4 →
     (∀ r ∈ trips, r ≤ 200) →
     ∃ t, exec (.snapshotComplete trips) s = .next t ∧ t.clk.running = none ∧ t.clk.snap.length = 9 ∧
       nth t.clk.snap 0 0 = x.issued % 2 ^ 61 ∧ t.clk.hub = s.clk.hub ∧ t.clk.quad = s.clk.quad ∧ t.clk.date = s.clk.date ∧
       ∀ q, q < 4 →
         (nth x.times q none = none → nth t.clk.snap (q + 1) 0 = 0 ∧ nth t.clk.snap (q + 5) 0 = 0) ∧
         (∀ c, nth x.times q none = some c → nth t.clk.snap (q + 5) 0 = nth trips q 0 ∧
           ∃ d, d ≤ nth trips q 0 ∧ nth t.clk.snap (q + 1) 0 = (c + d) % 2 ^ 61))

/-- HOST_DATE_WRITE writes object 0x1210:00: a value other than 0 becomes the date, the hub time of the write is kept for object
0x1211:00, and a read returns the value plus the hub time since, in whole milliseconds; a value of 0 clears the date, which then
reads 0; the reading before and the value are journalled (R52, object 0x1211:00).
POWERED_TIME_PERSIST hands the ledger writer a record of kind 0x09 with the time stamp of the moment, where a NOR device is
there (R53). -/
def Obligations.DateAndPoweredTime : Prop :=
  (∀ (src : Src) (v : BitVec 64) (s : State), s.released = true → mayWrite s src 0x1210 0 (leBytes 8 v.toNat) = true →
     exec (.hostDateWrite src v) s = .next (wrote src 0x1210 0 (leBytes 8 v.toNat) (writeDate v.toNat) s) ∧
     ∀ x : State,
       (v ≠ 0 → (writeDate v.toNat x).clk.dateSet = x.clk.hub % 2 ^ 61 ∧
         ∀ h, x.clk.hub ≤ h → dateNow ((writeDate v.toNat x).onClk fun c => { c with hub := h }) =
           (v.toNat + (h - x.clk.hub) / 1000000) % 2 ^ 64) ∧
       (v = 0 → (writeDate v.toNat x).clk.dateSet = x.clk.dateSet ∧
         ∀ h, dateNow ((writeDate v.toNat x).onClk fun c => { c with hub := h }) = 0) ∧
       (writeDate v.toNat x).nor = (journal 0x81 (leBytes 8 (dateNow x) ++ leBytes 8 v.toNat) x).nor ∧
       (writeDate v.toNat x).clk.hub = x.clk.hub ∧ (writeDate v.toNat x).clk.quad = x.clk.quad) ∧
  (∀ s : State, s.released = true → s.nor.present = true →
     ∃ t, exec .poweredTimePersist s = .next t ∧ t.nor.waiting = s.nor.waiting ++ [(true, 0x09, [], journalStamp s)] ∧
       t.nor.ledger = s.nor.ledger ∧ t.clk = s.clk ∧ t.cnt = s.cnt ∧ t.mem = s.mem ∧ t.svc = s.svc)

/-! ### Requests of the memory ports (chapter 4) -/

/-- A request that passes its checks on a port that takes requests, with a free tag in the port's range and outside a locked
sequence, takes its tag and is accepted: it is tracked and enters its regulation queue unless a fence or earlier writes hold it
(R92 to R105). So for every row that is a request of the request channel: READ, WRITE, WRITE_ZERO, POISON, ATOMIC, ATOMIC_FETCH,
WRITE_FENCE, FULL_FENCE, COLLECTIVE_DECLARE, OUTING_START, REPLICA_FILL, REPLICA_RELEASE, COMBINED_ATOMIC and COMBINED_ATOMIC_FETCH;
one of FP that is a fence flushes its Basket lines (R308). -/
def Obligations.RequestsThatPassTheirChecksAreAccepted : Prop :=
  ∀ (i : Instr) (p : PortId) (op : Op) (r : Request) (s : State), memoryRow i = some (p, op, r) → s.released = true →
    let s1 := if breaksSequence r then breakSequence p (takeInbox p (opcodeOf op) r s).2 else (takeInbox p (opcodeOf op) r s).2
    takesRequests s p = true → r.lock = false → (portAt s1 p).tags.contains r.tag.toNat = false →
    portAccepts p (opcodeOf op) = true → tagInRange p r = true →
    let s2 := countCombined op (takeTag p r s1)
    memChecks s2 p op r true = none →
    let s3 := accept p op r (takeInbox p (opcodeOf op) r s).1 s2
    exec i s = .next (keepFixed s true (answerUnlisted (portAt s3 p).inbox.length p s3))

/-- A request that fails a check gets one Error response with the status of the first check that fails, and has no other effect
on the map, the stacks or the requests that run (R100, Table 4.7): the port's last error names it and its response waits, where a
later full fence waits for it (R105).
A request whose tag is in use is dropped with notice 0x8002: no response, no request, the tags as they were (R98). -/
def Obligations.RequestsThatFailOrReuseATag : Prop :=
  (∀ (i : Instr) (p : PortId) (op : Op) (r : Request) (s : State) (st : Nat), memoryRow i = some (p, op, r) →
     s.released = true → s.ports.length = 5 → takesRequests s p = true → r.lock = false →
     (portAt s p).inbox = [] → (portAt s p).assembly = none → (portAt s p).tags.contains r.tag.toNat = false →
     tagInRange p r = true → portAccepts p (opcodeOf op) = true →
     memChecks (countCombined op (takeTag p r s)) p op r true = some st →
     ∃ t, exec i s = .next t ∧
       (portAt t p).resps = (portAt s p).resps ++ [{
           kind := 3, tag := r.tag.toNat, status := st, opcode := opcodeOf op,
           order := if r.mgmt then none else some (s.nextReq, r.group.val) }] ∧
       (portAt t p).tags = (portAt s p).tags ++ [r.tag.toNat] ∧ t.reqs = s.reqs ∧ t.mem = s.mem ∧ t.map = s.map ∧
       t.tree = s.tree ∧ t.chans = s.chans ∧ t.reg = s.reg ∧ t.engines = s.engines ∧ t.objs = s.objs) ∧
  (∀ (i : Instr) (p : PortId) (op : Op) (r : Request) (s : State), memoryRow i = some (p, op, r) →
     s.released = true → s.ports.length = 5 → takesRequests s p = true → r.lock = false → (portAt s p).inbox = [] →
     (portAt s p).assembly = none → (portAt s p).tags.contains r.tag.toNat = true → tagInRange p r = true →
     ∃ t, exec i s = .next t ∧ (portAt t p).resps = (portAt s p).resps ∧ (portAt t p).tags = (portAt s p).tags ∧
       t.reqs = s.reqs ∧ t.mem = s.mem ∧ t.map = s.map ∧ t.tree = s.tree ∧
       t = keepFixed s true (notify .hub 0x8002 1 (leBytes 1 (p.val + 1) ++ leBytes 2 r.tag.toNat) s))

/-- A member of a locked sequence joins the sequence that its port assembles: it is tracked, with the status its checks gave it; where
one of them fails, the sequence fails, and on the lock end it closes (R110, R111, R113).
LOCK_TIMEOUT fails a sequence that is not complete 100 ns after its first member: each member received is answered once, with
the status its own check gave it or else 0x0F, and takes no more effect; later members will find the sequence failed (R113). -/
def Obligations.LockedSequences : Prop :=
  (∀ (i : Instr) (p : PortId) (op : Op) (r : Request) (s : State), memoryRow i = some (p, op, r) →
     s.released = true → s.ports.length = 5 → takesRequests s p = true → r.lock = true → r.mgmt = false →
     (portAt s p).inbox = [] → ((portAt s p).assembly.isSome = true ∨ lockedCount s p < 1024) → (portAt s p).tags.contains r.tag.toNat = false →
     portAccepts p (opcodeOf op) = true → tagInRange p r = true →
     let s2 := countCombined op (takeTag p r s)
     (portAt s2 p).inbox = [] →
     let a := assemblyOf p r s2
     let st := memChecks s2 p op r (memberOk a.first op r)
     let s3 := arriveMember p op r [] s2
     exec i s = .next (keepFixed s true (answerUnlisted (portAt s3 p).inbox.length p s3)) ∧
     (st = none → a.failed = false → r.lockEnd = false →
       (portAt s3 p).assembly = some { a with members := a.members ++ [(s2.nextReq, none)] } ∧ s3.nextReq = s2.nextReq + 1 ∧
       s3.mem = s.mem ∧ s3.tree = s.tree ∧ (portAt s3 p).resps = (portAt s p).resps) ∧
     (∀ (x : State) (b : Assembly), (portAt x p).assembly = some b → b.failed = true → x.ports.length = 5 →
       (portAt (closeSequence p x) p).assembly = none ∧ (closeSequence p x).tree = x.tree)) ∧
  (∀ (p : PortId) (s : State) (a : Assembly), s.released = true → s.ports.length = 5 → (portAt s p).mute = false →
     (portAt s p).assembly = some a → a.since + 100 ≤ s.clk.hub →
     ∃ t, exec (.lockTimeout p) s = .next t ∧ (portAt t p).assembly = some { a with failed := true, members := [] } ∧
       (portAt t p).resps = (portAt s p).resps ++ (a.members.filterMap fun m => (reqAt s m.1).map fun r =>
         ({ kind := 3, tag := r.r.tag.toNat, status := m.2.getD 0x0F, opcode := opcodeOf r.op, req := some r.id } : Resp)) ∧
       (∀ m ∈ a.members, ∀ q, reqAt t m.1 = some q → q.status.isSome = true ∧ q.parts = []) ∧
       (portAt t p).tags = (portAt s p).tags ∧ t.mem = s.mem ∧ t.map = s.map ∧ t.tree = s.tree ∧ t.chans = s.chans)

/-- LOCK_TIMEOUT answers a next state in every state: 100 ns or more after the first member of the sequence that its port assembles,
that sequence fails; before that, and where the port assembles none, nothing changes (R113). -/
def Obligations.LockTimeoutTakesEffect : Prop :=
  ∀ (p : PortId) (s : State), s.released = true →
    (∀ a, (portAt s p).assembly = some a →
      (a.since + 100 ≤ s.clk.hub → exec (.lockTimeout p) s = .next (keepFixed s true (failSequence p s))) ∧
      (s.clk.hub < a.since + 100 → exec (.lockTimeout p) s = .next s)) ∧
    ((portAt s p).assembly = none → exec (.lockTimeout p) s = .next s)

/-- FENCE_COMPLETE answers a fence with Done once what its scope covers has got as far as it asks and every sweep of a generation that
held writes of that scope is acknowledged, and requests that it held go on (R105, R108).
VISIBILITY_POINT: a write all of whose parts have got past their visibility point is answered, with the far bit of the
quadrants that served it, and the answer waits for the invalidation that its segment's sharers are owed; requests it held go on (R67,
R103, R315). One of an engine goes back to its issuer once that invalidation has left the hub. A plain write's response is Done.
BASKET_FLUSH_VISIBLE answers every request merged into the flush, in arrival order, with Done or, where an atomic line met poison,
status 0x05, and the flush is over (R310); COMBINING_WINDOW_EXPIRY flushes the line whose window has ended, and heads that waited for
a line try again (R308, R311). -/
def Obligations.FencesWritesAndFlushes : Prop :=
  (∀ (p : PortId) (tag : BitVec 16) (s : State) (f : Req), s.released = true →
     s.reqs.find? (fun r => r.port == p.val && r.r.tag == tag && (r.op = .fence || r.op = .fullFence) && r.status.isNone) = some f →
     fenceReady s f = true →
     exec (.fenceComplete p tag) s = .next (keepFixed s true
       (wakeHeld p (respond p { kind := 1, tag := f.r.tag.toNat, req := some f.id, opcode := opcodeOf f.op }
         (updReq f.id (fun q => { q with status := some 0 }) s))))) ∧
  (∀ (id : Nat) (s : State) (r : Req), s.released = true → reqAt s id = some r → writeVisible r = true → r.op ≠ .flush →
     fillsPending s r = false →
     (r.port < 5 → exec (.visibilityPoint id) s = .next (keepFixed s true
       (let s0 := (invalidateFor r s).1
        let resp := { withFar s0 r (writeResponse r) with behind := (invalidateFor r s).2 }
        let s1 := updReq r.id (fun q => { q with status := some resp.status }) s0
        wakeHeld r.port (respond r.port resp
         (if resp.status = 0 then s1 else lastError r.port resp.status (opcodeOf r.op) r.r s1))))) ∧
     (5 ≤ r.port →
       (r.behind = none → (invalidateFor r s).2 = none →
         exec (.visibilityPoint id) s = .next (keepFixed s true (engineWriteDone r (invalidateFor r s).1))) ∧
       (∀ m, r.behind = none → (invalidateFor r s).2 = some m → exec (.visibilityPoint id) s = .next (keepFixed s true
         (updReq r.id (fun q => { q with behind := some m }) (invalidateFor r s).1))) ∧
       (∀ m, r.behind = some m → leftHub s m = true → exec (.visibilityPoint id) s = .next (keepFixed s true (engineWriteDone r s)))) ∧
     (r.op = .write ∨ r.op = .zero ∨ r.op = .poison → (writeResponse r).kind = 1 ∧ (writeResponse r).status = 0 ∧
       (writeResponse r).tag = r.r.tag.toNat)) ∧
  (∀ s : State, s.released = true →
     (∀ (id : Nat) (f : Req), reqAt s id = some f → writeVisible f = true → f.op = .flush → fillsPending s f = false →
       exec (.basketFlushVisible id) s = .next (keepFixed s true
         (wakeHeld 4 (dropReq f.id (forEach f.merged (answerMerged f) (invalidateFor f s).1))))) ∧
     (∀ (f : Req) (m : Nat × Nat × Nat) (x : State) (r : Req), reqAt x m.1 = some r → x.ports.length = 5 → (portAt x 4).mute = false →
       ∃ y : Resp, (portAt (answerMerged f m x) 4).resps = (portAt x 4).resps ++ [y] ∧ y.tag = r.r.tag.toNat ∧
         (y.status = 0 ∧ y.kind = 1 ∨ y.status = 0x05 ∧ y.kind = 3) ∧ ((f.line.bind (·.atomic)) = none → y.status = 0)) ∧
     (∀ (a : Nat) (l : Line), s.fabric.lines.find? (·.addr = a) = some l → l.opened + l.window ≤ s.clk.hub →
       exec (.combiningWindowExpiry a) s = .next (keepFixed s true (retryHeads (flushLine l false s)))))

/-- RESPONSE_SENT: on a link that is up, with no flit due again and credits for its flits, the oldest response leaves, unless it
waits for an invalidation, and one that carries final frees its tag (R42, R89, R97, R315). A notice leaves the port's queue the same
way (R124). -/
def Obligations.ResponsesLeaveInOrder : Prop :=
  ∀ (p : PortId) (s : State), s.released = true → s.ports.length = 5 → (portAt s p).up = true → (portAt s p).mute = false →
    (portAt s p).again = [] →
    (∀ (r : Resp) (rest : List Resp), (portAt s p).resps = r :: rest → mayLeave s r = true → (sendResponse p r s).isSome = true →
      ∃ t, exec (.responseSent p false) s = .next t ∧ (portAt t p).resps = rest ∧ t.mem = s.mem ∧ t.objs = s.objs ∧ t.map = s.map ∧
        (r.final = true → r.kind ≠ 8 → (portAt t p).tags = dropFirst (· == r.tag) (portAt s p).tags) ∧
        (r.final = false → (portAt t p).tags = (portAt s p).tags ∧ t.reqs = s.reqs)) ∧
    (∀ (n : Notice) (rest : List Notice), (portAt s p).notices = n :: rest → (portAt s p).unsaid = 0 →
      (sendResponse p { kind := 8, tag := n.code, data := noticeBody n false } s).isSome = true →
      ∃ t, exec (.responseSent p true) s = .next t ∧ (portAt t p).notices = rest ∧ (portAt t p).resps = (portAt s p).resps ∧
        (portAt t p).tags = (portAt s p).tags ∧ t.reqs = s.reqs ∧ t.mem = s.mem ∧ t.map = s.map)

/-- DICTIONARY_READ and DICTIONARY_WRITE run on their port with their tag taken, one at a time in arrival order: the request's status
and value, or the write it carries, are those the port's role, domain and object give; one that finds an earlier dictionary request
of its port at work waits for it (R122, R123). FP takes neither: status 0x04. One that came on the request channel breaks or fails
its port's locked sequence as any header does (R113). A read that no flit delivered is answered with the value, or with the status. -/
def Obligations.DictionaryRequestsRunInBand : Prop :=
  ∀ (p : PortId) (r : Request) (s : State), s.released = true → takesRequests s p = true → tagInRange p r = true →
    let before := fun (opcode : Nat) =>
      let x := returnFlits p (takeInbox p opcode r s).1 (takeInbox p opcode r s).2
      takeTag p r (if breaksSequence r then breakSequence p x else x)
    let free := fun (opcode : Nat) =>
      let x := returnFlits p (takeInbox p opcode r s).1 (takeInbox p opcode r s).2
      (portAt (if breaksSequence r then breakSequence p x else x) p).tags.contains r.tag.toNat = false
    let ended := fun (x : State) =>
      let y := failMember p r x
      keepFixed s true (answerUnlisted (portAt y p).inbox.length p y)
    let busy := fun (x : State) => dictBusy x p = true ∨ (portAt x p).dict ≠ []
    ∀ (i : Instr) (opcode : Nat), (i, opcode) ∈ [(Instr.dictionaryRead p r, 0x18), (Instr.dictionaryWrite p r, 0x19)] → free opcode →
    let x := before opcode
    (p.val < 4 → ¬ busy x →
      (inBandStop x p opcode r ≠ 0 → exec i s = .next (ended (inBandAnswer p opcode r (inBandStop x p opcode r) [] x))) ∧
      (inBandStop x p opcode r = 0 → opcode = 0x18 →
        exec i s = .next (ended (inBandAnswer p 0x18 r (inBandRead p r x).2.1 (inBandRead p r x).2.2 (inBandRead p r x).1))) ∧
      (inBandStop x p opcode r = 0 → opcode = 0x19 →
        let w := inBandWrite (portSrc p r) true p r x
        exec i s = .next (ended (if w.2 = 0x10 then w.1 else inBandAnswer p 0x19 r w.2 [] w.1)))) ∧
    (p.val < 4 → busy x → exec i s = .next (ended (updPort p (fun d => { d with dict := d.dict ++ [(opcode, r, true)] }) x))) ∧
    (p.val = 4 → exec i s = .next (ended (reject p 0x04 opcode r x))) ∧
    (p.val < 4 → s.ports.length = 5 → (portAt s p).inbox = [] → r.mgmt = true → ¬ busy s → inBandStop x p 0x18 r = 0 → dictIndex r ≠ 0x1122 →
      let a := inBandRead p r x
      ∃ t, exec (.dictionaryRead p r) s = .next t ∧ (portAt t p).tags = (portAt s p).tags ++ [r.tag.toNat] ∧
        (portAt t p).resps = (portAt s p).resps ++ [if a.2.1 = 0 then
            { kind := 2, tag := r.tag.toNat, data := a.2.2, opcode := 0x18, behind := s.fabric.commandMark }
          else { kind := 3, tag := r.tag.toNat, status := a.2.1, opcode := 0x18 }] ∧
        t.objs = s.objs ∧ t.mem = s.mem ∧ t.map = s.map ∧ t.reqs = s.reqs)

/-- IN_BAND_CHALLENGE: a Dictionary read of object 0x1122:00 of at least 32 bytes issues the port a fresh challenge; its value is
free, and it is kept with the hub time (R412). IN_BAND_UNLOCK: a Dictionary write of object 0x1123:00 ends the port's challenge, and
a code that the role's key gives in time raises the port to the role it names; another does not change the role (R410 to
R412). IN_BAND_ROLE_DROP: a Dictionary write of object 0x1124:00 sets the port's role to one at or below its present
one (R412). -/
def Obligations.InBandRoles : Prop :=
  ∀ (p : Fin 4) (tag : BitVec 16) (domain : BitVec 6) (s : State), s.released = true → s.ports.length = 5 →
    (∀ r : Request, r.tag = tag → r.domain = domain → dictIndex r = 0x1122 → dictSub r = 0 → 32 ≤ (lenOf r.lenCode.toNat).getD 0 →
      takesRequests s p = true → (portAt s p).inbox = [] → (portAt s p).dict = [] → dictBusy s p = false →
      (portAt s p).tags.contains tag.toNat = false → tagInRange p r = true →
      inBandStop s p 0x18 r = 0 → 1 ≤ (portAt s p).role →
      ∃ t, exec (.inBandChallenge p r) s = .next t ∧
        (portAt t p).challenge = some (leBytes 32 (Config.challenge s.draw).toNat, s.clk.hub) ∧
        (portAt t p).resps = (portAt s p).resps ++
          [{ kind := 2, tag := tag.toNat, data := leBytes 32 (Config.challenge s.draw).toNat, opcode := 0x18,
             behind := s.fabric.commandMark }] ∧
        (portAt t p).role = (portAt s p).role ∧ t.objs = s.objs ∧ t.mem = s.mem) ∧
    (∀ value : Bytes, mayWrite s (.cp p tag domain) 0x1123 0 value = true →
      let w := unlockPort p value (beforeWrite (.cp p tag domain) 0x1123 0 value s)
      exec (.inBandUnlock p (carrier tag domain 0x1123 0 value)) s =
        .next (keepFixed s true (afterWrite (.cp p tag domain) 0x1123 0 value w.2 w.1))) ∧
    (∀ (value : Bytes) (x : State), x.ports.length = 5 → field value 0 1 = 2 ∨ field value 0 1 = 3 →
      let ok := unlocks x (leBytes 6 (p + 1)) 0 (field value 0 1) (portAt x p).challenge (value.drop 1)
      (portAt (unlockPort p value x).1 p).challenge = none ∧
      (ok = true → (portAt (unlockPort p value x).1 p).role = field value 0 1 ∧ (unlockPort p value x).2 = 0) ∧
      (ok = false → (portAt (unlockPort p value x).1 p).role = (portAt x p).role ∧ (unlockPort p value x).2 = 0x0A ∧
        (unlockPort p value x).1.svc.failures = (x.svc.failures + 1) % 2 ^ 32)) ∧
    (∀ v : BitVec 8, mayWrite s (.cp p tag domain) 0x1124 0 [v] = true → 1 ≤ v.toNat → v.toNat ≤ 2 → v.toNat ≤ (portAt s p).role →
      exec (.inBandRoleDrop p (carrier tag domain 0x1124 0 [v])) s =
        .next (wrote (.cp p tag domain) 0x1124 0 [v] (updPort p fun d => { d with role := v.toNat }) s))

/-! ### The links (chapter 4) -/

/-- FLIT_RECEIVED, on a live bundle of a link that takes requests: a flit that fails its link check is counted, asks for a
replay and delivers nothing; one that passes gives its acknowledgement and credits; an idle flit does no more; another is counted
and, where the client holds a credit for it, is accepted by its sequence (R87 to R91).
LINK_REPLAY makes every flit after the sequence named due again; they leave in sequence order, each with a response credit and
counted, as far as the credits the complex holds on its live bundles go, and the others stay due (R42, R89). No flit of the window is
changed but for its bundle and the number of its replays. -/
def Obligations.FlitsAreCheckedAndSentAgain : Prop :=
  (∀ (p : PortId) (b : Fin 16) (flit : Bytes) (s : State), s.released = true → s.ports.length = 5 → takesRequests s p = true →
     bundleLive s p b = true →
     (flitPasses flit = false →
       ∃ t, exec (.flitReceived p b flit) s = .next t ∧ (portAt t p).discarding = true ∧ (portAt t p).wantReplay = true ∧
         (portAt t p).inbox = (portAt s p).inbox ∧ (portAt t p).expect = (portAt s p).expect ∧ t.reqs = s.reqs ∧ t.mem = s.mem ∧
         counted t 0x8802 (portGroup p + 1) = (counted s 0x8802 (portGroup p + 1) + 1) % 2 ^ 48) ∧
     (flitPasses flit = true → flitControl flit = 2 →
       exec (.flitReceived p b flit) s = .next (keepFixed s true (replayFlits p (updPort p (takeAck b flit) s)))) ∧
     (flitPasses flit = true → flitControl flit = 0 →
       let s1 := bump 0x8800 (portGroup p + 1) 1 (replayFlits p (updPort p (takeAck b flit) s))
       ∀ d, spendCredit b (flitMgmt flit) (portAt s1 p) = some d →
         let s2 := acceptFlit p b flit (updPort p (fun _ => d) s1)
         exec (.flitReceived p b flit) s = .next (keepFixed s true (answerUnlisted (portAt s2 p).inbox.length p s2))) ∧
     (flitPasses flit = true → flitControl flit = 0 →
       let s1 := bump 0x8800 (portGroup p + 1) 1 (replayFlits p (updPort p (takeAck b flit) s))
       spendCredit b (flitMgmt flit) (portAt s1 p) = none →
         exec (.flitReceived p b flit) s = .next (keepFixed s true (protocolError p b 1 s1)))) ∧
  (∀ (p : PortId) (acked : BitVec 12) (s : State), s.released = true → s.ports.length = 5 → (portAt s p).up = true →
     (portAt s p).mute = false →
     let due := ((portAt s p).window.filter fun w => !seqUpTo w.1 acked.toNat).map (·.1)
     ∃ t k, exec (.linkReplay p acked) s = .next t ∧ t = keepFixed s true (resend p acked.toNat s) ∧
       (portAt t p).again = due.drop k ∧ k ≤ due.length ∧ creditsHeld t p + k = creditsHeld s p ∧
       counted t 0x8801 (portGroup p + 1) = counted (bump 0x8801 (portGroup p + 1) k s) 0x8801 (portGroup p + 1) ∧
       (portAt t p).window.map (fun w => (w.1, w.2.2.1)) = (portAt s p).window.map (fun w => (w.1, w.2.2.1)) ∧
       (portAt t p).resps = (portAt s p).resps ∧ (portAt t p).inbox = (portAt s p).inbox ∧ t.reqs = s.reqs ∧ t.mem = s.mem)

/-- PORT_QUIET_ENTER and PORT_QUIET_LEAVE follow 25 samples that agree, outside chatter; QUIET_CHATTER, after more than 16 changes
within 1 µs, holds the port quiet; QUIET_CHATTER_END, after 10 µs without change, leaves it at the level sampled, with notice
0x8003 (R117). A port that becomes quiet is in reset with cause 3, its urgency levels at 0 (R195, R441); one that leaves has the role
of object 0x1121. -/
def Obligations.PortsGoQuietAndLeave : Prop :=
  ∀ (p : Fin 4) (samples : List Bool) (changes ns : Nat) (level : Bool) (s : State), s.released = true → s.ports.length = 5 →
    (steady25 samples true = true → (portAt s p).chatter = none →
      exec (.portQuietEnter p samples) s = .next (keepFixed s true (becomeQuiet p s))) ∧
    (∀ x : State, x.ports.length = 5 → (portAt (becomeQuiet p x) p).quiet = true ∧ ((portAt x p).quiet = false →
      (portAt (becomeQuiet p x) p).inReset = true ∧ (portAt (becomeQuiet p x) p).cause = 3 ∧
      (x.reg.urgency.length = 32 → ∀ g : Fin 8, (nth (becomeQuiet p x).reg.urgency (pairNo p g) {}).level = 0))) ∧
    (steady25 samples false = true → (portAt s p).chatter = none →
      ∃ t, exec (.portQuietLeave p samples) s = .next t ∧ (portAt t p).quiet = false ∧
        (portAt t p).role = objGet s 0x1121 (p + 1) ∧ (portAt t p).inReset = (portAt s p).inReset ∧ t.reqs = s.reqs ∧ t.mem = s.mem) ∧
    (16 < changes → exec (.quietChatter p changes) s = .next (keepFixed s true
      (updPort p (fun d => { d with chatter := some (Nat.max (d.chatter.getD 0) changes) }) (becomeQuiet p s)))) ∧
    (∀ n, (portAt s p).chatter = some n → 10000 ≤ ns →
      ∃ t, exec (.quietChatterEnd p ns level) s = .next t ∧ t = keepFixed s true (notify .hub 0x8003 1
          (leBytes 1 (p.val + 1) ++ leBytes 1 (Nat.min 255 n)) (updPort p (fun d =>
            { d with chatter := none, quiet := level, role := if level then d.role else objGet s 0x1121 (p + 1) }) s)) ∧
        (portAt t p).chatter = none ∧ (portAt t p).quiet = level ∧
        (portAt t p).role = (if level then (portAt s p).role else objGet s 0x1121 (p + 1)) ∧ t.reqs = s.reqs ∧ t.mem = s.mem ∧ t.tree = s.tree)

/-- SWEEP_MARKER_ARRIVAL marks the oldest marker of the path that has not arrived; SWEEP_ACKNOWLEDGE takes the path's oldest sweep
off once its marker has arrived and its generation is over, and reroutes that waited go on (R106, R107). -/
def Obligations.SweepsArriveAndAreAcknowledged : Prop :=
  ∀ (m : Fin 6) (q : Fin 4) (s : State), s.released = true → s.ports.length = 5 →
    (∀ i, (portAt s m).sweeps.findIdx? (fun w => w.quad == q.val && !w.arrived) = some i →
      ∃ t, exec (.sweepMarkerArrival m q) s = .next t ∧
        (portAt t m).sweeps = (portAt s m).sweeps.modify i (fun w => { w with arrived := true }) ∧
        (portAt t m).gens = (portAt s m).gens ∧ t.reqs = s.reqs ∧ t.tree = s.tree ∧ t.mem = s.mem) ∧
    (∀ w, (portAt s m).sweeps.find? (·.quad == q.val) = some w → w.arrived = true → generationDone s m q w.gen = true →
      exec (.sweepAcknowledge m q) s = .next (keepFixed s true
        (pendingReroutes q (updPort m (fun d => { d with sweeps := dropFirst (· == w) d.sweeps }) s)))) ∧
    (∀ x : State, (quadAt x q).reroutes = [] → pendingReroutes q x = x) ∧
    (∀ (x : State) (c : Nat) (rest : List Nat), (quadAt x q).reroutes = c :: rest → pathsFull x q = false →
      pendingReroutes q x = pumpHub (rerouteNow q c (updQuad q (fun k => { k with reroutes := k.reroutes.drop 1 }) x)))

/-! ### The arbiter tree (chapter 6) -/

/-- The winner of a decision is a contender: the one that holds the ticket, or else one of the highest score, none of that score being
older, as 24-bit arrival sequences compare modulo 2^24 among requests that lie within half of that range (R51, R177). -/
def Obligations.WinnersHoldTheTicketOrRankFirst : Prop :=
  ∀ (cs : List TUnit) (ticket : Option Nat) (w : TUnit), winner cs ticket = some w →
    w ∈ cs ∧ (∀ u ∈ cs, ticket = some u.id → ticket = some w.id) ∧
    ((∀ u ∈ cs, ticket ≠ some u.id) → (∀ u ∈ cs, u.score ≤ w.score) ∧
      ∀ n, n < 2 ^ 24 → (∀ u ∈ cs, u.seq < 2 ^ 24 ∧ (u.seq + 2 ^ 24 - n) % 2 ^ 24 < 2 ^ 22) → ∀ u ∈ cs, ranksFirst u w = false)

/-- ARBITER_DECISION makes one decision of the arbiter it names; a grant of a root lane lets the front ends place more. With a
contender the winner is granted: it leaves its place, every loser's score rises by one up to 255, and the best loser takes the
ticket. Where the holder of the ticket waits for its place, nothing is granted before it (R177 to R180; the model's choice, assumption
109). -/
def Obligations.ArbiterDecisionGrantsTheWinner : Prop :=
  ∀ s : State, s.released = true →
    (∀ g l, exec (.arbiterDecision (.root g l)) s = .next (keepFixed s true (retryHeads (pumpHub (decide1 (.root g l) s))))) ∧
    (∀ a : ArbId, (∀ g l, a ≠ .root g l) → exec (.arbiterDecision a) s = .next (keepFixed s true (decide1 a s))) ∧
    (∀ (a : ArbId) (w : TUnit),
      let s1 := lapseTicket (arbKey a) s
      let held := (arbAt s1 (arbKey a)).ticket
      awaitsPlace (contenders s1 a) held = false → winner (contenders s1 a) held = some w →
      let lost := (contenders s1 a).filter (·.id != w.id)
      let t := decide1 a s
      (arbAt t (arbKey a)).ticket = (bestOf ranksFirst lost).map (·.id) ∧
      (∀ v ∈ t.tree.units, v.level = arbLevel a → v.id ≠ w.id) ∧
      (∀ u ∈ lost, ∃ v ∈ t.tree.units, v.id = u.id ∧ v.score = satAdd 255 u.score 1) ∧ t.mem = s.mem ∧
      (∀ n p, a = .chan n p → t.tree.units = ((s.tree.units.map fun u =>
        if lost.any (·.id == u.id) then { u with score := satAdd 255 u.score 1 } else u).filter (·.id != w.id)) ++
          [{ w with level := 3 }])) ∧
    (∀ a : ArbId, let s1 := lapseTicket (arbKey a) s
      awaitsPlace (contenders s1 a) (arbAt s1 (arbKey a)).ticket = true → decide1 a s = s1)

/-! ### Regulation (chapter 7) -/

/-- HIGH_WATER_CLEAR sets every high-water mark to 0; SAMPLE_CLEAR sets the maxima of the samples and the worst latencies to 0
(R187, R210).
LATENCY_WINDOW_END starts a new window of 1 ms of an entry with its counts at 0 (R209); SAMPLING_BOUNDARY takes, for
every queue, the number of requests that a balance or a gate holds and the mean and greatest delay since the last boundary (R210).
Queues and balances stay. -/
def Obligations.SamplesMarksAndWindows : Prop :=
  (∀ (src : Src) (s : State), s.released = true →
     (mayWrite s src 0x3411 0 [1] = true →
       exec (.highWaterClear src 1) s = .next (wrote src 0x3411 0 [1] (·.onTree fun t => { t with high := List.replicate 12 0 }) s)) ∧
     (mayWrite s src 0x3865 0 [1] = true →
       exec (.sampleClear src 1) s = .next (wrote src 0x3865 0 [1] clearSamples s)) ∧
     (∀ (x : State) (e : Nat), e < x.reg.entries.length →
       (entryAt (clearSamples x) e).depthMax = 0 ∧ (entryAt (clearSamples x) e).delayMax = 0 ∧ (entryAt (clearSamples x) e).worst = 0 ∧
       (entryAt (clearSamples x) e).queue = (entryAt x e).queue ∧ (entryAt (clearSamples x) e).excess = (entryAt x e).excess ∧
       (entryAt (clearSamples x) e).depth = (entryAt x e).depth)) ∧
  (∀ s : State, s.released = true → s.reg.entries.length = 48 →
     (∀ e : Fin 48, s.reg.latWin.length = 48 → (nth s.reg.latWin e 0 / 1000000 + 1) * 1000000 ≤ s.clk.hub →
       ∃ t, exec (.latencyWindowEnd e) s = .next t ∧ nth t.reg.latWin e 0 = s.clk.hub / 1000000 * 1000000 ∧
         (entryAt t e).winWorst = 0 ∧ (entryAt t e).winExcess = 0 ∧ (entryAt t e).worst = (entryAt s e).worst ∧
         (entryAt t e).queue = (entryAt s e).queue ∧ t.reqs = s.reqs ∧ t.mem = s.mem) ∧
     ((s.reg.sampled / s.reg.period + 1) * s.reg.period ≤ s.clk.hub →
       ∃ t, exec .samplingBoundary s = .next t ∧ t.reg.sampled = s.clk.hub / s.reg.period * s.reg.period ∧
         t.reqs = s.reqs ∧ t.mem = s.mem ∧ t.tree = s.tree ∧
         ∀ e, e < 48 → (entryAt t e).depth = heldDepth s e ∧ (entryAt t e).queue = (entryAt s e).queue ∧
           (entryAt t e).br = (entryAt s e).br ∧ (entryAt t e).depthMax = Nat.max (entryAt s e).depthMax (heldDepth s e) ∧
           (entryAt t e).delayMax = Nat.max (entryAt s e).delayMax (entryAt s e).delayPeak ∧ (entryAt t e).delayN = 0 ∧
           ((entryAt s e).delayN ≠ 0 → s.clk.hub < ((s.reg.sampled / s.reg.period + 1) + 1) * s.reg.period →
             (entryAt t e).delay = (entryAt s e).delaySum / (entryAt s e).delayN)))

/-- URGENCY_LEVEL_CHANGE sets a pair's filtered level after samples of at least 32 ns that all show it, outside chatter and quiet
(R195); URGENCY_CHATTER_START, after more than 16 changes within 1 µs, holds the pair at level 0; URGENCY_CHATTER_END, after 10 µs
without change, releases it with notice 0x8011 (R196). -/
def Obligations.UrgencyInputsAreFiltered : Prop :=
  ∀ (p : Fin 4) (g : Fin 8) (v : Fin 4) (rest : List (Fin 4)) (span changes worst ns : Nat) (s : State), s.released = true →
    s.reg.urgency.length = 32 →
    let u := fun (x : State) => nth x.reg.urgency (pairNo p g) {}
    ((∀ w ∈ rest, w = v) → 32 ≤ span → span ≤ 4 * rest.length → (u s).chatter = false → (portAt s p).quiet = false →
      ∃ t, exec (.urgencyLevelChange p g (v :: rest) span) s = .next t ∧ (u t).level = v.val ∧
        ((u s).level ≠ v.val → (u t).since = s.clk.hub ∧ (u t).demoted = false) ∧
        ((u s).level = v.val → u t = u s) ∧ t.reg.entries = s.reg.entries ∧ t.reqs = s.reqs ∧ t.mem = s.mem) ∧
    (16 < changes →
      ∃ t, exec (.urgencyChatterStart p g changes) s = .next t ∧ (u t).chatter = true ∧ (u t).level = 0 ∧
        changes ≤ (u t).worst ∧ t.reg.entries = s.reg.entries ∧ t.reqs = s.reqs ∧ t.mem = s.mem) ∧
    ((u s).chatter = true → 10000 ≤ ns →
      ∃ t, exec (.urgencyChatterEnd p g worst ns) s = .next t ∧ (u t).chatter = false ∧ (u t).worst = 0 ∧
        (u t).level = (u s).level ∧ t.reg.entries = s.reg.entries ∧ t.reqs = s.reqs ∧ t.mem = s.mem)

/-- REGULATION_WINDOW_BOUNDARY, once hub time has reached the next boundary: recomputed reservations and written values come into
force, every balance is refilled, pairs held too long at level 3 are demoted, and every queue is examined (R190, R197, R207,
R212). The refill adds W times the effective reservation to a balance, of which a debt stays and a surplus is lost; a balance that a
charge has already taken over the boundary is not refilled again (R49).
RESERVATION_SET_WRITE judges a set by Table 7.6: its result stays readable, and an admitted set waits for the boundary after
the write; RESERVATION_SET_ACTIVATE puts it into force there, each entry with its record or as reset where it has none (R205). FLOOR_RECOMPUTE computes effective reservations anew, and they
wait for the next boundary (R206, R207). -/
def Obligations.BoundariesAndReservations : Prop :=
  (∀ s : State, s.released = true → nextBoundary s ≤ s.clk.hub →
     (let s1 := takeWritten (applyRescaled (s.onReg fun r => { r with window := nextBoundary s }))
      exec .regulationWindowBoundary s = .next (keepFixed s true
       (examineAll (demoteUrgency (nextBoundary s) (s1.onReg fun r => { r with entries := r.entries.map (atWindow r.w (nextBoundary s)) }))))) ∧
     (∀ (w n : Nat) (x : RegEntry), 0 < w →
       (x.win = n * w → atWindow w ((n + 1) * w) x = { refill w x with win := (n + 1) * w }) ∧
       (x.win = (n + 1) * w → atWindow w ((n + 1) * w) x = x)) ∧
     ∀ (w : Nat) (x : RegEntry), x.credit = false →
       (refill w x).br = (if x.br < 0 then x.br else 0) + x.eff * w / 1000 ∧ (refill w x).queue = x.queue ∧
       (x.cap ≠ 0 → (refill w x).bt = (if x.bt < 0 then x.bt else 0) + x.cap * w / 1000)) ∧
  (∀ (src : Src) (value : Bytes) (s : State), s.released = true →
     (mayWrite s src 0x3810 0 value = true → (writeReservationSet value (beforeWrite src 0x3810 0 value s)).2 = true →
       exec (.reservationSetWrite src value) s = .next (wrote src 0x3810 0 value (fun x => (writeReservationSet value x).1) s)) ∧
     (∀ x : State, (writeReservationSet value x).1.reg.result = (judgeSet x value).1 ∧
       (writeReservationSet value x).2 = (judgeSet x value).2.isSome ∧ (writeReservationSet value x).1.reg.entries = x.reg.entries ∧
       ∀ w recs, (judgeSet x value).2 = some (w, recs) →
         (writeReservationSet value x).1.reg.pending = some ⟨w, (x.clk.hub / w + 1) * w, recs⟩) ∧
     (∀ set, s.reg.pending = some set → set.at_ ≤ s.clk.hub →
       exec .reservationSetActivate s = .next (keepFixed s true (examineAll (demoteUrgency set.at_ (takeWritten (activateSet set s)))))) ∧
     (∀ (set : ReservationSet) (x : State), (activateSet set x).reg.w = set.w ∧ (activateSet set x).reg.pending = none ∧
       (x.reg.entries.length = 48 → ∀ e, e < 48 →
         let y := entryAt (activateSet set x) e
         let n := look ({} : RegEntry) e set.records
         y.rsv = n.rsv ∧ y.cap = n.cap ∧ y.scope = n.scope ∧ y.priority = n.priority ∧ y.credit = n.credit ∧ y.burst = n.burst ∧
         y.queue = (entryAt x e).queue)) ∧
     (∀ cause : Fin 8, ∃ t, exec (.floorRecompute cause) s = .next t ∧
       t.reg.rescaled = some (cause.val, rescale (floors s) s.reg.entries) ∧ t.reg.entries = s.reg.entries ∧ t.reqs = s.reqs ∧
       t.tree = s.tree ∧ t.mem = s.mem))

/-- CREDIT_POSITIVE and GATE_OPEN examine the queue of an entry whose credit is above 0, or whose gate has opened since its head was last examined, from the head on
(R191, R193, R200): a head that its gate permits and its balances release leaves with its class, and its charge is taken; one that
they hold back stays.
GATE_LIST_WRITE makes a well-formed list wait for its boundary; GATE_LIST_ACTIVATE puts it into force there and examines the
port's queues (R201). -/
def Obligations.GatesAndCredit : Prop :=
  (∀ s : State, s.released = true →
     (∀ e : Fin 48, (entryAt s e).credit = true → 0 < creditOf s (entryAt s e) →
       exec (.creditPositive e) s = .next (keepFixed s true (examine e s))) ∧
     (∀ (p : PortId) (g : Fin 8), (nth s.reg.gates p {}).opened s.clk.hub g (entryAt s (8 * p + g)).seen = true →
       exec (.gateOpen p g) s = .next (keepFixed s true (examine (8 * p + g) s))) ∧
     (∀ (x : State) (e : Nat), examine e x = pumpHub (if 32 ≤ e ∧ e < 40 then examineStuck (examineQueue e x) else examineQueue e x)) ∧
     (∀ (y : State) (e : Nat) (r : Req), ((entryAt y e).queue.head?).bind (reqAt y) = some r → r.op ≠ .fence → r.op ≠ .fullFence →
       let x := updEntry e (fun z => { z with seen := y.clk.hub }) y
       fixedMapOn x = false → e < 40 → gatePermits x (e / 8) (e % 8) = true →
       (∀ cls z, judge x e (releaseCharge x r) = some (cls, z) → (sendOn { r with cls := cls } x).2 = true →
         examineOnce e y = (releaseHead e r cls (updEntry e (fun u => { u with br := z.br, bt := z.bt, v := z.v, win := z.win })
           (sendOn { r with cls := cls } x).1), true)) ∧
       (judge x e (releaseCharge x r) = none → examineOnce e y = (updEntry e (fun z => { z with stuck := false }) x, false)))) ∧
  (∀ (src : Src) (p : PortId) (value : Bytes) (s : State), s.released = true →
     (mayWrite s src 0x3840 (p + 1) value = true →
       (writeGateList p value (beforeWrite src 0x3840 (p + 1) value s)).2 = true →
       exec (.gateListWrite src p value) s = .next (wrote src 0x3840 (p + 1) value (fun x => (writeGateList p value x).1) s)) ∧
     (∀ (l : GateList) (x : State), gateListOf value = some l → x.reg.gateNext.length = 5 → l.cycle ≠ 0 →
       (writeGateList p value x).2 = true ∧ (writeGateList p value x).1.reg.gates = x.reg.gates ∧
       nth (writeGateList p value x).1.reg.gateNext p none = some (l, (x.clk.hub / l.cycle + 1) * l.cycle)) ∧
     (∀ (l : GateList) (at_ : Nat), nth s.reg.gateNext p none = some (l, at_) → at_ ≤ s.clk.hub →
       exec (.gateListActivate p) s = .next (keepFixed s true
         (forEach ((List.range 8).map (8 * p.val + ·)) examine (s.onReg fun r =>
           { r with gates := modNth r.gates p fun _ => l, gateNext := modNth r.gateNext p fun _ => none })))))

/-! ### Writes of objects (chapter 13) -/

/-- A row that writes one object, from a requester that may write it now, has that write's effect: the write is performed as its
object's access, size, values and relations ask, and answered with its status. A write of the wrong size, of a value out of range or
against a relation is rejected with 0x0A and changes nothing; an accepted value of an RW object is the object's
value from then on, and one of an RWS object once the settings store has it (R11, R400, R424). So for OBJECT_WRITE, START_UP_HOLD, SNAPSHOT_START, HOST_DATE_WRITE, GATE_LIST_WRITE, RESERVATION_SET_WRITE,
SAMPLE_CLEAR, HIGH_WATER_CLEAR, the four segment commands, the two scrub commands, the six repair commands, the two test commands,
SHUTDOWN_IN_MODE, SHUTDOWN_IMMEDIATE, RESUME, the quadrant and port resets, holds and releases, SLATE_ENTER, SLATE_LEAVE,
STAGING_CANCEL, OVERFLOW_CLEAR and SETTINGS_STORE_RESET. -/
def Obligations.ObjectRowsRunTheirWrite : Prop :=
  ∀ (i : Instr) (o : ObjectRow) (r : ObjRow) (s : State), objectRow i = some o → s.released = true →
    mayWrite s o.src o.index o.sub o.value = true → objRow o.index o.sub = some r →
    let w := performWrite o.src o.ends o.index o.sub r o.value (beforeWrite o.src o.index o.sub o.value s)
    exec i s = .next (keepFixed s true (afterWrite o.src o.index o.sub o.value w.2 w.1)) ∧
    ∀ x : State,
      ((variableSize o.index).isNone = true → o.value.length ≠ r.size → performWrite o.src o.ends o.index o.sub r o.value x = (x, 0x0A)) ∧
      (isBlobCommand o.index = false → o.index ≠ 0x1123 → o.index ≠ 0x1124 → r.access ≠ 2 →
        ((variableSize o.index).isNone = true → o.value.length = r.size) →
        let v := leNat o.value
        (valueOk x.variant o.index o.sub v = false ∨ relationOk x o.index o.sub v = false →
          performWrite o.src o.ends o.index o.sub r o.value x = (x, 0x0A)) ∧
        (valueOk x.variant o.index o.sub v = true → relationOk x o.index o.sub v = true → isWindow o.index = false → o.index ≠ 0x1210 →
          o.index ≠ 0x7050 →
          objGet (objSet o.index o.sub v x) o.index o.sub = v ∧
          (r.access ≠ 4 → performWrite o.src o.ends o.index o.sub r o.value x = (objSet o.index o.sub v x, 0)) ∧
          (r.access = 4 → let p := persist o.index o.sub r.size v x
            performWrite o.src o.ends o.index o.sub r o.value x = if p.2 then (objSet o.index o.sub v p.1, 0) else (p.1, 0x0A))))

/-- Bytes of a slot that was stored read back as they were stored; every byte outside the slot is unchanged, and the stored
bytes keep their canonical form. -/
def Obligations.StoredSlotsReadBack : Prop :=
  ∀ (c bank row slot : Nat) (v : Slot) (s : State), memWf s.mem = true →
    memWf (putSlot c bank row slot v s).mem = true ∧
    (∀ a, (a < slotAddr c bank row slot ∨ slotAddr c bank row slot + v.bytes.length ≤ a) →
      byteAt (putSlot c bank row slot v s).mem a = byteAt s.mem a) ∧
    (∀ k, k < v.bytes.length → byteAt (putSlot c bank row slot v s).mem (slotAddr c bank row slot + k) = v.bytes.getD k 0)

/-! ### Segments (chapter 3) -/

/-- CREATE, FREE, MODIFY and MOVE are writes of object 0x2010:00 with their command in byte 0. One that its checks pass is
executed, its result 0 is kept for the requester, and the write is done (R68, R494, Tables 3.5 and 3.6). -/
def Obligations.SegmentCommandsRun : Prop :=
  ∀ (src : Src) (c : SegCmd) (i : Instr) (k : Nat) (s : State),
    (i, k) ∈ [(Instr.create src c, 1), (Instr.free src c, 2), (Instr.modify src c, 3), (Instr.move src c, 4)] →
    s.released = true → mayWrite s src 0x2010 0 (segBytes k c) = true →
    (segCommand k c (beforeWrite src 0x2010 0 (segBytes k c) s)).2 = 0 →
    exec i s = .next (wrote src 0x2010 0 (segBytes k c)
      (fun x => updWin (windowOf src) (fun w => { w with result := 0 }) (segCommand k c x).1) s)

/-- What an accepted segment command does to its segment (R69): Create makes an Absent segment Live with the image's fields; Free
makes it Absent and sends its slot back to the allocator; Modify changes domain, pinned, format tag and class of one
that does not move; Move makes it Moving at its place, with a running move to the image's strength, guard and block sum; a rejected
command changes nothing. -/
def Obligations.SegmentCommandsChangeTheirEntry : Prop :=
  ∀ (c : SegCmd) (e : Entry) (x : State), entryOfImage c.image.toNat = some e →
    let n := c.segment.toNat
    let old := curEntry x n
    ((segCommand 1 c x).2 = 0 → let t := (segCommand 1 c x).1
      old.state = .absent ∧ (curEntry t n).state = .live ∧
      (curEntry t n).domain = e.domain ∧ (curEntry t n).strength = e.strength ∧ (curEntry t n).guarded = e.guarded ∧
      (curEntry t n).blockSum = e.blockSum ∧ (curEntry t n).replica = e.replica ∧ (curEntry t n).fmt = e.fmt ∧
      (curEntry t n).pinned = e.pinned) ∧
    ((segCommand 2 c x).2 = 0 → old.state ≠ .absent ∧ (curEntry (segCommand 2 c x).1 n).state = .absent ∧
      ∃ f ∈ (segCommand 2 c x).1.map.freed, f.place = old.place ∧ f.seg = n ∧ f.retire = old.guarded) ∧
    ((segCommand 3 c x).2 = 0 → old.state = .live → (segCommand 3 c x).1.mem = x.mem ∧
      curEntry (segCommand 3 c x).1 n =
        { old with domain := e.domain, pinned := e.pinned, fmt := e.fmt, replica := e.replica, phase := false }) ∧
    ((segCommand 4 c x).2 = 0 → let t := (segCommand 4 c x).1
      old.state ≠ .absent ∧ (curEntry t n).state = .moving ∧ (curEntry t n).place = old.place ∧
      ∃ m ∈ t.map.moves, m.seg = n ∧ m.cause = 1 ∧ m.cursor = 0 ∧ m.source = old.place ∧ m.target.strength = e.strength ∧
        m.target.guarded = e.guarded ∧ m.target.blockSum = e.blockSum ∧ m.target.domain = old.domain) ∧
    (∀ k, (segCommand k c x).2 ≠ 0 → (segCommand k c x).1 = x)

/-- FREED_SLOT_CLEARED clears a freed slot that no request uses and whose quadrants serve and returns it to the allocator, its guard
sets left; MOVE_COMPLETE ends a move whose copies are all done, whose segment has no open Basket line and whose quadrants serve: the
segment is Live at the target, the source is freed with notice 0x2020, the move is over, else only its next copies go on their way;
after either end, moves that wait may start. MAP_REBUILD_COMPLETE ends a pass over the map
with notice 0x2001 and its count of entries, and the pass that waits behind it is the one that runs (R74, R77 to R79, R82, R85, R313).
PLACEMENT_EVALUATION at the end of an evaluation period starts a new period: the segments that qualify
wait in order for at most 64 starts, its samples are taken and its parameters read; with placement off no move of it waits (R81 to
R84). One that qualifies has the least samples, at least the share of one port, may be moved there, and is not held off. -/
def Obligations.SlotsMovesAndPlacement : Prop :=
  (∀ s : State, s.released = true →
     (∀ (k : Nat) (f : Freed), s.map.freed[k]? = some f → (∀ id ∈ f.waits, ∀ r ∈ s.reqs, r.id ≠ id) → quadsServe s f.place = true →
       let s1 := clearPlace f (s.onMap fun m => { m with freed := m.freed.eraseIdx k })
       let s2 := if f.retire then leaveGuard f.place s1 else s1
       exec (.freedSlotCleared k) s = .next (keepFixed s true (startWaiting (if mapOuts s2 = 0 then s2 else fosterNotice s2)))) ∧
     (∀ (n : Nat) (m : Move), let s1 := pumpMove n s
       s1.map.moves.find? (·.seg == n) = some m →
       (m.cursor < 16384 ∨ m.busy.isSome = true ∨ lineOpen s1 n = true ∨ quadsServe s1 m.source = false ∨
         quadsServe s1 m.target.place = false → exec (.moveComplete n) s = .next (keepFixed s true s1)) ∧
       (16384 ≤ m.cursor → m.busy = none → lineOpen s1 n = false → quadsServe s1 m.source = true →
         quadsServe s1 m.target.place = true →
         exec (.moveComplete n) s = .next (keepFixed s true (startWaiting (finishMove n s1))) ∧
         (curEntry (finishMove n s1) n).state = .live ∧ (∀ x ∈ (finishMove n s1).map.moves, x.seg ≠ n) ∧
         (∃ f ∈ (finishMove n s1).map.freed, f.place = m.source ∧ f.seg = n) ∧
         (finishMove n s1).map.moved = (s1.map.moved + 1) % 2 ^ 32)) ∧
     (∀ n : Nat, s.map.rebuild = some n →
       ∃ t, exec .mapRebuildComplete s = .next t ∧ t = keepFixed s true (notify .hub 0x2001 0 (leBytes 4 n) (s.onMap fun m =>
           { m with rebuild := m.later.head?, later := m.later.drop 1, passes := (m.passes + 1) % 2 ^ 32 })) ∧
         t.map.rebuild = s.map.later.head? ∧ t.map.passes = (s.map.passes + 1) % 2 ^ 32 ∧
         t.map.segs = s.map.segs ∧ t.map.foster = s.map.foster ∧ t.mem = s.mem ∧ t.reqs = s.reqs ∧ t.objs = s.objs)) ∧
  (∀ s : State, s.released = true → periodEnd s ≤ s.clk.hub →
     let picks := if objGet s 0x2020 0 = 1 && bit (complexCaps s) 11 then
         (sortBy (fun x => (2 ^ 40 - x.2.2) * 2 ^ 20 + x.1) (qualifying s (placementParams s))).map fun x => (x.1, x.2.1)
       else []
     exec .placementEvaluation s = .next (keepFixed s true (startWaiting (s.onMap fun m => { m with
       samples := [], period := s.clk.hub, queued := picks, starts := 64, params := (List.range 4).map fun i => objGet s 0x2021 (i + 1) }))) ∧
     ∀ x ∈ qualifying s (placementParams s), ∃ counts, (x.1, counts) ∈ s.map.samples ∧ x.2.2 = nth counts x.2.1 0 ∧
       nth (placementParams s) 1 0 ≤ total counts ∧ nth (placementParams s) 0 0 * total counts ≤ 100 * x.2.2 ∧
       movable (curEntry s x.1) x.2.1 = true ∧
       (let t := look 0 x.1 s.map.movedAt; t = 0 ∨ t - 1 + nth (placementParams s) 3 0 * 1000000000 ≤ s.clk.hub))

/-! ### Channels (chapter 5) -/

/-- CHANNEL_QUEUE_ENTRY takes the next granted unit off the tree into its controller, part by part, or as the internal operation it
is; ISSUE_HALF_SLOT issues the first of at most 8 candidates whose spacings are met, or NOP, and the half-slot is over; where only
owed refreshes may issue, its candidates are those; IDLE_CLOSE_TIMEOUT makes an open row due that took no column command for the
time of object 0x3011 (R127, R145 to R147, R152). -/
def Obligations.ChannelsTakeAndIssue : Prop :=
  ∀ (n : Fin 32) (p : Fin 66) (s : State), s.released = true →
    let c := slotNo n p
    (∀ (u : TUnit), nextEntry s c = some u → u.locked = false → u.job = none → u.sects = [] →
      exec (.channelQueueEntry n p) s = .next (keepFixed s true (forEach u.parts (fun x s =>
        match (reqAt s x.1).bind fun r => (r.parts.find? (·.n == x.2)).map fun p => (r, p) with
        | some (r, p) => enterPart r p s
        | none => s) (onUnits (·.filter (·.id != u.id)) s)))) ∧
    (∀ (u : TUnit), nextEntry s c = some u → u.locked = false →
      (∀ j, u.job = some j → exec (.channelQueueEntry n p) s = .next (keepFixed s true (enterJob u j (onUnits (·.filter (·.id != u.id)) s)))) ∧
      (u.job = none → u.sects ≠ [] →
        exec (.channelQueueEntry n p) s = .next (keepFixed s true (enterSects u (onUnits (·.filter (·.id != u.id)) s))))) ∧
    (∀ (u : TUnit) (x : Nat × Nat) (rest : List (Nat × Nat)), nextEntry s c = some u → u.locked = true → u.parts = x :: rest →
      exec (.channelQueueEntry n p) s = .next (keepFixed s true (enterLocked x.1 (onUnits (·.filter (·.id != u.id)) s)))) ∧
    (stageRuns s c = true →
      let s1 := if refreshOnly s c then s else settleUnits c (plan c s)
      let x := chanAt s1 c
      let offered := (candidates s1 c).filter fun k => !refreshOnly s c || k.cmd.isRefresh
      let pick := (offered.take 8).find? fun k => !skips (levelFor s1 n k.favoured) x.slot && legal s1 c x k.cmd
      let s2 := if !x.column && skips (levelFor s1 n true) x.slot then bump 0x8405 (n + 1) 1 s1 else s1
      (pick = none → exec (.issueHalfSlot n p) s = .next (keepFixed s true (nextHalf c s2))) ∧
      (∀ k, pick = some k →
        let s3 := issue c k s2
        let s4 := updChan c (fun y => logWord k.cmd (wrData c x k.cmd s3) (closes x k.cmd) y) s3
        exec (.issueHalfSlot n p) s = .next (keepFixed s true (nextHalf c (if refreshOnly s c then s4 else settleUnits c s4))))) ∧
    (∀ x : State, (candidates x c).Pairwise (fun a b => a.key ≤ b.key) ∧ ∀ k ∈ candidates x c, k.cmd.isRow = !(chanAt x c).column) ∧
    (stageRuns s c = false → exec (.issueHalfSlot n p) s = .next (keepFixed s true (nextHalf c s))) ∧
    (∀ (b : Fin 64) (r : Nat), (bankAt (chanAt s c) b).open_ = some r →
      Nat.max (bankAt (chanAt s c) b).lastCol ((bankAt (chanAt s c) b).actAt.getD 0) + slotsFor s n (slotObj s c 0x3011 0) ≤ (chanAt s c).slot →
      exec (.idleCloseTimeout n p b) s = .next (keepFixed s true
        (planFlush (updChan c (updBank b fun y => { y with due := true }) s) c b)))

/-- REFRESH_DUE, one interval after the last on the slot counter of its PHY, makes one more refresh of a bank owed, up to 8;
ACTIVATION_TOKEN_REFILL gives a bank one token per 128 ns, up to 12,144; HAMMER_EPOCH_BOUNDARY brings the quadrant's count of
boundaries to the 16 ms its time has reached (R48, R49, R156, R160, R162). -/
def Obligations.RefreshesTokensAndEpochs : Prop :=
  ∀ (n : Fin 32) (p : Fin 66) (b : Fin 64) (s : State), s.released = true →
    let c := slotNo n p
    let k := fun (x : State) => bankAt (chanAt x c) b
    (let last := Nat.max (k s).refAt (chanAt s c).refBase
     let i := slotsFor s n (refreshInterval s n)
     (chanAt s c).selfRefresh = false → (stackSlots s n).contains c = true → last + i ≤ (chanAt s c).slot →
      ∃ t, exec (.refreshDue n p b) s = .next t ∧ (k t).owed = (if (k s).owed < 8 then (k s).owed + 1 else (k s).owed) ∧
        (k t).refAt = last + i ∧ (k t).open_ = (k s).open_ ∧ (k t).tokens = (k s).tokens ∧ t.mem = s.mem ∧
        t.reqs = s.reqs) ∧
    ((k s).tokens < 12144 → (k s).tokAt + 128 ≤ quadTime s (quadOfSlot c) →
      ∃ t, exec (.activationTokenRefill n p b) s = .next t ∧ (k t).tokens = (k s).tokens + 1 ∧ (k t).tokAt = (k s).tokAt + 128 ∧
        (k t).open_ = (k s).open_ ∧ (k t).owed = (k s).owed ∧ t.mem = s.mem ∧ t.reqs = s.reqs) ∧
    (∀ q : Fin 4, s.quads.length = 4 → ((quadAt s q).epochs + 1) * 16000000 ≤ quadTime s q →
      ∃ t, exec (.hammerEpochBoundary q) s = .next t ∧ (quadAt t q).epochs = quadTime s q / 16000000 ∧ t.mem = s.mem ∧ t.reqs = s.reqs)

/-- READ_BURST_RETURN takes the oldest burst, with the bits that lanes changed, once its last beat is there; MISSING_BURST_TIMEOUT
takes one that did not come, and recovers its read by an escalation; ESCALATION_COMPLETE decodes a row whose reads are back; CA_ALERT
has every controller of the stack read SW31, and the one whose error word is set keeps that word's count; where its ERRCLR clears it,
it counts the replay and sends every word from the failed one on again (R128, R129, R134 to R136, R224). -/
def Obligations.BurstsReturn : Prop :=
  ∀ (n : Fin 32) (p : Fin 66) (s : State), s.released = true →
    let c := slotNo n p
    let x := chanAt s c
    (∀ (b : Burst) (rest : List Burst) (noise : Bytes), x.bursts = b :: rest → b.back ≤ x.slot →
      exec (.readBurstReturn n p noise) s = .next (keepFixed s true (settleUnits c
        (burstArrives c b (slotOf (xorBytes b.raw.bytes (padTo 36 noise))) (updChan c (fun x => { x with bursts := rest }) s))))) ∧
    (∀ (b : Burst) (rest : List Burst) (id seq : Nat), x.bursts = b :: rest → b.why = .rd id seq →
      b.back + slotsFor s n (120 * (stackAt s n).step) ≤ x.slot + 1 →
      let now := quadTime s (quadOfSlot c)
      let s1 := recovered (300 * (stackAt s n).step) (updChan c (fun x => { x with bursts := rest, misses := lastSecond now x.misses ++ [now] }) s)
      exec (.missingBurstTimeout n p) s = .next (keepFixed s true (escalate ⟨c, (channelOf s1 c).getD 0, b.bank, b.row⟩ [seq] s1))) ∧
    (∀ u : ChanUnit, x.units.find? (·.kind == .escalation) = some u → u.cmds = [] → u.asked ≤ u.got.length →
      exec (.escalationComplete n p) s = .next (keepFixed s true (settleUnits c
        (finishEscalation ⟨c, (channelOf s c).getD 0, u.bank, u.row⟩ u s)))) ∧
    (let slots := (stackSlots s n).filter fun k => !(chanAt s k).selfRefresh
     let read := fun (y : State) => forEach slots (fun k y => sendNow k (.swr 31) y) y
     (∀ clears, exec (.caAlert n none clears) s = .next (keepFixed s true (read s))) ∧
     (∀ count : Nat, slots.contains c = true →
       let first := (x.caError.getD count)
       let s1 := read (updChan c (fun y => { y with caError := some (first % 256) }) s)
       exec (.caAlert n (some (p, count)) false) s = .next (keepFixed s true s1) ∧
       exec (.caAlert n (some (p, count)) true) s = .next (keepFixed s true (recovered (300 * (stackAt s1 n).step)
         (countReplay c (let s2 := sendNow c .errclr s1; updChan c (replayFrom (halfOfCount x first) s2 n) s2))))))

/-- REST_STOP_DUE and, once 256 ms of deferral have passed, REST_STOP_DEFERRAL_END make a slot ask for its stack's token;
REST_STOP stops the slot that holds it: a free token is given at once, and is passed to the asking slot with the next higher number
that still has a use for it;
REST_STOP_END lets the slot go on, with a new interval, and passes the token; high drift in four rest stops in a row at the shortest
interval makes the worst lane due, with notice 0x3030 (R164 to R167). -/
def Obligations.SlotsRest : Prop :=
  ∀ (n : Fin 32) (p : Fin 66) (drift worst : Nat) (eyes : List (Nat × Nat)) (s : State), s.released = true → s.stk.length = 32 →
    let c := slotNo n p
    (restReady s c = true → (stackSlots s n).contains c = true →
      ((stackAt s n).step = 1 → exec (.restStopDue n p) s = .next (keepFixed s true (askToken n p s))) ∧
      ((stackAt s n).step ≠ 1 → exec (.restStopDeferralEnd n p) s = .next (keepFixed s true (askToken n p s)))) ∧
    (restReady s c = true ↔ restDue s c = true ∧ slotUnderTest s c = false ∧ (chanAt s c).selfRefresh = false ∧
      ((stackAt s (stackOf c)).step = 1 ∨ (stackAt s (stackOf c)).deferFrom + 256000000 ≤ quadTime s (quadOfSlot c))) ∧
    ((stackAt s n).token = none → (stackAt s n).asks = [] → (stackAt (askToken n p s) n).token = some p.val) ∧
    ((stackAt s n).token = some p.val → (chanAt s c).inRest = false → quiescent (chanAt s c) = true → restReady s c = true →
      exec (.restStop n p) s = .next (keepFixed s true (updChan c (fun x => { x with inRest := true }) (stopChannel c s)))) ∧
    ((chanAt s c).inRest = true → (chanAt s c).selfRefresh = false →
      let run := if (chanAt s c).interval = 4000 ∧ 8 ≤ drift then (chanAt s c).highRun + 1 else 0
      let ended := fun (high : Nat) =>
        let s1 := trainDone c (updStack n (fun t => { t with rests := t.rests + 1 }) (updChan c (fun x => { x with
          inRest := false, owesRest := false, lastRest := quadTime s (quadOfSlot c),
          interval := nextInterval (1000 * slotObj s c 0x3050 1) drift x.interval, highRun := high }) s))
        dueLanes c 2 (narrowLanes s1 c eyes) s1
      (run ≠ 4 → exec (.restStopEnd n p drift worst eyes) s = .next (keepFixed s true (passToken n p (ended run)))) ∧
      (run = 4 →
        let d := noticeChannel c (dueLanes c 3 [worst] (ended 0))
        exec (.restStopEnd n p drift worst eyes) s = .next (keepFixed s true (passToken n p
          (notify (medOfSlot c) 0x3030 1 (leBytes 2 d.1 ++ leBytes 1 p ++ leBytes 1 (Nat.min 255 drift)) d.2))))) ∧
    (∀ longest i, nextInterval longest drift i = (let j := Nat.min longest i
      if 4 ≤ drift then Nat.max 4000 (j / 2) else if drift ≤ 1 then Nat.min longest (2 * j) else j)) ∧
    ((stackAt s n).asks = [] → (stackAt (passToken n p s) n).token = none) ∧
    (∀ k, (stackAt s n).asks = [k] → wantsToken s (slotNo n k) = true → (stackAt (passToken n p s) n).token = some k ∧ (stackAt (passToken n p s) n).asks = [])

/-! ### Temperatures, power, shutdown (chapter 12) -/

/-- TEMPERATURE_READOUT of an enabled, qualified stack, in a new millisecond of its quadrant's time, takes its scheduled readout, the
repeat where the first is not good; it calibrates the stack's estimate with a good one, unless its quadrant has no route to the hub.
DIVISION_LOWER_HOLD_EXPIRY brings a governed stack to its wanted level; FLASK_ALLOWANCE_ENDED ends an allowance that an event ended,
applies the deferred level, says so in 0x6010 and 0x6022 and counts a limit that came early; JUNCTION_READ judges the reading of each
die within reach, every 100 µs; SUPPLY_FAULT of at least 1 µs shuts the complex down at once with cause 4, a shorter one does
nothing (R142, R143, R366, R371, R375, R380, R382, R450).
METER_REPORT, one period of 100 µs of its die's time after the last, records the power of a die within reach, the sum over its
supplies of voltage times mean current, keeps the mean currents and adds its energy; the hub monitors vdd_core alone; with a MED's
report go those of its enabled stacks. GOVERNOR_STEP, one step of 100 µs after the last of a ready complex, reads the
envelope and the thresholds anew, steps the power level, the estimates, the thermal levels and the levels of all stacks, and
judges shutdown (R360, R363, R365, R367, R369). -/
def Obligations.TemperaturesMetersAndGovernor : Prop :=
  (∀ (n : Fin 32) (s : State), s.released = true →
     (∀ (first repeated : TempFrame), (stackAt s n).readMs < quadTime s (n.val / 8) / 1000000 → s.variant.enables n.val = true →
       (stackAt s n).qualified = true →
       let r := takeReadout n first repeated s
       r.2.1 = (frameTemp first).or (frameTemp repeated) ∧ r.2.2 = true ∧
       ((quadAt r.1 (n.val / 8)).offCause = 2 → exec (.temperatureReadout n first repeated) s = .next (keepFixed s true r.1)) ∧
       ((quadAt r.1 (n.val / 8)).offCause ≠ 2 → r.2.1 = none →
         exec (.temperatureReadout n first repeated) s = .next (keepFixed s true (noteCool r.1))) ∧
       (∀ x : Int, (quadAt r.1 (n.val / 8)).offCause ≠ 2 → r.2.1 = some x →
         exec (.temperatureReadout n first repeated) s = .next (keepFixed s true (noteCool
           (let c := judgeDivergence n ((x : Rat) / 4 - (heatAt r.1 n).est)
             (updHeat n (fun h => { h with amb := h.amb + ((x : Rat) / 4 - (heatAt r.1 n).est) / 8, est := (x : Rat) / 4 }) r.1)
           if shutdownAt c n ≤ (x : Rat) / 4 then triggerShutdown (stackTrigger c n 1 x) c else c))))) ∧
     ((governed s).contains n.val = true →
       exec (.divisionLowerHoldExpiry n) s = .next (keepFixed s true (publishing (applyLevel n) s))) ∧
     (∀ (at_ cause : Nat), (heatAt s n).flask = some at_ → flaskEvent s n at_ = some cause →
       let s0 := publishing (fun s => applyLevel n (updHeat n (fun h => { h with flask := none }) s)) s
       let s1 := saidThrottle n
         (if cause = 3 then s0.onPower fun w => { w with flaskTotals := w.flaskTotals.modify 2 (· + 1) } else s0)
       exec (.flaskAllowanceEnded n) s = .next (keepFixed s true
         (notify .hub 0x6022 0 (leBytes 1 n ++ leBytes 1 cause ++ leBytes 4 (Nat.min (2 ^ 32 - 1) (s1.clk.hub - at_))) s1))) ∧
     (s.power.junctionAt + 100000 ≤ s.clk.hub → ∀ temps : List Int,
       let s1 := s.onPower fun w => { w with junctionAt := s.power.junctionAt + 100000 }
       exec (.junctionRead temps) s = .next (keepFixed s true
         (forEach (((temps.take 5).zipIdx).filter fun x => x.2 = 0 || !cutOff s1 (x.2 - 1)) (fun x s => judgeJunction x.2 x.1 s) s1))) ∧
     (∀ (die : Die) (ns : Nat),
       (1000 ≤ ns → exec (.supplyFault die ns) s =
         .next (keepFixed s true (triggerShutdown { cause := 4, source := dieCode die, force := true } s))) ∧
       (ns < 1000 → exec (.supplyFault die ns) s = .next s)) ∧
     ∀ (x : State) (die : Die), x.power.shutdown = 0 →
       (triggerShutdown { cause := 4, source := dieCode die, force := true } x).power.shutdown = 4) ∧
  (∀ s : State, s.released = true →
     (∀ (die : Die) (core phy pll : Supply), nth s.power.dieAt (dieNo die) 0 + 100000 ≤ dieTime s die →
       (∀ q : Fin 4, die = .med q → cutOff s q = false) →
       let watts := fun (x : Supply) => ((x.millivolts * x.milliamps : Nat) : Rat) / 1000000
       let p := watts core + (if die = .hub then 0 else watts phy + watts pll)
       let s1 := s.onPower fun w => { w with
         dieAt := modNth w.dieAt (dieNo die) fun _ => nth s.power.dieAt (dieNo die) 0 + 100000,
         die := modNth w.die (dieNo die) (keepTen p),
         currents := modNth w.currents (dieNo die) fun _ => [core.milliamps, phy.milliamps, pll.milliamps],
         phyReady := if (nth w.phy (dieNo die) []).isEmpty || !isReady s then modNth w.phyReady (dieNo die) fun _ => watts phy else w.phyReady,
         phy := modNth w.phy (dieNo die) (keepTen (watts phy)),
         energy := w.energy + p / 10 }
       (die = .hub → exec (.meterReport die core (phy, pll)) s = .next (keepFixed s true s1)) ∧
       ∀ q : Fin 4, die = .med q → exec (.meterReport die core (phy, pll)) s = .next (keepFixed s true
         (forEach (((List.range 8).map (8 * q.val + ·)).filter s.variant.enables) reportStack s1))) ∧
     (∀ core phy pll : Supply, nth s.power.dieAt 0 0 + 100000 ≤ s.clk.hub → s.power.dieAt.length = 5 → s.power.die.length = 5 →
       ∃ t, exec (.meterReport .hub core (phy, pll)) s = .next t ∧ nth t.power.dieAt 0 0 = nth s.power.dieAt 0 0 + 100000 ∧
         t.power.energy = s.power.energy + ((core.millivolts * core.milliamps : Nat) : Rat) / 1000000 / 10 ∧
         nth t.power.die 0 [] = keepTen (((core.millivolts * core.milliamps : Nat) : Rat) / 1000000) (nth s.power.die 0 []) ∧
         t.power.heat = s.power.heat ∧ t.reqs = s.reqs ∧ t.mem = s.mem ∧ t.objs = s.objs) ∧
     (s.power.stepAt + 100000 ≤ s.clk.hub → isReady s = true →
       let s1 := s.onPower fun w => { w with
         stepAt := w.stepAt + 100000, envelope := objGet s 0x6001 0, thresholds := (objGet s 0x6010 1, objGet s 0x6010 2) }
       let s2 := setPowerLevel (nextPowerLevel s1) s1
       let s3 := forEach ((modelled s2).map fun n => (n, nextEst s2 n)) (fun e s => updHeat e.1 (fun h => { h with est := e.2 }) s) s2
       let s4 := applyLevels (forEach (modelled s3) judgeThermal s3)
       let s5 := if published s4 = published s1 then s4 else recompute 3 s4
       exec .governorStep s = .next (keepFixed s true (forEach (modelled s5) judgeShutdown s5))))

/-- SHUTDOWN_IN_MODE and SHUTDOWN_IMMEDIATE write 1 and 2 to object 0x6031:00, which shut the complex down with cause 3, in the mode
of object 0x6030 or at once; an immediate shutdown leaves state 4, an orderly one state 3, and neither a request waiting. RESUME
writes 1 to object 0x6032:00, accepted in state 3 of the complex once every stack has been cool for 1 s; RESUMED brings every slot
out of self-refresh and trained, ends the resume and says so in notice 0x6031 with its milliseconds (R382 to R386). -/
def Obligations.ShutdownAndResume : Prop :=
  ∀ (src : Src) (s : State), s.released = true →
    (mayWrite s src 0x6031 0 [1] = true →
      exec (.shutdownInMode src 1) s = .next (wrote src 0x6031 0 [1] (triggerShutdown { cause := 3, force := false }) s)) ∧
    (mayWrite s src 0x6031 0 [2] = true →
      exec (.shutdownImmediate src 2) s = .next (wrote src 0x6031 0 [2] (triggerShutdown { cause := 3, force := true }) s)) ∧
    (∀ x : State, x.power.shutdown = 0 →
      (triggerShutdown { cause := 3, force := true } x).power.shutdown = 4 ∧
      (triggerShutdown { cause := 3, force := true } x).reqs = [] ∧
      (objGet x 0x6030 0 = 1 → (triggerShutdown { cause := 3, force := false } x).power.shutdown = 4) ∧
      (objGet x 0x6030 0 ≠ 1 → (triggerShutdown { cause := 3, force := false } x).power.shutdown = 3 ∧
        (triggerShutdown { cause := 3, force := false } x).reqs = [])) ∧
    (mayWrite s src 0x6032 0 [1] = true → resumeAllowed (beforeWrite src 0x6032 0 [1] s) = true →
      exec (.resume src 1) s = .next (wrote src 0x6032 0 [1] beginResume s)) ∧
    (∀ x : State, resumeAllowed x = true → x.power.shutdown = 3 ∧ (∃ t, x.power.coolSince = some t ∧ t + 1000000000 ≤ x.clk.hub) ∧
      (beginResume x).power.shutdown = 5 ∧ (beginResume x).power.resumeAt = x.clk.hub) ∧
    (s.power.shutdown = 5 → ∃ t, exec .resumed s = .next t ∧ t.power.shutdown = 0 ∧
      let s1 := (forEach (List.range 4) (fun q s => forEach (quadSlots s q) (fun c s => trainDone c (leaveSelfRefresh c s)) s) s).onPower
        fun w => { w with shutdown := 0 }
      t = keepFixed s true (notify .hub 0x6031 0 (leBytes 4 ((s1.clk.hub - s1.power.resumeAt) / 1000000)) s1))

/-! ### Engines (chapter 9) -/

/-- DESCRIPTOR_START begins the next descriptor of a chain whose engines run: it is counted and listed with what it needs to run, or
fails at once with its least error; a type from 5 to 14, and one past 65,536, fail the chain. CONTINUE_DESCRIPTOR issues the reads of
the chain's next block and takes it once it is there, END_DESCRIPTOR ends the chain; either fails it with 0x01 where it is malformed. OUTING_COMPLETE closes an outing that is
over: its place is free, and the heads and the held requests that wait try again (R261 to R264, R266, R294). -/
def Obligations.ChainsRunTheirDescriptors : Prop :=
  ∀ (q : Fin 4) (slot : Nat) (s : State) (o : Outing), s.released = true → outingAt s q slot = some o →
    (∀ bs : Bytes, nextDesc o = some bs → engineRuns s q = true →
      (1 ≤ field bs 0 1 → field bs 0 1 ≤ 4 → o.started < 65536 → (o.active.filter (!·.ended)).length < 4 →
        (bit (field bs 1 1) 1 = true → ∀ a ∈ o.active, a.ended = true ∧ a.writes = [] ∧ a.due = []) →
        exec (.descriptorStart q slot) s = .next (keepFixed s true (beginDesc q slot o bs s)) ∧
        let err := if field bs 0 1 = 1 then hamperError s o.domain bs else if field bs 0 1 = 2 then ramblerError s bs
          else if field bs 0 1 = 3 then transcodeError s o.domain bs else blockCheckError s o.domain bs
        ∃ a : Active, a.index = o.started ∧ a.bytes = bs ∧ a.timeout = objGet s 0x4810 0 ∧ a.ringWait = objGet s 0x4811 0 ∧
          a.progress = quadTime s q ∧ a.ended = false ∧ a.error = 0 ∧ a.writes = [] ∧ a.due = [] ∧
          let s1 := updOuting q slot (fun o => { o with pc := o.pc + 1, started := o.started + 1, active := o.active ++ [a] }) s
          (err = 0 → beginDesc q slot o bs s = s1) ∧ (err ≠ 0 → beginDesc q slot o bs s = stopDesc q slot o.started err s1)) ∧
      (5 ≤ field bs 0 1 → field bs 0 1 ≤ 14 → exec (.descriptorStart q slot) s = .next (keepFixed s true
        (chainFailure q slot 1 (bit (field bs 1 1) 0) (updOuting q slot (fun o => { o with pc := o.pc + 1 }) s)))) ∧
      (1 ≤ field bs 0 1 → field bs 0 1 ≤ 4 → 65536 ≤ o.started →
        exec (.descriptorStart q slot) s = .next (keepFixed s true (chainFailure q slot 9 true s))) ∧
      (field bs 0 1 = 0xF →
        let at_ := field bs 8 8
        let n := field bs 16 1
        (1024 ≤ o.continues → exec (.continueDescriptor q slot) s = .next (keepFixed s true (chainFailure q slot 9 true s))) ∧
        (o.continues < 1024 →
          let formed := zeros bs 1 7 && addrOk bs 8 64 && decide (1 ≤ n) && decide (n ≤ 64) && zeros bs 17 47
          (formed = false → exec (.continueDescriptor q slot) s = .next (keepFixed s true (chainFailure q slot 1 true s))) ∧
          (formed = true → fetched s q slot continueIndex offsetKey at_ (64 * n) = none →
            exec (.continueDescriptor q slot) s = .next (keepFixed s true (fetch q slot continueIndex offsetKey at_ (64 * n) s))) ∧
          (∀ r, formed = true → fetched s q slot continueIndex offsetKey at_ (64 * n) = some r →
            let s1 := dropFetches q slot (·.idx = continueIndex) s
            (r.err = 0 → r.poison = false → exec (.continueDescriptor q slot) s = .next (keepFixed s true (updOuting q slot (fun o =>
              { o with block := (List.range n).map (fun j => slice r.bytes (64 * j) 64), pc := 0, continues := o.continues + 1 }) s1))) ∧
            (r.err ≠ 0 → exec (.continueDescriptor q slot) s = .next (keepFixed s true (chainFailure q slot r.err true s1))) ∧
            (r.err = 0 → r.poison = true → exec (.continueDescriptor q slot) s = .next (keepFixed s true (chainFailure q slot 0xD true s1)))))) ∧
      (field bs 0 1 = 0 →
        exec (.endDescriptor q slot) s = .next (keepFixed s true (updOuting q slot (fun o => { o with pc := o.pc + 1, chainEnd := true })
          (if zeros bs 1 63 = true then s else chainFailure q slot 1 false s))))) ∧
    (outingOver s q slot o = true →
      exec (.outingComplete q slot) s = .next (keepFixed s true (wakeHeld o.port (retryHeads (closeOuting q slot o s)))) ∧
      (closeOuting q slot o s).engines.outings = s.engines.outings.filter (·.1 != (q.val, slot)))

/-- While its quadrant's engines run and its outing is heard, an active descriptor advances by a step, and what it has to write is
issued. HAMPER_DESCRIPTOR reads the offsets, indices, weights and rows of its bags and makes the partials of one whose rows are
there; BAG_MERGE writes the row of one whose partials are there and drops it; RAMBLER_DESCRIPTOR takes a walk slot, begins and
walks; TRANSCODE_COPY_DESCRIPTOR reads rows and converts one that is there; BLOCK_CHECK_DESCRIPTOR reads a block and checks it: each
goes on to the next one, ends with its last, and ends with the error it meets (R274 to R285).
PRODUCED_WORD_UPDATE writes the produced word of the next chunk that is visible, and at the walk's end its total; CONSUMED_WORD_POLL
of a blocked walk reads the consumed word again, at most once per 1 µs, and takes it once it is there: one that stands below the last
or above what was produced ends the walk with 0x0C; DESCRIPTOR_TIMEOUT stops a descriptor that made no progress for its limit, with
error 0x0A and notice 0x8021; while its walk waits for the consumed word, its ring-wait limit (R280, R293). -/
def Obligations.EnginesAdvance : Prop :=
  (∀ (q : Fin 4) (slot index : Nat) (s : State) (o : Outing) (a : Active), s.released = true → activeAt s q slot index = some (o, a) →
     engineRuns s q = true → o.silent = false →
     (field a.bytes 0 1 = 1 →
       exec (.hamperDescriptor q slot index) s = .next (keepFixed s true (pumpDue (hamperStep q slot a s))) ∧
       let reading := a.bags.filter fun b => !b.ready && b.ix.isSome
       (∀ b rs, (reading.findSome? fun b => (bagRows s q slot a b).map fun rs => (b, rs)) = some (b, rs) →
         hamperStep q slot a s = makePartials q slot a b rs s) ∧
       (a.bags = [] → a.nextBag < field a.bytes 20 4 → bagsInFlight s < 256 →
         hamperStep q slot a s = bagControl q slot a a.nextBag (updActive q slot a.index (fun x =>
           { x with bags := x.bags ++ [{ index := a.nextBag }], nextBag := x.nextBag + 1 }) s)) ∧
       ∀ (b : Nat) (x : State),
         let at_ := field a.bytes 24 8 + 4 * b
         (fetched x q slot a.index offsetKey at_ 8 = none →
           bagControl q slot a b x = fetchArray q slot a.index offsetKey at_ 8 x) ∧
         ∀ r, fetched x q slot a.index offsetKey at_ 8 = some r →
           (r.err ≠ 0 → bagControl q slot a b x = stopDesc q slot a.index r.err x) ∧
           (r.err = 0 → r.poison = false → field r.bytes 4 4 < field r.bytes 0 4 →
             bagControl q slot a b x = stopDesc q slot a.index 1 x)) ∧
     (∀ (bag : Nat) (b : Bag), a.bags.find? (fun b => b.index == bag && b.ready) = some b → mergeInFlight s < 1024 →
       exec (.bagMerge q slot index bag) s = .next (keepFixed s true (pumpDue (mergeBag q slot index a b s))) ∧
       let out := field a.bytes 3 1
       let n := outputRow out (field a.bytes 6 2)
       let at_ := field a.bytes 48 8 + b.index * field a.bytes 56 4
       let v := if b.count = 0 then List.replicate (field a.bytes 6 2) (FVal.fin false 0) else poolBag (field a.bytes 2 1) s.draw b
       let row := narrowRow out ((roundingOf (field a.bytes 60 1)).getD ⟨false, false⟩) (nth a.rng 4 1) v
       let s1 := updActive q slot index (fun x => { x with
         bags := x.bags.filter (·.index != b.index), rng := x.rng.set 4 (if b.poisoned then nth x.rng 4 1 else row.2) })
         { s with draw := s.draw + 1 }
       let s2 := if rowInSegment at_ n then
           addDue q slot index { entry := 45, addr := at_, stream := 0, data := if b.poisoned then List.replicate n 0 else row.1,
                                 poison := b.poisoned, fmt := some out }
             (if b.poisoned then updOuting q slot (fun o => { o with poisoned := o.poisoned + 1 }) s1 else s1)
         else failDesc q slot index 1 s1
       ∀ y x, activeAt s2 q slot index = some (y, x) → mergeBag q slot index a b s =
         if x.bags.isEmpty && decide (field a.bytes 20 4 ≤ x.nextBag) then endDesc q slot index s2 else s2) ∧
     (field a.bytes 0 1 = 2 →
       (a.walk = none → walksActive s q < 64 →
         exec (.ramblerDescriptor q slot index) s = .next (keepFixed s true (updActive q slot index (fun x => { x with walk := some {} }) s))) ∧
       (∀ w, a.walk = some w → w.finished = false →
         (w.begun = false → trackerRoom s q = true →
           exec (.ramblerDescriptor q slot index) s = .next (keepFixed s true (pumpDue (beginWalk q slot a s)))) ∧
         (w.begun = true → w.polling = true →
           exec (.ramblerDescriptor q slot index) s = .next (keepFixed s true (pumpDue (takeConsumed q slot a w s)))) ∧
         (w.begun = true → w.polling = false →
           exec (.ramblerDescriptor q slot index) s = .next (keepFixed s true (pumpDue (walkStep q slot a w s))) ∧
           (w.rest ≠ [] → w.ahead = [] → walkStep q slot a w s = ringStep q slot a w s) ∧
           (w.rest = [] → w.ahead = [] → walkSpent a w = true →
             walkStep q slot a w s = updWalk q slot a.index (fun w => { w with finished := true }) s) ∧
           (w.rest = [] → w.ahead = [] → walkSpent a w = false → walkStep q slot a w s = nextToken q slot a w s)))) ∧
     (field a.bytes 0 1 = 3 →
       exec (.transcodeCopyDescriptor q slot index) s = .next (keepFixed s true (pumpDue (transcodeStep q slot a s))) ∧
       (∀ row r, rowReady s q slot a = some (row, r) →
         transcodeStep q slot a s = transcodeRow q slot a row r { s with draw := s.draw + 1 }) ∧
       ∀ (row : Nat) (r : EngRead) (x : State),
         let out := field a.bytes 2 1
         let e := field a.bytes 4 2
         let d := transcodeDest a row
         let err := if r.err ≠ 0 then r.err else if rowInSegment d.1 d.2 then 0 else 1
         (err ≠ 0 → r.err = 0 ∨ rowInSegment d.1 d.2 = true → transcodeRow q slot a row r x = stopDesc q slot a.index err x) ∧
         (err = 0 → r.poison = false →
           let v := convertRow (a.fmt.getD 0) out e ((roundingOf (field a.bytes 3 1)).getD ⟨false, false⟩) (nth a.rng q 1) r.bytes
           let x1 := addDue q slot a.index { entry := 40 + q, addr := d.1, stream := 0, data := v.1, fmt := some out }
             (updActive q slot a.index (fun y => { y with rows := y.rows.filter (· ≠ row), rng := y.rng.set q v.2 })
               (dropFetches q slot (fun f => f.idx = a.index && f.key = rowKey row) x))
           transcodeRow q slot a row r x =
             if field a.bytes 24 4 ≤ a.row && (a.rows.filter (· ≠ row)).isEmpty then endDesc q slot a.index x1 else x1)) ∧
     (field a.bytes 0 1 = 4 →
       let at_ := field a.bytes 8 8 + a.row * 65536
       (fetched s q slot index (rowKey a.row) at_ 65536 = none → exec (.blockCheckDescriptor q slot index) s =
         .next (keepFixed s true (fetch q slot index (rowKey a.row) at_ 65536 s))) ∧
       (∀ r, fetched s q slot index (rowKey a.row) at_ 65536 = some r →
         exec (.blockCheckDescriptor q slot index) s = .next (keepFixed s true (checkBlock q slot a r s)) ∧
         (r.err ≠ 0 → checkBlock q slot a r s = stopDesc q slot a.index r.err s) ∧
         (r.err = 0 → (curEntry s (at_ / 2 ^ 22)).blockSum = false → checkBlock q slot a r s = stopDesc q slot a.index 4 s) ∧
         (r.err = 0 → (curEntry s (at_ / 2 ^ 22)).blockSum = true →
           let bad := !r.poison && crc32c r.bytes != readBlockWord s (curEntry s (at_ / 2 ^ 22)).place (at_ % 2 ^ 22 / 65536)
           let s1 := updActive q slot a.index (fun x => { x with row := x.row + 1 }) (updOuting q slot (fun o =>
             { o with poisoned := o.poisoned + b2n r.poison, mismatch := o.mismatch + b2n bad }) (dropFetches q slot (fun f => f.idx = a.index) s))
           checkBlock q slot a r s = if bad && bit (field a.bytes 1 1) 0 then stopDesc q slot a.index 0xB s1
             else if field a.bytes 16 4 ≤ a.row + 1 then endDesc q slot a.index s1 else s1)))) ∧
  (∀ (q : Fin 4) (slot index : Nat) (s : State) (o : Outing) (a : Active), s.released = true → activeAt s q slot index = some (o, a) →
     o.silent = false →
     (∀ w : Walk, a.walk = some w → engineRuns s q = true → w.begun = true →
       let chunk := field a.bytes 36 4
       let v := visibleStream a w
       exec (.producedWordUpdate q slot index) s = .next (keepFixed s true (pumpDue (produceStep q slot a w s))) ∧
       (w.finished = false → w.produced + chunk ≤ v → produceStep q slot a w s = writeProduced q slot a (w.produced + chunk) s) ∧
       (w.finished = true → v = w.stream → w.produced < v → v < w.produced + chunk →
         produceStep q slot a w s = endDesc q slot a.index (writeProduced q slot a v s)) ∧
       (v < w.produced + chunk → (w.finished = true → v ≠ w.stream) → produceStep q slot a w s = s)) ∧
     (∀ w : Walk, a.walk = some w → engineRuns s q = true → w.blocked = true → w.finished = false →
       (w.polling = false → w.polledAt + 1000 ≤ quadTime s q →
         exec (.consumedWordPoll q slot index) s = .next (keepFixed s true (readConsumed q slot a s)) ∧
         (trackerRoom s q = true → readConsumed q slot a s = updWalk q slot a.index (fun w =>
           { w with polling := true, polledAt := quadTime s q }) (fetch q slot a.index consumedKey (field a.bytes 48 8) 8
             (dropFetches q slot (fun f => f.idx = a.index && f.key = consumedKey) s)))) ∧
       (w.polling = true → exec (.consumedWordPoll q slot index) s = .next (keepFixed s true (takeConsumed q slot a w s)) ∧
         ∀ r, fetched s q slot a.index consumedKey (field a.bytes 48 8) 8 = some r → r.err = 0 →
           (leNat r.bytes < w.consumed ∨ w.produced < leNat r.bytes → takeConsumed q slot a w s = cutWalk q slot a.index 0xC s) ∧
           (w.consumed < leNat r.bytes → leNat r.bytes ≤ w.produced → takeConsumed q slot a w s = updWalk q slot a.index (fun w =>
             { w with polling := false, consumed := leNat r.bytes, blocked := w.blocked && decide (leNat r.bytes = w.consumed) }) s))) ∧
     (∀ blocked : Bool, blocked = (a.walk.map (·.blocked)).getD false → (∀ w, a.walk = some w → w.finished = false) →
       a.progress + (if blocked then a.ringWait else a.timeout) * 1000000 ≤ quadTime s q →
       exec (.descriptorTimeout q slot index) s = .next (keepFixed s true
         (notify (.med q) 0x8021 1 (leBytes 1 (o.port + 1) ++ leBytes 2 o.tag ++ leBytes 4 index ++ leBytes 1 (if blocked then 2 else 1))
           (timeOut q slot a s))) ∧
       timeOut q slot a s = (if (a.walk.map (·.begun)).getD false then cutWalk q slot a.index 0xA s else stopDesc q slot a.index 0xA s)))

/-! ### Scrub, rehoming, repair, records (chapters 8 and 11) -/

/-- SCRUB_DEFINE and SCRUB_STOP are writes of object 0x4020:00 with 1 and 2 in byte 0, judged by Table 8.7: one that is judged good is
accepted, any other is rejected with its result. A pass that is defined takes the lowest free identifier and begins: it runs, with
the channels of its scope that no skip excludes at row 0. A stop of a running pass ends it as stopped, and of one that waits drops
it. SCRUB_PASS_END ends a running pass whose channels are done: its blocks verified where asked, its summary kept and journaled, a
notice of its outcome sent, and a pass without repeat is no longer defined. SCRUB_REPEAT_START begins a pass that waits again, one
repeat interval after its start (R249 to R253).
SCRUB_ROW_UNIT: a running pass whose turn a channel is, paced by its duration, raises the request of the channel's next touched row
in its scope at the channel arbiter, and reads that row once the request is granted, the row may be opened and no command of a
class before scrub's is offered; it counts the rows it passed over; the unit counts the row, its symbols or its failure, and where asked the
sectors of the pass's epoch that a port wrote, keeps the worst row, and without repair does no more. A channel without a further row is done; one that the pass skips is counted as skipped (R250 to R252). -/
def Obligations.ScrubPassesRun : Prop :=
  (∀ (src : Src) (value : Bytes) (s : State), s.released = true →
     (∀ (i : Instr) (k : Nat), (i, k) ∈ [(Instr.scrubDefine src value, 1), (Instr.scrubStop src value, 2)] →
       let bs := leBytes 1 k ++ value.drop 1
       mayWrite s src 0x4020 0 bs = true → (writeScrub bs (beforeWrite src 0x4020 0 bs s)).2 = true →
       exec i s = .next (wrote src 0x4020 0 bs (fun x => (writeScrub bs x).1) s)) ∧
     (∀ (bs : Bytes) (x : State),
       (judgeScrub x bs ≠ 0 → writeScrub bs x = (x.onCodec fun c => { c with result := judgeScrub x bs }, false)) ∧
       (judgeScrub x bs = 0 → field bs 0 1 = 1 →
         let id := (leastFrom (fun k => (passAt x k).isNone) 8 1).getD 1
         let p : Pass := { options := field bs 1 1, scope := field bs 2 1, value := field bs 4 4, duration := field bs 8 4, rep := field bs 12 4 }
         writeScrub bs x = (beginPass id (x.onCodec fun c => { c with result := 256 * id, passes := c.passes ++ [(id, p)] }), true)) ∧
       (judgeScrub x bs = 0 → field bs 0 1 = 2 → ∀ p, passAt x (field bs 3 1) = some p →
         let y := x.onCodec fun c => { c with result := 256 * field bs 3 1 }
         writeScrub bs x = ((if p.running then endPass (field bs 3 1) 1 y else
           y.onCodec fun c => { c with passes := c.passes.filter (·.1 != field bs 3 1) }), true))) ∧
     (∀ (x : State) (id : Nat) (p : Pass), passAt x id = some p →
       let gs := scopeChannels x p.scope p.value
       beginPass id x = updPass id (fun p => ({ p with
         running := true, start := x.clk.hub, epoch := objGet x 0x4010 0, todo := (gs.filter fun g => !scrubSkips x g).map fun g => (g, 0, none),
         done := 0, size := gs.length, ended := false, outcome := 0, counts := List.replicate 13 0, worst := (0, 0, 0, 0) } : Pass).add 11
           (gs.filter (scrubSkips x)).length) x) ∧
     (∀ (pass : Fin 8) (p : Pass), passAt s (pass.val + 1) = some p →
       (p.running = true → p.todo = [] →
         let s0 := retirePassUnits (fun k _ => k == pass.val + 1) s
         let v := if bit p.options 1 = true then verifyBlocks p.value s0 else (s0, 0)
         let e := { p.add 9 v.2 with running := false, ended := true }
         let r := summaryOf v.1 (pass.val + 1) e
         let s1 := journal 0x82 r (v.1.onCodec fun c => { c with summaries := (r :: c.summaries).take 8 })
         let s2 := if p.outcome = 0 then notify .hub 0x4010 0 r s1 else notify .hub 0x4011 1 r s1
         exec (.scrubPassEnd pass) s = .next (keepFixed s true
           (if p.rep = 0 then s2.onCodec fun c => { c with passes := c.passes.filter (·.1 != pass.val + 1) }
            else updPass (pass.val + 1) (fun _ => e) s2))) ∧
       (p.running = false → p.rep ≠ 0 → p.start + p.rep * 1000000000 ≤ s.clk.hub →
         exec (.scrubRepeatStart pass) s = .next (keepFixed s true (beginPass (pass.val + 1) s))))) ∧
  (∀ (pass : Fin 8) (n : Fin 32) (ch : Fin 64) (s : State) (p : Pass) (c cursor : Nat) (last : Option Nat), s.released = true →
     let i := pass.val + 1
     let g := 64 * n.val + ch.val
     passAt s i = some p → p.todo.find? (·.1 == g) = some (g, cursor, last) → servingSlot s g = some c → p.running = true →
     (∀ t, last = some t → t + Nat.max 1000 (p.duration * 1000000000 / 262144) ≤ quadTime s (quadOf g)) →
     passTurn s i g = true → (chanAt s c).inRest = false → (chanAt s c).selfRefresh = false →
     let passed := (nextRow s p g cursor).2
     (scrubSkips s g = true → exec (.scrubRowUnit pass n ch) s = .next (keepFixed s true (leaveChannel i g 11 s))) ∧
     (scrubSkips s g = false →
       ((nextRow s p g cursor).1 = none → exec (.scrubRowUnit pass n ch) s = .next (keepFixed s true
         (leaveChannel i g 12 (updPass i (·.add 1 passed) s)))) ∧
       (∀ k, (nextRow s p g cursor).1 = some k →
         (rowUnit s c .scrub i = none →
           exec (.scrubRowUnit pass n ch) s = .next (keepFixed s true (askRow c g .scrub i (k / 4096) (k % 4096) s))) ∧
         (∀ u, rowUnit s c .scrub i = some u →
           (u.level < 3 ∨ mayOpen s c (k / 4096) (k % 4096) = false ∨ outranked s c 7 0 = true →
             exec (.scrubRowUnit pass n ch) s = .next (keepFixed s true s)) ∧
           (3 ≤ u.level → mayOpen s c (k / 4096) (k % 4096) = true → outranked s c 7 0 = false →
             exec (.scrubRowUnit pass n ch) s = .next (keepFixed s true
               (scrubRow i p ⟨c, g, k / 4096, k % 4096⟩ (updPass i (fun p => { p with todo := p.todo.map fun t =>
                   if t.1 == g then (g, k + 1, some (quadTime s (quadOf g))) else t })
                 (updPass i (·.add 1 passed) (dropRowUnit u s))))))))) ∧
     (∀ (x : State) (count : Nat), leaveChannel i g count x = updPass i (fun p =>
       ({ p with todo := p.todo.filter (·.1 != g), done := if count = 12 then p.done + 1 else p.done } : Pass).add count 1)
       (retirePassUnits (fun k u => k == i && u.gch == g) x)) ∧
     ∀ (x : State) (a : RowAt), bit p.options 0 = false →
       let r := readRow x a
       let y := sendRow a.c a.bank a.row (rowSlots x a) [] x
       let census := if bit p.options 2 = false then 0 else
         ((scopeSectors y p a).filter fun k => let t := (nth r.sectors k zeroSector).2; decide (tagWriter t ≤ 5) && tagEpoch t == p.epoch).length
       let syms := if r.failed then 0xFFFF else r.symbols
       scrubRow i p a x = updPass i (fun p =>
           let p := ((p.add 0 1).add 10 census)
           let p := if r.failed then p.add 4 1 else if 0 < r.symbols then (p.add 2 1).add 3 r.symbols else p
           if p.worst.2.2.2 < syms then { p with worst := (a.gch, a.bank, a.row, syms) } else p)
         (if r.failed then countUncorrectable a r.bad (r.bad.filter fun k => (stripeValue y a k).isNone) y
          else if 0 < r.symbols then bump 0x8502 (quadOfSlot a.c + 1) 1 y else y))

/-- CHANNEL_LOST with a condition of R448, on a channel of an enabled stack that is not lost already, raises notice 0x7060 and, outside
Slate mode, begins the channel's rebuild: into the lowest good spare, or, without one, into foster frames with a pass over the map;
a copy or map-out under way goes on as the rebuild. CHANNEL_REBUILD_COMPLETE rebuilds the rows that are left, gives the channel its
spare slot or ends as a map-out, and reports what was rebuilt, poisoned and lost (R246, R247, R448, R449). -/
def Obligations.LostChannelsAreRebuilt : Prop :=
  ∀ (n : Fin 32) (ch : Fin 64) (s : State), s.released = true →
    let g := 64 * n.val + ch.val
    (∀ (condition : Fin 6) (c0 : Nat), servingSlot s g = some c0 → condition ≠ 0 →
      (∀ h ∈ s.rehomes, h.gch = g → h.kind ≠ 2) → s.variant.enables n = true →
      let c := match rehomeAt s g with
        | some h => h.source
        | none => c0
      let s1 := notify (medOf g) 0x7060 2 (leBytes 2 g ++ leBytes 1 (c % 66) ++ leBytes 1 condition) s
      (inSlate s1 (quadOf g) = true → exec (.channelLost n ch condition) s = .next (keepFixed s true s1)) ∧
      (inSlate s1 (quadOf g) = false → exec (.channelLost n ch condition) s = .next (keepFixed s true (beginRebuild g c s1)) ∧
        (rehomeAt s g = none →
          let s2 := loseTouch g s1
          let s3 := match goodSpares s2 (g / 64) with
            | d :: _ => (updChan (slotNo (g / 64) d) (fun x => { x with sectors := [] }) (stopTests (slotTarget (slotNo (g / 64) d)) 2 s2)).onRehomes
                (· ++ [{ kind := 2, gch := g, source := c, dest := some (slotNo (g / 64) d) }])
            | [] => beginMapPass ((installRecords g none s2).1.onRehomes
                (· ++ [{ kind := 2, gch := g, source := c, dest := none, frames := (installRecords g none s2).2 }]))
          beginRebuild g c s1 = moveUnits c g (moveEntries c g (fun _ => false)
            (notify .hub 0x4020 1 (leBytes 2 g ++ leBytes 4 (channelHolds s3 g).1 ++ leBytes 4 (channelHolds s3 g).2.length) s3))) ∧
        (∀ h, rehomeAt (loseTouch g s1) g = some h →
          let s2 := if h.kind = 1 then updRehome g (fun h => { h with kind := 2 }) (loseTouch g s1) else lapseMapOut h (loseTouch g s1)
          let kept := ((rehomeAt s2 g).map (·.kept)).getD []
          let s3 := notify .hub 0x4020 1 (leBytes 2 g ++ leBytes 4 (channelHolds s2 g).1 ++ leBytes 4 (channelHolds s2 g).2.length) s2
          beginRebuild g c s1 = moveUnits c g (moveEntries c g (fun e =>
            let f := frameOfRow e.bank e.row + e.slot / 64
            (h.kind == 1 && decide (rowIndex e.bank e.row < h.cursor) && touched s3 g e.bank e.row)
              || kept.any fun k => decide (k.1 ≤ f) && decide (f < k.1 + k.2)) s3)))) ∧
    (∀ (h : Rehome), rehomeAt s g = some h → h.kind = 2 → quadStops s (n / 8) = false →
      let rows := touchedRows s g h.cursor
      let s1 := forEach (rows.filter fun r => !h.ahead.contains (rowIndex r.1 r.2)) (fun r s => rebuildRow (g, r.1, r.2) s) s
      let done := (rehomeAt s1 g).getD h
      let s2 := match h.dest with
        | some d => switchSlot g d 2 (dropRehome g s1)
        | none => forEach rows (fun r s => clearTouch g r.1 r.2 s) (dropRehome g s1)
      let s3 := reportLoss g (channelHolds s1 g).2
        (notify .hub 0x4021 0 (leBytes 2 g ++ leBytes 4 done.rebuilt ++ leBytes 4 done.poisoned) (recovered 6000 (retireRebuilt done rows s2)))
      exec (.channelRebuildComplete n ch) s =
        .next (keepFixed s true (startWaiting (if h.dest.isNone then finishMapOut g h.frames s3 else s3))))

/-- CHANNEL_SPARING starts the copy of a due slot into the first good spare, with notice 0x5010; without one and with map-out off, notice
0x5012 says so once. CHANNEL_SPARING_COPY_UNIT raises the request of the next touched row at the channel arbiter, and copies that row,
decoded, with the writes that wait for it, once the request is granted, both slots may open the row, the destination has room and no
command of a class before the copy's is offered; a copy whose destination fails starts again with the next spare.
CHANNEL_SPARING_COMPLETE, with no touched row left, gives the channel its new slot, moves what waits there and sends notice 0x5011
(R342 to R345, Table 11.6).
MAP_OUT begins the map-out of a slot that is due in a stack without a good spare, where map-out is on or a command names the slot: its
rehoming records are installed, a pass over the map begins and the copies of its frames go out. MAP_OUT_COMPLETE of such a channel,
once every record is active, moves what waits and ends it: the channel is served by no slot, the budget's notice 0x2010, notice
0x5013, a record of kind 5 and, where the foster frames are few, notice 0x2031 follow. LANE_SPARING_PAUSE of a slot that holds its stack's token, with nothing in flight, takes a spare lane and passes the token; a
slot without the token asks for it (R334, R346, R347, Table 11.3). -/
def Obligations.ChannelsAreSparedAndMappedOut : Prop :=
  (∀ (n : Fin 32) (s : State), s.released = true →
     (∀ (ch : Fin 64) (c : Nat),
       let g := 64 * n.val + ch.val
       servingSlot s g = some c → (dueCause s c).isSome = true → actionOn s c = false →
       (s.rehomes.any fun h => h.kind == 1 && h.gch / 64 == n.val) = false → quadStops s (quadOf g) = false →
       inSlate s (quadOf g) = false → liveChannel s g = true →
       (∀ d rest cause, goodSpares s n = d :: rest → copyCause s c = some cause →
         exec (.channelSparing n ch) s = .next (keepFixed s true
           (let s1 := updChan (slotNo n d) (fun x => { x with sectors := [] }) (stopTests (slotTarget (slotNo n d)) 2 s)
           notify .hub 0x5010 1 (leBytes 2 g ++ leBytes 1 (c % 66) ++ leBytes 1 (slotNo n d % 66) ++ leBytes 1 cause)
             (s1.onRehomes (· ++ [{ kind := 1, gch := g, source := c, dest := some (slotNo n d), cause := cause }]))))) ∧
       (goodSpares s n ≠ [] → copyCause s c = none → exec (.channelSparing n ch) s = .next (keepFixed s true s)) ∧
       (goodSpares s n = [] → sparingOn s 4 = false → (chanAt s c).exhausted = false →
         exec (.channelSparing n ch) s = .next (keepFixed s true
           (notify .hub 0x5012 1 (leBytes 2 g ++ leBytes 1 (c % 66)) (updChan c (fun x => { x with exhausted := true }) s))))) ∧
     (∀ (h : Rehome) (d : Nat), copyOf s n = some h → h.dest = some d → quadStops s (n / 8) = false →
       ((stackAt s n).running = true → destFails s d = true →
         exec (.channelSparingCopyUnit n) s = .next (keepFixed s true (restartCopy h d s))) ∧
       (destFails s d = false →
         ((stackAt s n).running = true → touchedRows s h.gch h.cursor = [] →
           exec (.channelSparingCopyUnit n) s = .next (keepFixed s true (updRehome h.gch (fun h => { h with cursor := 2 ^ 18 })
             (match rowUnit s h.source .copy 0 with
               | some u => dropRowUnit u s
               | none => s)))) ∧
         (∀ b r rest, (stackAt s n).running = true → touchedRows s h.gch h.cursor = (b, r) :: rest →
           (rowUnit s h.source .copy 0 = none →
             exec (.channelSparingCopyUnit n) s = .next (keepFixed s true (askRow h.source h.gch .copy 0 b r s))) ∧
           (∀ u j, rowUnit s h.source .copy 0 = some u → u.job = some j →
             let cls := if j.since + 10000 ≤ quadTime s (n / 8) then 1 else 6
             let room := (chanAt s d).writes.length + (rowQueue s h.source b r).length ≤ 256
             (3 ≤ u.level → room → mayOpen s h.source b r = true → mayOpen s d b r = true → outranked s h.source cls j.seq = false →
               exec (.channelSparingCopyUnit n) s = .next (keepFixed s true (copyRow h d b r (dropRowUnit u s)))) ∧
             (u.level < 3 ∨ ¬room ∨ mayOpen s h.source b r = false ∨ mayOpen s d b r = false ∨ outranked s h.source cls j.seq = true →
               exec (.channelSparingCopyUnit n) s = .next (keepFixed s true s)))) ∧
         (touchedRows s h.gch h.cursor = [] →
           let s1 := switchSlot h.gch d 2 (dropRehome h.gch s)
           let s2 := moveUnits h.source h.gch (moveEntries h.source h.gch (fun e => touched s1 h.gch e.bank e.row) s1)
           exec (.channelSparingComplete n) s = .next (keepFixed s true
             (notify .hub 0x5011 0 (leBytes 2 h.gch ++ leBytes 1 (d % 66) ++ leBytes 1 (goodSpares s2 n).length) s2))))) ∧
     (∀ (x : State) (h : Rehome) (d b r : Nat),
       let a : RowAt := ⟨h.source, h.gch, b, r⟩
       let y := sendRow h.source b r (rowSlots x a) [] x
       let bad := (readRow x a).bad
       let z := if (readRow x a).failed then
           countUncorrectable a bad (bad.filter fun i => (stripeValue y a i).isNone)
             (forEach (bad.filter fun i => (stripeValue y a i).isSome) (fun i s => readStripe a i s) y)
         else y
       copyRow h d b r x = updRehome h.gch (fun h => { h with cursor := rowIndex b r + 1 }) (doubleWrites h.source d b r
         (sendRow d b r [] (List.range (128 + paritySlots (rowStrength x a)))
           (writeRow { a with c := d } (rowStrength x a) (rescuedCells x a (readRow x a)) z))))) ∧
  (∀ (n : Fin 32) (s : State), s.released = true →
     (∀ (ch : Fin 64) (c : Nat),
       let g := 64 * n.val + ch.val
       servingSlot s g = some c → mapOutDue s c = true →
       actionOn s c = false → quadStops s (quadOf g) = false → inSlate s (quadOf g) = false → liveChannel s g = true →
       exec (.mapOut n ch) s = .next (keepFixed s true (pumpMapOut g (beginMapPass ((installRecords g (some 0) s).1.onRehomes
         (· ++ [{ kind := 3, gch := g, source := c, dest := none, frames := (installRecords g (some 0) s).2 }])))))) ∧
     (∀ c : Nat, mapOutDue s c = true ↔ (dueCause s c).isSome = true ∧ goodSpares s (stackOf c) = [] ∧
       (sparingOn s 4 = true ∨ (chanAt s c).wanted = 3 ∨ (chanAt s c).wanted = 5)) ∧
     (∀ (ch : Fin 64) (h : Rehome),
       let g := 64 * n.val + ch.val
       let s0 := pumpMapOut g s
       mapOutAt s0 g = some h →
       ((copyRun s0 g).isSome = true → exec (.mapOutComplete n ch) s = .next (keepFixed s true s0)) ∧
       (copyRun s0 g = none →
         let s1 := forEach (touchedRows s0 g 0) (fun r s => clearTouch g r.1 r.2 s)
           (moveUnits h.source g (moveEntries h.source g (fun _ => true) s0))
         let s2 := finishMapOut g h.frames s1
         exec (.mapOutComplete n ch) s = .next (keepFixed s true (reportLoss g (homeless s2 g) s2)))) ∧
     (∀ (x : State) (g frames : Nat),
       let pch := nth (stackAt x (g / 64)).table (g % 64) 255
       let x0 := (updStack (g / 64) (fun t => { t with table := modNth t.table (g % 64) fun _ => 255 }) (dropRehome g x)).onMap fun m =>
         { m with mapped := m.mapped ++ [g], touchDue := m.touchDue.filter (· / 512 != g) }
       let x1 := if pch < 66 then updChan (slotNo (g / 64) pch) (fun y => { y with wanted := 0 }) x0 else x0
       finishMapOut g frames x = startWaiting (fosterNotice (ledger 0x05 (leBytes 2 g ++ leBytes 2 (mapOuts x0) ++ leBytes 4 frames)
         (notify .hub 0x5013 2 (leBytes 2 g ++ leBytes 2 (mapOuts x0) ++ leBytes 4 frames)
           (notify .hub 0x2010 1 (leBytes 4 (budget x1) ++ leBytes 2 (mapOuts x0) ++ leBytes 2 g) x1)))) ∧
       (g / 64 < x.stk.length → g % 64 < (stackAt x (g / 64)).table.length → servingSlot x1 g = none)) ∧
     (∀ (p : Fin 66) (errors eye g pos cause spare : Nat),
       let c := slotNo n p
       channelOf s c = some g → pauseTarget s c = some (pos, cause, spare) → mayPause s c = true →
       quadStops s (quadOfSlot c) = false → (chanAt s c).inRest = false → (chanAt s c).selfRefresh = false →
       let s1 := askToken n p s
       ((stackAt s1 n).token = some p.val → quiescent (chanAt s1 c) = true →
         exec (.laneSparingPause n p errors eye) s = .next (keepFixed s true (passToken n p (lanePause c g pos cause spare errors eye s1)))) ∧
       ((stackAt s1 n).token ≠ some p.val ∨ quiescent (chanAt s1 c) = false →
         exec (.laneSparingPause n p errors eye) s = .next (keepFixed s true s1))))

/-- The six repair rows are writes of object 0x5030:00 with their command in byte 0, judged by the checks of object 0x5031 in the
order of their codes; a rejected one changes nothing but that result. An accepted SPARE_LANE makes its lane due with cause 5,
SPARE_CHANNEL and MAP_OUT_CHANNEL mark their slot, the two repairs are queued, and a cancel drops the queued repairs of its slot,
each with a record of kind 8 (R340, R341, R347). -/
def Obligations.RepairCommandsAreJudged : Prop :=
  ∀ (src : Src) (value : Bytes) (i : Instr) (k : Nat) (s : State),
    (i, k) ∈ [(Instr.spareLane src value, 1), (Instr.spareChannel src value, 2), (Instr.mapOutChannel src value, 3),
      (Instr.queueHardRowRepair src value, 4), (Instr.queueColumnRepair src value, 5), (Instr.cancelQueuedRepairs src value, 6)] →
    s.released = true →
    let bs := leBytes 1 k ++ value.drop 1
    (mayWrite s src 0x5030 0 bs = true → (writeRepair bs (beforeWrite src 0x5030 0 bs s)).2 = true →
      exec i s = .next (wrote src 0x5030 0 bs (fun x => (writeRepair bs x).1) s)) ∧
    (∀ x : State, (writeRepair bs x).2 = decide (judgeRepair x bs = 0) ∧ (writeRepair bs x).1.start.repairResult = judgeRepair x bs ∧
      (judgeRepair x bs ≠ 0 → (writeRepair bs x).1 = x.onStart fun t => { t with repairResult := judgeRepair x bs }) ∧
      (∀ c, judgeRepair x bs = 0 → servingSlot x (field bs 2 2) = some c →
        let y := x.onStart fun t => { t with repairResult := 0 }
        (k = 1 → (writeRepair bs x).1 =
          updChan c (fun d => { d with dueLanes := d.dueLanes.filter (·.1 != field bs 1 1) ++ [(field bs 1 1, 5)] }) y) ∧
        (k = 2 ∨ k = 3 → (writeRepair bs x).1 =
          updChan c (fun d => { d with wanted := if d.wanted = 0 || d.wanted = k then k else 5 }) y) ∧
        (k = 4 → (writeRepair bs x).1 = addRepair ⟨stackOf c, c % 66, field bs 4 1, 5, field bs 6 2⟩ y) ∧
        (k = 5 → (writeRepair bs x).1 = addRepair ⟨stackOf c, c % 66, field bs 4 1, 6, field bs 6 2⟩ y) ∧
        (k = 6 → ∀ r ∈ (writeRepair bs x).1.start.repairs,
          ¬(r.stack = stackOf c ∧ r.pch = c % 66 ∧ (r.action = 5 ∨ r.action = 6)))))

/-- LEDGER_WRITE programs the oldest record that waits, in its ring, where a NOR device is there; a ledger left with fewer than 512 free
sectors is checkpointed, once no record of it waits; a sector that fails is marked bad in the directory, the record waits, and with
too few good sectors left notice 0x5060 says so. STACK_WEAR_RECORD, in a new powered hour, hands over
a record of kind 0x0A for each enabled stack; FORECAST publishes the forecasts of the new hour, the nearest of each kind, or its entry
without one (R350, R353, R354). -/
def Obligations.RecordsAreWritten : Prop :=
  ∀ s : State, s.released = true →
    (∀ kind body stamp rest, s.nor.present = true → s.nor.waiting = (false, kind, body, stamp) :: rest →
      ∃ t, exec (.ledgerWrite true) s = .next t ∧ t.nor.waiting = rest ∧
        t.nor.journal = s.nor.journal.append journalSize kind body stamp ∧ t.nor.ledger = s.nor.ledger ∧
        t.clk = s.clk ∧ t.reqs = s.reqs ∧ t.mem = s.mem ∧ t.svc = s.svc) ∧
    (∀ kind body stamp rest, s.nor.present = true → s.nor.waiting = (true, kind, body, stamp) :: rest →
      let s1 := rememberRecord (s.onNor fun n => { n with
        waiting := rest, ledger := n.ledger.append ledgerSize kind body stamp,
        powered := if kind = 0x09 then field stamp 4 4 else n.powered, cycles := field stamp 0 4 })
      (512 ≤ (s.nor.ledger.append ledgerSize kind body stamp).freeCount ledgerSize ∨ (∃ w ∈ rest, w.1 = true) →
        ∃ t, exec (.ledgerWrite true) s = .next t ∧ t = keepFixed s true (s1.onNor (keepDirectory s.nor)) ∧ t.nor.waiting = rest ∧
          t.nor.ledger = s.nor.ledger.append ledgerSize kind body stamp ∧ t.nor.journal = s.nor.journal ∧
          t.nor.cycles = field stamp 0 4 ∧ t.clk = s.clk ∧ t.reqs = s.reqs ∧ t.mem = s.mem ∧ t.svc = s.svc) ∧
      ((s.nor.ledger.append ledgerSize kind body stamp).freeCount ledgerSize < 512 → (∀ w ∈ rest, w.1 = false) →
        exec (.ledgerWrite true) s = .next (keepFixed s true ((checkpoint s1).onNor (keepDirectory s.nor))))) ∧
    (∀ led kind body stamp rest, s.nor.present = true → s.nor.waiting = (led, kind, body, stamp) :: rest →
      let len := (recordBytes kind 0 body stamp).length
      let s1 := s.onNor fun n => writeDirectory { n with
        ledger := if led then n.ledger.fail ledgerSize (poweredNow s) len else n.ledger,
        journal := if led then n.journal else n.journal.fail journalSize (poweredNow s) len }
      let good := goodSectors s1
      exec (.ledgerWrite false) s = .next (keepFixed s true
        (if good.1 < 896 || good.2 < 256 then notify .hub 0x5060 2 (leBytes 2 good.1 ++ leBytes 2 good.2) s1 else s1)) ∧
      s1.nor.waiting = s.nor.waiting) ∧
    (s.nor.wearHour < poweredNow s / 3600 →
      ∃ t, exec .stackWearRecord s = .next t ∧
        t = keepFixed s true ((forEach ((List.range 32).filter s.variant.enables) (fun n s => ledger 0x0A (wearRecord s n) s) s).onNor
          fun m => { m with wearHour := poweredNow s / 3600 }) ∧ t.nor.wearHour = poweredNow s / 3600 ∧ t.nor.ledger = s.nor.ledger ∧
        t.clk = s.clk ∧ t.reqs = s.reqs ∧ t.mem = s.mem) ∧
    (s.nor.foreHour < poweredNow s / 3600 →
      ∃ t, exec .forecast s = .next t ∧ t.nor.foreHour = poweredNow s / 3600 ∧ t.nor.forecasts.length = 6 ∧
        t.nor.forecasts = ((List.range 6).map fun i =>
          match bestOf (fun (a b : Nat × Nat × Nat × Nat) => decide (a.2.2.2 < b.2.2.2)) ((forecasts s).filter (·.1 == i + 1)) with
          | some x => forecastEntry x.1 x.2.1 x.2.2.1 x.2.2.2 (forecastDate s x.2.2.2)
          | none => forecastEntry (i + 1) 0 0 0xFFFFFFFF 0) ∧
        t.clk = s.clk ∧ t.reqs = s.reqs ∧ t.mem = s.mem)

/-! ### The service link (chapter 13) -/

/-- A message of the service link that SP may take is executed once, on the state with its frame taken and its session touched, and
answered: its response is kept and queued (R398 to R408). So for every row that is such a message: DISCOVER in session 0,
SERVICE_READ, SERVICE_WRITE, DESCRIBE, the four transfer messages, the three session messages, STAGING_WRITE. Read answers 0x00 with
the object's value, Describe with its row, Write with what the write of the object answers; each with the first reason that stops
it, its access or its role. Only a frame of session 0 is answered as Discover, with the payload of Table 13.3.
A message whose response is kept is not executed again: the response is sent again, and counted (R401). -/
def Obligations.ServiceMessagesRunOnce : Prop :=
  (∀ (i : Instr) (r : ServiceRow) (s : State), serviceRow i = some r → s.released = true → mayServe s r = true →
     let w := r.run r.mac.toNat r.session (touchSession r.session (takeFrame r.mac.toNat r.session r.txn.toNat r.mtype s))
     exec i s = .next (keepFixed s true (giveAnswer
       { mac := r.mac.toNat, session := r.session, txn := r.txn.toNat, mtype := r.mtype, status := w.2.1, payload := w.2.2 } w.1)) ∧
     (∀ mac session txn, i = .discover (.sp mac session txn) → w.2 = (0, leBytes 8 fusedId ++ leBytes 4 w.1.variant.deviceType ++
       leBytes 1 w.1.ident.nodeId ++ [0] ++ leBytes 2 (leNat (valueOf w.1 0 0x10FF 0)) ++ designationBytes w.1.variant)) ∧
     ∀ (x : State) (index sub mac session : Nat),
       (∀ array, serviceStop x false (sessionRole x session) index sub ≠ 0 →
         runRead index sub array mac session x = (x, serviceStop x false (sessionRole x session) index sub, [])) ∧
       (serviceStop x false (sessionRole x session) index sub = 0 → (valueOf x session index sub).length ≤ 1484 →
         runRead index sub false mac session x = (x, 0, objHeader index sub ++ valueOf x session index sub)) ∧
       (∀ o, serviceStop x false (sessionRole x session) index sub = 0 → objRow index sub = some o →
         runDescribe index sub mac session x =
           (x, 0, objHeader index sub ++ leBytes 1 o.type ++ leBytes 1 o.access ++ leBytes 1 o.role ++ [0] ++ leBytes 4 o.size)) ∧
       (∀ (src : Src) (bs : Bytes) (o : ObjRow), serviceStop x true (sessionRole x session) index sub = 0 → objRow index sub = some o →
         bs.length ≤ 1484 → runWrite src true true index sub bs mac session x =
           ((performWrite src true index sub o bs x).1, (performWrite src true index sub o bs x).2, objHeader index sub))) ∧
  (∀ (i : Instr) (r : ServiceRow) (s : State) (a : Answer), serviceRow i = some r → s.released = true → linkDead s = false →
     keptAnswer s r.mac.toNat r.session r.txn.toNat = some a → a.running = false →
     ∃ t, exec i s = .next t ∧ t.svc.out = s.svc.out ++ [a] ∧ t.svc.kept = s.svc.kept ∧ t.svc.sessions = s.svc.sessions ∧
       t.svc.transfers = s.svc.transfers ∧ nth t.svc.counts 5 0 = nth s.svc.counts 5 0 + (if 5 < s.svc.counts.length then 1 else 0) ∧
       t.objs = s.objs ∧ t.nor = s.nor ∧ t.mem = s.mem ∧ t.reqs = s.reqs ∧ t.win = s.win)

/-- R396: while hub_ref is lost, no message is executed or answered, no frame leaves or is counted, and no session, transfer or kept
notice times out; what is kept and queued stays, and with each nanosecond the time of a session's and a transfer's last frame moves
along, so that idle times do not advance. -/
def Obligations.LostHubReferenceSilencesTheServiceLink : Prop :=
  ∀ s : State, s.released = true → linkDead s = true →
    (∀ (i : Instr) (r : ServiceRow), serviceRow i = some r → exec i s = .next s) ∧
    (∀ f, exec (.frameReceived f) s = .next s) ∧ exec .transmitOpportunity s = .next s ∧
    (∀ k, exec (.sessionIdleTimeout k) s = .next s) ∧ (∀ k, exec (.transferTimeout k) s = .next s) ∧
    (∀ i, exec (.noticeResend i) s = .next s) ∧ (∀ src n, exec (.noticeAcknowledge src n) s = .next s) ∧
    (∀ src, exec (.inProgressResponse src) s = .next s) ∧
    (holdIdle s).svc.sessions = s.svc.sessions.map (fun x => (x.1, { x.2 with lastFrame := x.2.lastFrame + 1 })) ∧
    (holdIdle s).svc.transfers = s.svc.transfers.map (fun x => (x.1, { x.2 with touched := x.2.touched + 1 })) ∧
    (holdIdle s).svc.kept = s.svc.kept ∧ (holdIdle s).svc.out = s.svc.out ∧ (holdIdle s).svc.subs = s.svc.subs

/-- FRAME_RECEIVED counts a frame that SP drops, by its reason, and takes one that it accepts: a readable message waits for its command, a
repeat of one answered is answered again, an unreadable one is answered with its status. PLCA_STATUS_CHANGE shows in the state of the
link; TRANSMIT_OPPORTUNITY lets the oldest response leave where no notice waits or one left last, else notices of one of the
subscribers that have some; a response whose command's invalidation has not left the hub waits for it (R318, R391 to R394, R399).
NOTICE_ACKNOWLEDGE drops the sender's kept notices up to the sequence it names; NOTICE_RESEND sends a kept notice again after
100 ms, and after its fifth time drops it, with notice 0x1011 to the others; IN_PROGRESS_RESPONSE says 0x10 for a write that runs for 100 ms (R400, R418). -/
def Obligations.FramesAndNotices : Prop :=
  (∀ s : State, s.released = true →
     (∀ (f : Frame) (k : Nat), linkDead s = false → frameDrop s f = some k →
       ∃ t, exec (.frameReceived f) s = .next t ∧ t.svc.counts = modNth s.svc.counts k (· + 1) ∧ t.svc.inbox = s.svc.inbox ∧
         t.svc.out = s.svc.out ∧ t.svc.sessions = s.svc.sessions ∧ t.objs = s.objs ∧ t.mem = s.mem ∧ t.reqs = s.reqs) ∧
     (∀ f : Frame, linkDead s = false → frameDrop s f = none →
       exec (.frameReceived f) s =
         .next (keepFixed s true (acceptFrame f (s.onSvc fun v => { v with counts := modNth v.counts 0 (· + 1) })))) ∧
     (∀ (x : State) (f : Frame) (mac session txn mtype : Nat), frameKey f = (mac, session, txn, mtype) →
       let y := if sessionOpen x mac session then touchSession session x else x
       let again := y.svc.inbox.any fun g => g.source == f.source && (frameKey g).2.1 == session && (frameKey g).2.2.1 == txn
       (frameStop f.payload = 0 → (mtype = 0x21 ∨ (keptAnswer y mac session txn = none ∧ again = false)) →
         acceptFrame f x = y.onSvc fun v => { v with inbox := v.inbox ++ [f] }) ∧
       (∀ a, mtype ≠ 0x21 → keptAnswer y mac session txn = some a → acceptFrame f x = repeatAnswer a y) ∧
       (frameStop f.payload ≠ 0 → mtype ≠ 0x21 → keptAnswer y mac session txn = none → again = false →
         acceptFrame f x = giveAnswer { mac := mac, session := session, txn := txn, mtype := mtype, status := frameStop f.payload } y)) ∧
     (∀ ok, ∃ t, exec (.plcaStatusChange ok) s = .next t ∧ t.svc.plcaOk = ok ∧ t.svc.sessions = s.svc.sessions ∧ t.svc.out = s.svc.out ∧
       t.svc.kept = s.svc.kept ∧ t.objs = s.objs ∧ t.mem = s.mem ∧ t.reqs = s.reqs) ∧
     (∀ (a : Answer) (rest : List Answer), linkDead s = false → (noticesFor s = [] ∨ s.svc.lastNotice = true) → s.svc.out = a :: rest →
       (∀ k, a.behind = some k → leftHub s k = true) →
       ∃ t, exec .transmitOpportunity s = .next t ∧ t.svc.out = rest ∧ t.svc.kept = s.svc.kept ∧ t.svc.sessions = s.svc.sessions ∧
         t.svc.subs = s.svc.subs ∧ t.objs = s.objs ∧ t.mem = s.mem ∧ t.reqs = s.reqs) ∧
     (linkDead s = false → noticesFor s ≠ [] → ((∀ a ∈ s.svc.out, answerDue s a = false) ∨ s.svc.lastNotice = false) →
       ∃ i ∈ noticesFor s, exec .transmitOpportunity s = .next (keepFixed s true (sendNotices i s.drawn))) ∧
     (linkDead s = false → noticesFor s = [] → (∀ a ∈ s.svc.out, answerDue s a = false) →
       exec .transmitOpportunity s = .next (keepFixed s true s))) ∧
  (∀ s : State, s.released = true → linkDead s = false →
     (∀ (mac : BitVec 48) (session : Nat) (txn : BitVec 16) (n : BitVec 32), s.svc.subs.length = 8 →
       ∃ t, exec (.noticeAcknowledge (.sp mac session txn) n) s = .next t ∧ t.svc.out = s.svc.out ∧ t.objs = s.objs ∧ t.mem = s.mem ∧
         ∀ i, i < 8 → (nth t.svc.subs i {}).queue = (nth s.svc.subs i {}).queue ∧
           ((subscription s i).1 = mac.toNat →
             (nth t.svc.subs i {}).kept = (nth s.svc.subs i {}).kept.filter fun k => !seqReached n.toNat k.body.seq) ∧
           ((subscription s i).1 ≠ mac.toNat → nth t.svc.subs i {} = nth s.svc.subs i {})) ∧
     (∀ (i : Fin 8) (k : Kept), (nth s.svc.subs i {}).kept.find? (fun k => decide (k.sentAt + 100000000 ≤ s.clk.hub)) = some k →
       k.resends < 5 → exec (.noticeResend i) s = .next (keepFixed s true (putNotices i true [k.body]
         (s.onSvc fun v => { v with subs := modNth v.subs i fun d => { d with
           kept := d.kept.map fun x => if x = k then { x with resends := x.resends + 1, sentAt := s.clk.hub } else x } })))) ∧
     (∀ (i : Fin 8) (k : Kept), (nth s.svc.subs i {}).kept.find? (fun k => decide (k.sentAt + 100000000 ≤ s.clk.hub)) = some k →
       5 ≤ k.resends → exec (.noticeResend i) s = .next (keepFixed s true
         (raiseBut (i.val + 1) { code := 0x1011, severity := 1, stamp := hubStamp s,
                                 payload := leBytes 1 (i.val + 1) ++ leBytes 2 k.body.code ++ leBytes 4 k.body.seq }
           (s.onSvc fun v => { v with subs := modNth v.subs i fun d => { d with
             kept := d.kept.filter (· != k), drops := (d.drops + 1) % 2 ^ 32 } })))) ∧
     (∀ (mac : BitVec 48) (session : Nat) (txn : BitVec 16) (a : Answer), keptAnswer s mac.toNat session txn.toNat = some a →
       a.running = true → a.status ≠ 0x10 → a.since + 100000000 ≤ s.clk.hub →
       ∃ t, exec (.inProgressResponse (.sp mac session txn)) s = .next t ∧
         t.svc.out = s.svc.out ++ [{ a with status := 0x10, payload := [] }] ∧ t.svc.sessions = s.svc.sessions ∧ t.objs = s.objs ∧
         t.mem = s.mem ∧ t.reqs = s.reqs))

/-- Session open gives the lowest free session with role observer, a fresh challenge when a higher role is asked for; unlock
ends the challenge, and raises the role when the code is right; close and SESSION_IDLE_TIMEOUT end the session and its
transfer and nothing else of the link (R406, R408 to R411).
A transfer begins as the lowest free one, where its object, its length and its session allow it. A write transfer takes its blocks in
order, once, and its end writes the object only when every byte is there and the CRC agrees; a read transfer gives the block of 1,024
bytes at the offset it is asked for, and ends with its CRC. Abort and TRANSFER_TIMEOUT, without a frame for 10 s, end a transfer
(R404 to R406). -/
def Obligations.SessionsAndTransfers : Prop :=
  (∀ (x : State) (mac session : Nat),
     (∀ role k, 1 ≤ role → role ≤ 3 → leastFrom (fun k => x.svc.sessions.all (·.1 != k)) 8 1 = some k →
       (runOpen role mac session x).2.1 = 0 ∧ ∃ y : Session, (k, y) ∈ (runOpen role mac session x).1.svc.sessions ∧ y.mac = mac ∧
         y.role = 1 ∧ y.lastFrame = x.clk.hub ∧ (y.challenge.isSome = true ↔ role ≠ 1)) ∧
     (leastFrom (fun k => x.svc.sessions.all (·.1 != k)) 8 1 = none → ∀ role, 1 ≤ role → role ≤ 3 →
       (runOpen role mac session x) = (x, 0x18, [])) ∧
     (∀ (code : Bytes) (y : Session), x.svc.sessions = [(session, y)] →
       (unlocks x (beBytes 6 mac) session y.wanted y.challenge code = true →
         (runUnlock code mac session x).1.svc.sessions = [(session, { y with challenge := none, role := y.wanted })] ∧
         (runUnlock code mac session x).2.1 = 0) ∧
       (unlocks x (beBytes 6 mac) session y.wanted y.challenge code = false →
         (runUnlock code mac session x).1.svc.sessions = [(session, { y with challenge := none })] ∧
         (runUnlock code mac session x).2.1 = 0x12)) ∧
     (closeSession session x = x.onSvc fun v =>
       { v with sessions := v.sessions.filter (·.1 != session), transfers := v.transfers.filter (·.2.session != session) }) ∧
     (∀ (k : Fin 9) (y : Session), x.released = true → linkDead x = false → x.svc.sessions.find? (·.1 == k.val) = some (k.val, y) →
       y.lastFrame + objGet x 0x1111 0 * 1000000000 ≤ x.clk.hub →
       ∃ t, exec (.sessionIdleTimeout k) x = .next t ∧ t = keepFixed x true (closeSession k.val x) ∧ (∀ e ∈ t.svc.sessions, e.1 ≠ k.val) ∧
         (∀ e ∈ t.svc.transfers, e.2.session ≠ k.val) ∧ t.objs = x.objs ∧ t.mem = x.mem ∧ t.reqs = x.reqs)) ∧
  ((∀ (x : State) (w : Bool) (index sub len mac session id : Nat),
     serviceStop x w (sessionRole x session) index sub = 0 → (w = false → len = 0) →
     (w = true → (writeSizes index sub).1 ≤ len ∧ len ≤ (writeSizes index sub).2 ∧ len ≤ 8388608) →
     let y := dropStale x
     leastFrom (fun i => y.svc.transfers.all (·.1 != i)) 4 1 = some id → (∀ e ∈ y.svc.transfers, e.2.session ≠ session) →
     let data := if w then [] else valueOf y session index sub
     let n := if w then len else data.length
     runBegin w index sub len mac session x = (y.onSvc (fun v => { v with transfers := v.transfers ++ [(id,
       { session := session, write := w, index := index, sub := sub, length := n, data := data, touched := x.clk.hub })] }), 0,
       leBytes 1 id ++ [0, 0, 0] ++ leBytes 4 n ++ leBytes 2 1024 ++ [0, 0])) ∧
   ∀ (x : State) (id session mac : Nat) (t : Transfer), transferOf x session id = some t →
     (∀ (offset : Nat) (data : Bytes), t.write = true → t.last ≠ some offset →
       (offset = t.data.length → offset < t.length → data.length = Nat.min 1024 (t.length - offset) →
         (runBlock id offset data mac session x).2.1 = 0) ∧
       (offset = t.data.length → offset < t.length → data.length = Nat.min 1024 (t.length - offset) →
         (runBlock id offset data mac session x).1 = updTransfer id (fun t => { t with data := t.data ++ data, last := some offset })
           (updTransfer id (fun t => { t with touched := x.clk.hub }) x)) ∧
       (offset ≠ t.data.length → (runBlock id offset data mac session x).2.1 = 0x16)) ∧
     (∀ (offset : Nat) (data : Bytes), t.write = true → t.last = some offset → runBlock id offset data mac session x =
       (updTransfer id (fun t => { t with touched := x.clk.hub }) x, 0, leBytes 1 id ++ [0, 0, 0] ++ leBytes 4 offset)) ∧
     (∀ offset : Nat, t.write = false → offset % 1024 = 0 → offset < t.length → runBlock id offset [] mac session x =
       (updTransfer id (fun t => { t with touched := x.clk.hub }) x, 0,
         leBytes 1 id ++ [0, 0, 0] ++ leBytes 4 offset ++ slice t.data offset (Nat.min 1024 (t.length - offset)))) ∧
     (∀ (src : Src) (crc : Nat), t.write = false → runEnd src id crc mac session x =
       (endTransfer id x, 0, leBytes 1 id ++ [0, 0, 0] ++ leBytes 4 (crc32c t.data))) ∧
     (∀ (src : Src) (crc : Nat) (o : ObjRow), t.write = true → t.data.length = t.length → crc32c t.data = crc →
       objRow t.index t.sub = some o → runEnd src id crc mac session x =
         ((performWrite src true t.index t.sub o t.data (endTransfer id x)).1, (performWrite src true t.index t.sub o t.data (endTransfer id x)).2,
           leBytes 1 id ++ [0, 0, 0] ++ leBytes 4 crc)) ∧
     (∀ (src : Src) (crc : Nat), t.write = true → (t.data.length ≠ t.length ∨ crc32c t.data ≠ crc) →
       runEnd src id crc mac session x = (endTransfer id x, 0x13, [])) ∧
     (runAbort id mac session x = (endTransfer id x, 0, leBytes 1 id ++ [0, 0, 0])) ∧
     (x.released = true → linkDead x = false → (∀ e ∈ x.svc.transfers, e.1 = id → e.2.touched + 10000000000 ≤ x.clk.hub) →
       ∃ y, exec (.transferTimeout id) x = .next y ∧ (∀ e ∈ y.svc.transfers, e.1 ≠ id) ∧ y.svc.sessions = x.svc.sessions ∧
         y.objs = x.objs ∧ y.mem = x.mem ∧ y.reqs = x.reqs))

/-! ### Settings, images, counters (chapters 13, 15, 16) -/

/-- SETTINGS_STORE_RESET, a write of 1 to object 0x1140:00 where a NOR device is there, erases the settings store; the values of
area 0x11 stay in force; without a NOR device it is rejected (R425). OVERFLOW_CLEAR, a write of a group mask to object 0x8002:00, clears the overflow bit of every counter
of the groups it names; no count changes (R476).
BANDWIDTH_WINDOW at a boundary of the window in force, with no change of the window waiting, computes the twelve values from the
counts since the boundary before; where hub time has reached several boundaries, the last of these windows is one without traffic; a
change comes in force at the first boundary of its length, and the window that begins there has no result (R49, R478). No counter
changes. -/
def Obligations.SettingsOverflowAndBandwidth : Prop :=
  (∀ (src : Src) (mask : BitVec 8) (s : State), s.released = true →
     (mayWrite s src 0x1140 0 [1] = true → (beforeWrite src 0x1140 0 [1] s).nor.present = true →
       exec (.settingsStoreReset src 1) s = .next (wrote src 0x1140 0 [1] eraseSettings s)) ∧
     (mayWrite s src 0x1140 0 [1] = true → (beforeWrite src 0x1140 0 [1] s).nor.present = false →
       exec (.settingsStoreReset src 1) s = .next (keepFixed s true (afterWrite src 0x1140 0 [1] 0x0A (beforeWrite src 0x1140 0 [1] s)))) ∧
     (mayWrite s src 0x8002 0 [mask] = true →
       exec (.overflowClear src mask) s = .next (wrote src 0x8002 0 [mask] (clearOverflow mask.toNat) s)) ∧
     ∀ x : State, (eraseSettings x).nor.settings = [] ∧ (eraseSettings x).mem = x.mem ∧
       (∀ sub, sub < 256 → objGet (eraseSettings x) 0x1111 sub = objGet x 0x1111 sub) ∧
       (clearOverflow mask.toNat x).cnt.counts = x.cnt.counts ∧
       ∀ index sub, sub < 256 → ((objKey index sub) ∈ (clearOverflow mask.toNat x).cnt.ovf ↔
         (objKey index sub) ∈ x.cnt.ovf ∧ bit mask.toNat (counterGroup index) = false)) ∧
  ((∀ s : State, s.released = true → objGet s 0x8010 0 = s.cnt.w → 0 < s.cnt.w → nextEdge s.cnt.w s.cnt.last ≤ s.clk.hub →
     let len := s.cnt.w * 1000
     ∃ t, exec .bandwidthWindow s = .next t ∧ t.cnt.last = s.clk.hub / len * len ∧ t.cnt.base = sectorCounts s ∧
       t.cnt.counts = s.cnt.counts ∧ t.cnt.ovf = s.cnt.ovf ∧ t.cnt.valid = true ∧ t.cnt.w = s.cnt.w ∧ t.objs = s.objs ∧ t.mem = s.mem ∧
       (s.clk.hub < nextEdge s.cnt.w s.cnt.last + len →
         (s.cnt.valid = true → s.cnt.base.length = 12 → ∀ k, k < 12 →
           nth t.cnt.shown k 0 = (nth (sectorCounts s) k 0 + 2 ^ 48 - nth s.cnt.base k 0) % 2 ^ 48 * 32 / s.cnt.w) ∧
         (s.cnt.valid = false → t.cnt.shown = s.cnt.shown)) ∧
       (nextEdge s.cnt.w s.cnt.last + len ≤ s.clk.hub → ∀ k, nth t.cnt.shown k 0 = 0)) ∧
   ∀ s : State, s.released = true → objGet s 0x8010 0 ≠ s.cnt.w → 0 < s.cnt.w → 0 < objGet s 0x8010 0 →
     nextEdge (objGet s 0x8010 0) s.cnt.last ≤ nextEdge s.cnt.w s.cnt.last →
     nextEdge (objGet s 0x8010 0) s.cnt.last ≤ s.clk.hub → s.clk.hub < nextEdge (objGet s 0x8010 0) s.cnt.last + objGet s 0x8010 0 * 1000 →
     ∃ t, exec .bandwidthWindow s = .next t ∧ t.cnt.w = objGet s 0x8010 0 ∧ t.cnt.last = nextEdge (objGet s 0x8010 0) s.cnt.last ∧
       t.cnt.base = sectorCounts s ∧ t.cnt.valid = false ∧ t.cnt.shown = s.cnt.shown ∧ t.cnt.counts = s.cnt.counts ∧
       t.cnt.ovf = s.cnt.ovf ∧ t.objs = s.objs ∧ t.mem = s.mem)

/-- R465: a write of 1 to object 0x7822:00 (STAGING_CANCEL) erases the staging tag and no slot's; it is rejected while the staged image
is in force and its copy has not ended. Where no NOR device is there, no tag is, and the write is rejected (R433). -/
def Obligations.StagingCancelErasesTheTag : Prop :=
  ∀ (src : Src) (s : State), s.released = true → mayWrite s src 0x7822 0 [1] = true →
    let b := beforeWrite src 0x7822 0 [1] s
    (b.nor.present = true → stagingPinned b = false →
      exec (.stagingCancel src 1) s = .next (wrote src 0x7822 0 [1] cancelStaging s) ∧ (cancelStaging b).nor.staging = {} ∧
        (cancelStaging b).nor.slotA = b.nor.slotA ∧ (cancelStaging b).nor.slotB = b.nor.slotB) ∧
    (stagingPinned b = true ∨ b.nor.present = false →
      exec (.stagingCancel src 1) s = .next (keepFixed s true (afterWrite src 0x7822 0 [1] 0x0A b)))

/-- STAGING_WRITE in-band judges the image it carries: a good one becomes the staged image, a bad one is rejected and leaves the
staging region; one that arrives while a copy runs waits for its end (R464). IMAGE_COPY ends the copy of the staged image in force; a read-back that agrees gives the slot the image and
frees the staging region, the first that differs starts the copy again, and the second ends it as failed; then the writes that
waited run (R470). -/
def Obligations.ImagesAreStagedAndCopied : Prop :=
  ∀ (src : Src) (image : Bytes) (s : State), s.released = true →
    (mayWrite s src 0x7820 0 image = true → (beforeWrite src 0x7820 0 image s).image.copy ≠ 1 →
      (∃ p tag domain, src = .cp p tag domain) → (beforeWrite src 0x7820 0 image s).nor.present = true →
      let w := stageImage image (beforeWrite src 0x7820 0 image s)
      exec (.stagingWrite src image) s =
        .next (keepFixed s true (afterWrite src 0x7820 0 image (if w.2 then 0 else 0x0A) w.1))) ∧
    (mayWrite s src 0x7820 0 image = true → (beforeWrite src 0x7820 0 image s).image.copy = 1 →
      (∃ p tag domain, src = .cp p tag domain) → (beforeWrite src 0x7820 0 image s).nor.present = true →
      exec (.stagingWrite src image) s = .next (keepFixed s true (afterWrite src 0x7820 0 image 0x10
        ((beforeWrite src 0x7820 0 image s).onImage fun m => { m with waiting := m.waiting ++ [(src, image)] })))) ∧
    (∀ x : State, let r := judgeImage x x.image.security image
      (stageImage image x).2 = decide (r.1 = 0) ∧
      (r.1 = 0 → (stageImage image x).1.nor.staging = ⟨2, 0, image, imageDigest image⟩) ∧
      (r.1 ≠ 0 → (stageImage image x).1.nor.staging = x.nor.staging)) ∧
    (s.image.copy = 1 → s.nor.present = true →
      exec (.imageCopy true) s = .next (keepFixed s true (runStaging finishStaged (copyDone s))) ∧
      ((copyDone s).nor.staging = {} ∧ (copyDone s).image.copy = 0) ∧
      ((copyTarget s = 1 → (copyDone s).nor.slotA.state = 1 ∧ (copyDone s).nor.slotA.image = s.nor.staging.image ∧
          (copyDone s).nor.slotB = s.nor.slotB) ∧
        (copyTarget s = 2 → (copyDone s).nor.slotB.state = 1 ∧ (copyDone s).nor.slotB.image = s.nor.staging.image ∧
          (copyDone s).nor.slotA = s.nor.slotA) ∧ (copyTarget s = 1 ∨ copyTarget s = 2)) ∧
      (s.image.retried = true → exec (.imageCopy false) s = .next (keepFixed s true (runStaging finishStaged (copyFails s))) ∧
        (copyFails s).image.copy = 2) ∧
      (s.image.retried = false → ∃ t, exec (.imageCopy false) s = .next t ∧ t.image.copy = 1 ∧ t.image.retried = true ∧
        t.image.waiting = s.image.waiting))

/-! ### Tests and the test access port (chapter 16) -/

/-- TEST_START and TEST_STOP are writes of object 0x9010:00 with 1 and 2 in byte 0, judged by Table 16.4; SYNC_LOSS counts, for more than
16 mismatches of 64, one loss of a running test's lane; TEST_END of a test that was stopped, or has compared its bits, publishes its result record
and frees the identifier; a stop names the test of its identifier as stopped (R481 to R485). -/
def Obligations.TestsStartAndEnd : Prop :=
  ∀ (src : Src) (value : Bytes) (s : State), s.released = true →
    (∀ (i : Instr) (k : Nat), (i, k) ∈ [(Instr.testStart src value, 1), (Instr.testStop src value, 2)] →
      let bs := leBytes 1 k ++ value.drop 1
      mayWrite s src 0x9010 0 bs = true → (writeTest bs (beforeWrite src 0x9010 0 bs s)).2 = true →
      exec i s = .next (wrote src 0x9010 0 bs (fun x => (writeTest bs x).1) s)) ∧
    (∀ (bs : Bytes) (x : State) (id : Nat) (tg : Target), judgeTest x bs = 0 → field bs 0 1 = 1 → freeTest x = some id →
      testTarget bs = some tg → (writeTest bs x).2 = true ∧ (writeTest bs x).1.test.result = id * 256 ∧
        (writeTest bs x).1.test.tests = x.test.tests ++ [(id, { cmd := bs, target := tg, start := x.clk.hub, margin := bit (field bs 7 1) 0 })]) ∧
    (∀ (bs : Bytes) (x : State), judgeTest x bs = 0 → field bs 0 1 = 2 → writeTest bs x = (x.onTest fun t => { t with
      result := field bs 17 1 * 256,
      tests := t.tests.map fun e => if e.1 = field bs 17 1 then (e.1, { e.2 with stop := some 1 }) else e }, true)) ∧
    (∀ (test : Fin 16) (lane : Fin 68) (n : Nat) (t : Test), 16 < n → s.test.tests = [(test.val + 1, t)] → t.stop = none →
      lane.val < testLanes t.target →
      ∃ u, exec (.syncLoss test lane n) s = .next u ∧
        u.test.tests = [(test.val + 1, { t with syncs := put 0 lane.val (look 0 lane.val t.syncs + 1) t.syncs })] ∧
        u.test.results = s.test.results ∧ u.mem = s.mem ∧ u.reqs = s.reqs) ∧
    (∀ (test : Fin 16) (lanes : List LaneCount) (t : Test) (outcome : Nat),
      s.test.tests.find? (·.1 == test.val + 1) = some (test.val + 1, t) →
      (t.stop = some outcome ∨ (t.stop = none ∧ runComplete t lanes = true ∧ outcome = 0)) →
      ∃ u, exec (.testEnd test lanes) s = .next u ∧ (∀ e ∈ u.test.tests, e.1 ≠ test.val + 1) ∧
        (test.val + 1, resultRecord s (test.val + 1) outcome t lanes) ∈ u.test.results ∧ u.mem = s.mem ∧ u.reqs = s.reqs)

/-- R25: with tap_trst_n held low (TEST_LOGIC_RESET) the controller is in Test-Logic-Reset with IDCODE selected, and no instruction load
changes it.
Out of reset, a load of an instruction selects its data register: IDCODE 1, SAMPLE_PRELOAD and an EXTEST that is permitted the boundary
register, an open chain 3 and 4 (CHAIN_SELECT, INSTRUMENTS), BYPASS and every other code the bypass register; a closed
chain and an EXTEST that is not permitted give the bypass register. TAP_INSTRUCTION_LOAD loads by code
(R487 to R489, Table 16.9). -/
def Obligations.TapController : Prop :=
  (∀ s : State, s.released = true →
     (∃ t, exec (.testLogicReset true) s = .next t ∧ t.test.reset = true ∧ t.test.ir = 0x01 ∧ t.test.extest = false ∧ t.test.claims = [] ∧
       t.test.tests = s.test.tests ∧ t.mem = s.mem ∧ t.reqs = s.reqs ∧ t.objs = s.objs) ∧
     (s.test.reset = true → ∀ i ∈ [Instr.extest, .idcode, .samplePreload, .chainSelect, .bypass],
       exec i s = .next s ∧ (∀ code, exec (.tapInstructionLoad code) s = .next s) ∧ (∀ claim, exec (.instruments claim) s = .next s)) ∧
     (∃ t, exec (.testLogicReset false) s = .next t ∧ t.test.reset = false ∧ t.test.ir = s.test.ir ∧ t.test.tests = s.test.tests ∧
       t.mem = s.mem ∧ t.reqs = s.reqs)) ∧
  (∀ s : State, s.released = true → s.test.reset = false →
     (∃ t, exec .idcode s = .next t ∧ t.test.ir = 0x01 ∧ t.test.dr = 1 ∧ t.test.tests = s.test.tests ∧ t.mem = s.mem) ∧
     (∃ t, exec .bypass s = .next t ∧ t.test.ir = 0xFF ∧ t.test.dr = 0 ∧ t.test.tests = s.test.tests ∧ t.mem = s.mem) ∧
     (∃ t, exec .samplePreload s = .next t ∧ t.test.ir = 0x02 ∧ t.test.dr = 2 ∧ t.test.boundary.length = 73 ∧ t.mem = s.mem) ∧
     (∃ t, exec .extest s = .next t ∧ t.test.ir = 0x00 ∧ t.test.extest = extestOpen s ∧ t.test.dr = (if extestOpen s then 2 else 0) ∧ t.mem = s.mem) ∧
     (∃ t, exec .chainSelect s = .next t ∧ t.test.ir = 0x10 ∧ t.test.dr = (if chainOpen s then 3 else 0) ∧ t.mem = s.mem) ∧
     (∀ tg : Target, ∃ t, exec (.instruments (some tg)) s = .next t ∧ t.test.ir = 0x11 ∧ t.test.dr = (if chainOpen s then 4 else 0) ∧ t.mem = s.mem ∧
       (chainOpen s = true → targetBusy s tg = false → (targetPermitted s 0 tg || targetPermitted s 3 tg) = true →
         t.test.claims = s.test.claims ++ [tg]) ∧
       (chainOpen s = false ∨ (targetBusy s tg = true ∧ s.test.claims.contains tg = false) → t.test.claims = s.test.claims)) ∧
     (exec (.tapInstructionLoad 0x00) s = exec .extest s ∧ exec (.tapInstructionLoad 0x01) s = exec .idcode s ∧
       exec (.tapInstructionLoad 0x02) s = exec .samplePreload s ∧ exec (.tapInstructionLoad 0x10) s = exec .chainSelect s ∧
       exec (.tapInstructionLoad 0x11) s = exec (.instruments none) s ∧
       ∀ code : BitVec 8, code.toNat ∉ [0x00, 0x01, 0x02, 0x10, 0x11] →
         ∃ t, exec (.tapInstructionLoad code) s = .next t ∧ t.test.dr = 0 ∧ t.test.ir = code.toNat ∧ t.mem = s.mem))
end

