-- ==== Sys2Proof/Laws/Memory.lean ====
section
/-!
SUPPORT. The stacks' stored bytes keep their canonical form, and a byte written is the byte read.
-/
namespace Sys2Proof.Machine

theorem memWf_cons (k : Nat) (v : Byte) (r : List Host.Cell) :
    memWf ((k, v) :: r) = true ↔ v ≠ 0 ∧ (∀ c ∈ r, k < c.1) ∧ memWf r = true := by
  induction r generalizing k v with
  | nil => simp [memWf]
  | cons c r ih =>
    obtain ⟨k', v'⟩ := c
    have step : memWf ((k, v) :: (k', v') :: r) = true ↔ v ≠ 0 ∧ k < k' ∧ memWf ((k', v') :: r) = true := by
      simp [memWf, and_assoc]
    rw [step]
    constructor
    · rintro ⟨hv, hk, hr⟩
      refine ⟨hv, ?_, hr⟩
      intro c hc
      rcases List.mem_cons.mp hc with rfl | hc
      · exact hk
      · exact hk.trans (((ih k' v').mp hr).2.1 c hc)
    · rintro ⟨hv, hk, hr⟩
      exact ⟨hv, hk _ (List.mem_cons_self ..), hr⟩

/-- A listed byte after a write was listed before, or is the written one. -/
theorem mem_putByte {a : Nat} {b : Byte} {m : List Host.Cell} {c : Host.Cell} (h : c ∈ putByte a b m) : c = (a, b) ∨ c ∈ m := by
  induction m with
  | nil =>
    by_cases hb : b = 0 <;> simp_all [putByte]
  | cons x r ih =>
    obtain ⟨k, v⟩ := x
    unfold putByte at h
    split at h
    · rcases List.mem_cons.mp h with rfl | h
      · exact .inr (List.mem_cons_self ..)
      · exact (ih h).imp id (List.mem_cons_of_mem _)
    · split at h <;> split at h <;> simp_all
      rcases h with h | h <;> simp_all

/-- A write of one byte keeps the canonical form. -/
theorem putByte_memWf (a : Nat) (b : Byte) {m : List Host.Cell} (h : memWf m = true) : memWf (putByte a b m) = true := by
  induction m with
  | nil =>
    unfold putByte
    split
    · rfl
    · next hb => simpa [memWf] using hb
  | cons x r ih =>
    obtain ⟨k, v⟩ := x
    obtain ⟨hv, hk, hr⟩ := (memWf_cons k v r).mp h
    unfold putByte
    split
    · next hlt =>
      refine (memWf_cons _ _ _).mpr ⟨hv, ?_, ih hr⟩
      intro c hc
      rcases mem_putByte hc with rfl | hc
      · exact hlt
      · exact hk c hc
    · next hge =>
      split
      · next he =>
        subst he
        split
        · exact hr
        · next hb => exact (memWf_cons _ _ _).mpr ⟨hb, hk, hr⟩
      · next hne =>
        split
        · exact h
        · next hb =>
          refine (memWf_cons _ _ _).mpr ⟨hb, ?_, h⟩
          intro c hc
          rcases List.mem_cons.mp hc with rfl | hc
          · exact Nat.lt_of_le_of_ne (Nat.le_of_not_lt hge) (Ne.symm hne)
          · exact Nat.lt_of_le_of_lt (Nat.le_of_not_lt hge) (hk c hc)

/-- A write of bytes keeps the canonical form. -/
theorem putBytes_memWf (a : Nat) (bs : Bytes) {m : List Host.Cell} (h : memWf m = true) : memWf (putBytes a bs m) = true := by
  induction bs generalizing a m with
  | nil => exact h
  | cons b r ih => exact ih (a + 1) (putByte_memWf a b h)

/-- A write of a slot keeps the canonical form. -/
theorem putSlot_memWf (c bank row slot : Nat) (v : Slot) {s : State} (h : memWf s.mem = true) :
    memWf (putSlot c bank row slot v s).mem = true := putBytes_memWf _ _ h

/-- The memory of the state after reset has the canonical form. -/
theorem reset_memWf : memWf State.reset.mem = true := rfl

theorem byteAt_below {m : List Host.Cell} {a : Nat} (h : ∀ c ∈ m, a < c.1) : byteAt m a = 0 := by
  cases m with
  | nil => rfl
  | cons x r =>
    obtain ⟨k, v⟩ := x
    have hk : a < k := h _ (List.mem_cons_self ..)
    have h1 : ¬ k < a := by omega
    have h2 : ¬ k = a := by omega
    simp [byteAt, h1, h2]

/-- The byte written is the byte read. -/
theorem byteAt_putByte_same (a : Nat) (b : Byte) {m : List Host.Cell} (h : memWf m = true) : byteAt (putByte a b m) a = b := by
  induction m with
  | nil =>
    unfold putByte
    split
    · next hb => simp [byteAt, hb]
    · simp [byteAt]
  | cons x r ih =>
    obtain ⟨k, v⟩ := x
    obtain ⟨_, hk, hr⟩ := (memWf_cons k v r).mp h
    unfold putByte
    split
    · next hlt => simpa [byteAt, hlt] using ih hr
    · next hge =>
      split
      · next he =>
        subst he
        split
        · next hb => rw [byteAt_below hk, hb]
        · simp [byteAt]
      · next hne =>
        split
        · next hb => simp [byteAt, hge, hne, hb]
        · simp [byteAt]

/-- Every other byte reads as before. -/
theorem byteAt_putByte_other {a x : Nat} (b : Byte) {m : List Host.Cell} (hx : x ≠ a) (h : memWf m = true) :
    byteAt (putByte a b m) x = byteAt m x := by
  induction m with
  | nil =>
    have hxa : ¬ a = x := fun e => hx e.symm
    unfold putByte
    split
    · rfl
    · simp [byteAt, hxa]
  | cons c r ih =>
    obtain ⟨k, v⟩ := c
    obtain ⟨_, hk, hr⟩ := (memWf_cons k v r).mp h
    have hxa : ¬ a = x := fun e => hx e.symm
    unfold putByte
    split
    · next hlt => simp only [byteAt, ih hr]
    · next hge =>
      split
      · next he =>
        subst he
        split
        · next hb =>
          by_cases hlt : k < x
          · simp [byteAt, hlt]
          · rw [byteAt_below (fun c hc => by have := hk c hc; omega)]
            simp [byteAt, hlt, hxa]
        · simp [byteAt, hxa]
      · next hne =>
        split
        · rfl
        · by_cases hax : a < x
          · simp [byteAt, hax]
          · have h1 : ¬ k < x := by omega
            have h2 : ¬ k = x := by omega
            simp [byteAt, hax, hxa, h1, h2]

end Sys2Proof.Machine
end

