-- ==== Sys2Proof/Laws/State.lean ====
section
/-!
SUPPORT. Each update of one part of the state, field by field: the part takes the new value, every other field stays.
-/
namespace Sys2Proof.Machine

section
variable (s : State) (f : Ident → Ident)
@[simp] theorem State.onIdent_pending : (s.onIdent f).pending = s.pending := rfl
@[simp] theorem State.onIdent_variant : (s.onIdent f).variant = s.variant := rfl
@[simp] theorem State.onIdent_released : (s.onIdent f).released = s.released := rfl
@[simp] theorem State.onIdent_ident : (s.onIdent f).ident = f s.ident := rfl
@[simp] theorem State.onIdent_clk : (s.onIdent f).clk = s.clk := rfl
@[simp] theorem State.onIdent_nor : (s.onIdent f).nor = s.nor := rfl
@[simp] theorem State.onIdent_objs : (s.onIdent f).objs = s.objs := rfl
@[simp] theorem State.onIdent_win : (s.onIdent f).win = s.win := rfl
@[simp] theorem State.onIdent_map : (s.onIdent f).map = s.map := rfl
@[simp] theorem State.onIdent_ports : (s.onIdent f).ports = s.ports := rfl
@[simp] theorem State.onIdent_eng : (s.onIdent f).eng = s.eng := rfl
@[simp] theorem State.onIdent_reqs : (s.onIdent f).reqs = s.reqs := rfl
@[simp] theorem State.onIdent_nextReq : (s.onIdent f).nextReq = s.nextReq := rfl
@[simp] theorem State.onIdent_reg : (s.onIdent f).reg = s.reg := rfl
@[simp] theorem State.onIdent_tree : (s.onIdent f).tree = s.tree := rfl
@[simp] theorem State.onIdent_chans : (s.onIdent f).chans = s.chans := rfl
@[simp] theorem State.onIdent_stk : (s.onIdent f).stk = s.stk := rfl
@[simp] theorem State.onIdent_mem : (s.onIdent f).mem = s.mem := rfl
@[simp] theorem State.onIdent_touch : (s.onIdent f).touch = s.touch := rfl
@[simp] theorem State.onIdent_rehomes : (s.onIdent f).rehomes = s.rehomes := rfl
@[simp] theorem State.onIdent_codec : (s.onIdent f).codec = s.codec := rfl
@[simp] theorem State.onIdent_engines : (s.onIdent f).engines = s.engines := rfl
@[simp] theorem State.onIdent_fabric : (s.onIdent f).fabric = s.fabric := rfl
@[simp] theorem State.onIdent_links : (s.onIdent f).links = s.links := rfl
@[simp] theorem State.onIdent_quads : (s.onIdent f).quads = s.quads := rfl
@[simp] theorem State.onIdent_start : (s.onIdent f).start = s.start := rfl
@[simp] theorem State.onIdent_power : (s.onIdent f).power = s.power := rfl
@[simp] theorem State.onIdent_svc : (s.onIdent f).svc = s.svc := rfl
@[simp] theorem State.onIdent_image : (s.onIdent f).image = s.image := rfl
@[simp] theorem State.onIdent_test : (s.onIdent f).test = s.test := rfl
@[simp] theorem State.onIdent_cnt : (s.onIdent f).cnt = s.cnt := rfl
@[simp] theorem State.onIdent_draw : (s.onIdent f).draw = s.draw := rfl
end

section
variable (s : State) (f : Clocks → Clocks)
@[simp] theorem State.onClk_pending : (s.onClk f).pending = s.pending := rfl
@[simp] theorem State.onClk_variant : (s.onClk f).variant = s.variant := rfl
@[simp] theorem State.onClk_released : (s.onClk f).released = s.released := rfl
@[simp] theorem State.onClk_ident : (s.onClk f).ident = s.ident := rfl
@[simp] theorem State.onClk_clk : (s.onClk f).clk = f s.clk := rfl
@[simp] theorem State.onClk_nor : (s.onClk f).nor = s.nor := rfl
@[simp] theorem State.onClk_objs : (s.onClk f).objs = s.objs := rfl
@[simp] theorem State.onClk_win : (s.onClk f).win = s.win := rfl
@[simp] theorem State.onClk_map : (s.onClk f).map = s.map := rfl
@[simp] theorem State.onClk_ports : (s.onClk f).ports = s.ports := rfl
@[simp] theorem State.onClk_eng : (s.onClk f).eng = s.eng := rfl
@[simp] theorem State.onClk_reqs : (s.onClk f).reqs = s.reqs := rfl
@[simp] theorem State.onClk_nextReq : (s.onClk f).nextReq = s.nextReq := rfl
@[simp] theorem State.onClk_reg : (s.onClk f).reg = s.reg := rfl
@[simp] theorem State.onClk_tree : (s.onClk f).tree = s.tree := rfl
@[simp] theorem State.onClk_chans : (s.onClk f).chans = s.chans := rfl
@[simp] theorem State.onClk_stk : (s.onClk f).stk = s.stk := rfl
@[simp] theorem State.onClk_mem : (s.onClk f).mem = s.mem := rfl
@[simp] theorem State.onClk_touch : (s.onClk f).touch = s.touch := rfl
@[simp] theorem State.onClk_rehomes : (s.onClk f).rehomes = s.rehomes := rfl
@[simp] theorem State.onClk_codec : (s.onClk f).codec = s.codec := rfl
@[simp] theorem State.onClk_engines : (s.onClk f).engines = s.engines := rfl
@[simp] theorem State.onClk_fabric : (s.onClk f).fabric = s.fabric := rfl
@[simp] theorem State.onClk_links : (s.onClk f).links = s.links := rfl
@[simp] theorem State.onClk_quads : (s.onClk f).quads = s.quads := rfl
@[simp] theorem State.onClk_start : (s.onClk f).start = s.start := rfl
@[simp] theorem State.onClk_power : (s.onClk f).power = s.power := rfl
@[simp] theorem State.onClk_svc : (s.onClk f).svc = s.svc := rfl
@[simp] theorem State.onClk_image : (s.onClk f).image = s.image := rfl
@[simp] theorem State.onClk_test : (s.onClk f).test = s.test := rfl
@[simp] theorem State.onClk_cnt : (s.onClk f).cnt = s.cnt := rfl
@[simp] theorem State.onClk_draw : (s.onClk f).draw = s.draw := rfl
end

section
variable (s : State) (f : Nor → Nor)
@[simp] theorem State.onNor_pending : (s.onNor f).pending = s.pending := rfl
@[simp] theorem State.onNor_variant : (s.onNor f).variant = s.variant := rfl
@[simp] theorem State.onNor_released : (s.onNor f).released = s.released := rfl
@[simp] theorem State.onNor_ident : (s.onNor f).ident = s.ident := rfl
@[simp] theorem State.onNor_clk : (s.onNor f).clk = s.clk := rfl
@[simp] theorem State.onNor_nor : (s.onNor f).nor = f s.nor := rfl
@[simp] theorem State.onNor_objs : (s.onNor f).objs = s.objs := rfl
@[simp] theorem State.onNor_win : (s.onNor f).win = s.win := rfl
@[simp] theorem State.onNor_map : (s.onNor f).map = s.map := rfl
@[simp] theorem State.onNor_ports : (s.onNor f).ports = s.ports := rfl
@[simp] theorem State.onNor_eng : (s.onNor f).eng = s.eng := rfl
@[simp] theorem State.onNor_reqs : (s.onNor f).reqs = s.reqs := rfl
@[simp] theorem State.onNor_nextReq : (s.onNor f).nextReq = s.nextReq := rfl
@[simp] theorem State.onNor_reg : (s.onNor f).reg = s.reg := rfl
@[simp] theorem State.onNor_tree : (s.onNor f).tree = s.tree := rfl
@[simp] theorem State.onNor_chans : (s.onNor f).chans = s.chans := rfl
@[simp] theorem State.onNor_stk : (s.onNor f).stk = s.stk := rfl
@[simp] theorem State.onNor_mem : (s.onNor f).mem = s.mem := rfl
@[simp] theorem State.onNor_touch : (s.onNor f).touch = s.touch := rfl
@[simp] theorem State.onNor_rehomes : (s.onNor f).rehomes = s.rehomes := rfl
@[simp] theorem State.onNor_codec : (s.onNor f).codec = s.codec := rfl
@[simp] theorem State.onNor_engines : (s.onNor f).engines = s.engines := rfl
@[simp] theorem State.onNor_fabric : (s.onNor f).fabric = s.fabric := rfl
@[simp] theorem State.onNor_links : (s.onNor f).links = s.links := rfl
@[simp] theorem State.onNor_quads : (s.onNor f).quads = s.quads := rfl
@[simp] theorem State.onNor_start : (s.onNor f).start = s.start := rfl
@[simp] theorem State.onNor_power : (s.onNor f).power = s.power := rfl
@[simp] theorem State.onNor_svc : (s.onNor f).svc = s.svc := rfl
@[simp] theorem State.onNor_image : (s.onNor f).image = s.image := rfl
@[simp] theorem State.onNor_test : (s.onNor f).test = s.test := rfl
@[simp] theorem State.onNor_cnt : (s.onNor f).cnt = s.cnt := rfl
@[simp] theorem State.onNor_draw : (s.onNor f).draw = s.draw := rfl
end

section
variable (s : State) (f : List (Nat × Nat) → List (Nat × Nat))
@[simp] theorem State.onObjs_pending : (s.onObjs f).pending = s.pending := rfl
@[simp] theorem State.onObjs_variant : (s.onObjs f).variant = s.variant := rfl
@[simp] theorem State.onObjs_released : (s.onObjs f).released = s.released := rfl
@[simp] theorem State.onObjs_ident : (s.onObjs f).ident = s.ident := rfl
@[simp] theorem State.onObjs_clk : (s.onObjs f).clk = s.clk := rfl
@[simp] theorem State.onObjs_nor : (s.onObjs f).nor = s.nor := rfl
@[simp] theorem State.onObjs_objs : (s.onObjs f).objs = f s.objs := rfl
@[simp] theorem State.onObjs_win : (s.onObjs f).win = s.win := rfl
@[simp] theorem State.onObjs_map : (s.onObjs f).map = s.map := rfl
@[simp] theorem State.onObjs_ports : (s.onObjs f).ports = s.ports := rfl
@[simp] theorem State.onObjs_eng : (s.onObjs f).eng = s.eng := rfl
@[simp] theorem State.onObjs_reqs : (s.onObjs f).reqs = s.reqs := rfl
@[simp] theorem State.onObjs_nextReq : (s.onObjs f).nextReq = s.nextReq := rfl
@[simp] theorem State.onObjs_reg : (s.onObjs f).reg = s.reg := rfl
@[simp] theorem State.onObjs_tree : (s.onObjs f).tree = s.tree := rfl
@[simp] theorem State.onObjs_chans : (s.onObjs f).chans = s.chans := rfl
@[simp] theorem State.onObjs_stk : (s.onObjs f).stk = s.stk := rfl
@[simp] theorem State.onObjs_mem : (s.onObjs f).mem = s.mem := rfl
@[simp] theorem State.onObjs_touch : (s.onObjs f).touch = s.touch := rfl
@[simp] theorem State.onObjs_rehomes : (s.onObjs f).rehomes = s.rehomes := rfl
@[simp] theorem State.onObjs_codec : (s.onObjs f).codec = s.codec := rfl
@[simp] theorem State.onObjs_engines : (s.onObjs f).engines = s.engines := rfl
@[simp] theorem State.onObjs_fabric : (s.onObjs f).fabric = s.fabric := rfl
@[simp] theorem State.onObjs_links : (s.onObjs f).links = s.links := rfl
@[simp] theorem State.onObjs_quads : (s.onObjs f).quads = s.quads := rfl
@[simp] theorem State.onObjs_start : (s.onObjs f).start = s.start := rfl
@[simp] theorem State.onObjs_power : (s.onObjs f).power = s.power := rfl
@[simp] theorem State.onObjs_svc : (s.onObjs f).svc = s.svc := rfl
@[simp] theorem State.onObjs_image : (s.onObjs f).image = s.image := rfl
@[simp] theorem State.onObjs_test : (s.onObjs f).test = s.test := rfl
@[simp] theorem State.onObjs_cnt : (s.onObjs f).cnt = s.cnt := rfl
@[simp] theorem State.onObjs_draw : (s.onObjs f).draw = s.draw := rfl
end

section
variable (s : State) (f : List Windows → List Windows)
@[simp] theorem State.onWin_pending : (s.onWin f).pending = s.pending := rfl
@[simp] theorem State.onWin_variant : (s.onWin f).variant = s.variant := rfl
@[simp] theorem State.onWin_released : (s.onWin f).released = s.released := rfl
@[simp] theorem State.onWin_ident : (s.onWin f).ident = s.ident := rfl
@[simp] theorem State.onWin_clk : (s.onWin f).clk = s.clk := rfl
@[simp] theorem State.onWin_nor : (s.onWin f).nor = s.nor := rfl
@[simp] theorem State.onWin_objs : (s.onWin f).objs = s.objs := rfl
@[simp] theorem State.onWin_win : (s.onWin f).win = f s.win := rfl
@[simp] theorem State.onWin_map : (s.onWin f).map = s.map := rfl
@[simp] theorem State.onWin_ports : (s.onWin f).ports = s.ports := rfl
@[simp] theorem State.onWin_eng : (s.onWin f).eng = s.eng := rfl
@[simp] theorem State.onWin_reqs : (s.onWin f).reqs = s.reqs := rfl
@[simp] theorem State.onWin_nextReq : (s.onWin f).nextReq = s.nextReq := rfl
@[simp] theorem State.onWin_reg : (s.onWin f).reg = s.reg := rfl
@[simp] theorem State.onWin_tree : (s.onWin f).tree = s.tree := rfl
@[simp] theorem State.onWin_chans : (s.onWin f).chans = s.chans := rfl
@[simp] theorem State.onWin_stk : (s.onWin f).stk = s.stk := rfl
@[simp] theorem State.onWin_mem : (s.onWin f).mem = s.mem := rfl
@[simp] theorem State.onWin_touch : (s.onWin f).touch = s.touch := rfl
@[simp] theorem State.onWin_rehomes : (s.onWin f).rehomes = s.rehomes := rfl
@[simp] theorem State.onWin_codec : (s.onWin f).codec = s.codec := rfl
@[simp] theorem State.onWin_engines : (s.onWin f).engines = s.engines := rfl
@[simp] theorem State.onWin_fabric : (s.onWin f).fabric = s.fabric := rfl
@[simp] theorem State.onWin_links : (s.onWin f).links = s.links := rfl
@[simp] theorem State.onWin_quads : (s.onWin f).quads = s.quads := rfl
@[simp] theorem State.onWin_start : (s.onWin f).start = s.start := rfl
@[simp] theorem State.onWin_power : (s.onWin f).power = s.power := rfl
@[simp] theorem State.onWin_svc : (s.onWin f).svc = s.svc := rfl
@[simp] theorem State.onWin_image : (s.onWin f).image = s.image := rfl
@[simp] theorem State.onWin_test : (s.onWin f).test = s.test := rfl
@[simp] theorem State.onWin_cnt : (s.onWin f).cnt = s.cnt := rfl
@[simp] theorem State.onWin_draw : (s.onWin f).draw = s.draw := rfl
end

section
variable (s : State) (f : SegMap → SegMap)
@[simp] theorem State.onMap_pending : (s.onMap f).pending = s.pending := rfl
@[simp] theorem State.onMap_variant : (s.onMap f).variant = s.variant := rfl
@[simp] theorem State.onMap_released : (s.onMap f).released = s.released := rfl
@[simp] theorem State.onMap_ident : (s.onMap f).ident = s.ident := rfl
@[simp] theorem State.onMap_clk : (s.onMap f).clk = s.clk := rfl
@[simp] theorem State.onMap_nor : (s.onMap f).nor = s.nor := rfl
@[simp] theorem State.onMap_objs : (s.onMap f).objs = s.objs := rfl
@[simp] theorem State.onMap_win : (s.onMap f).win = s.win := rfl
@[simp] theorem State.onMap_map : (s.onMap f).map = f s.map := rfl
@[simp] theorem State.onMap_ports : (s.onMap f).ports = s.ports := rfl
@[simp] theorem State.onMap_eng : (s.onMap f).eng = s.eng := rfl
@[simp] theorem State.onMap_reqs : (s.onMap f).reqs = s.reqs := rfl
@[simp] theorem State.onMap_nextReq : (s.onMap f).nextReq = s.nextReq := rfl
@[simp] theorem State.onMap_reg : (s.onMap f).reg = s.reg := rfl
@[simp] theorem State.onMap_tree : (s.onMap f).tree = s.tree := rfl
@[simp] theorem State.onMap_chans : (s.onMap f).chans = s.chans := rfl
@[simp] theorem State.onMap_stk : (s.onMap f).stk = s.stk := rfl
@[simp] theorem State.onMap_mem : (s.onMap f).mem = s.mem := rfl
@[simp] theorem State.onMap_touch : (s.onMap f).touch = s.touch := rfl
@[simp] theorem State.onMap_rehomes : (s.onMap f).rehomes = s.rehomes := rfl
@[simp] theorem State.onMap_codec : (s.onMap f).codec = s.codec := rfl
@[simp] theorem State.onMap_engines : (s.onMap f).engines = s.engines := rfl
@[simp] theorem State.onMap_fabric : (s.onMap f).fabric = s.fabric := rfl
@[simp] theorem State.onMap_links : (s.onMap f).links = s.links := rfl
@[simp] theorem State.onMap_quads : (s.onMap f).quads = s.quads := rfl
@[simp] theorem State.onMap_start : (s.onMap f).start = s.start := rfl
@[simp] theorem State.onMap_power : (s.onMap f).power = s.power := rfl
@[simp] theorem State.onMap_svc : (s.onMap f).svc = s.svc := rfl
@[simp] theorem State.onMap_image : (s.onMap f).image = s.image := rfl
@[simp] theorem State.onMap_test : (s.onMap f).test = s.test := rfl
@[simp] theorem State.onMap_cnt : (s.onMap f).cnt = s.cnt := rfl
@[simp] theorem State.onMap_draw : (s.onMap f).draw = s.draw := rfl
end

section
variable (s : State) (f : List Port → List Port)
@[simp] theorem State.onPorts_pending : (s.onPorts f).pending = s.pending := rfl
@[simp] theorem State.onPorts_variant : (s.onPorts f).variant = s.variant := rfl
@[simp] theorem State.onPorts_released : (s.onPorts f).released = s.released := rfl
@[simp] theorem State.onPorts_ident : (s.onPorts f).ident = s.ident := rfl
@[simp] theorem State.onPorts_clk : (s.onPorts f).clk = s.clk := rfl
@[simp] theorem State.onPorts_nor : (s.onPorts f).nor = s.nor := rfl
@[simp] theorem State.onPorts_objs : (s.onPorts f).objs = s.objs := rfl
@[simp] theorem State.onPorts_win : (s.onPorts f).win = s.win := rfl
@[simp] theorem State.onPorts_map : (s.onPorts f).map = s.map := rfl
@[simp] theorem State.onPorts_ports : (s.onPorts f).ports = f s.ports := rfl
@[simp] theorem State.onPorts_eng : (s.onPorts f).eng = s.eng := rfl
@[simp] theorem State.onPorts_reqs : (s.onPorts f).reqs = s.reqs := rfl
@[simp] theorem State.onPorts_nextReq : (s.onPorts f).nextReq = s.nextReq := rfl
@[simp] theorem State.onPorts_reg : (s.onPorts f).reg = s.reg := rfl
@[simp] theorem State.onPorts_tree : (s.onPorts f).tree = s.tree := rfl
@[simp] theorem State.onPorts_chans : (s.onPorts f).chans = s.chans := rfl
@[simp] theorem State.onPorts_stk : (s.onPorts f).stk = s.stk := rfl
@[simp] theorem State.onPorts_mem : (s.onPorts f).mem = s.mem := rfl
@[simp] theorem State.onPorts_touch : (s.onPorts f).touch = s.touch := rfl
@[simp] theorem State.onPorts_rehomes : (s.onPorts f).rehomes = s.rehomes := rfl
@[simp] theorem State.onPorts_codec : (s.onPorts f).codec = s.codec := rfl
@[simp] theorem State.onPorts_engines : (s.onPorts f).engines = s.engines := rfl
@[simp] theorem State.onPorts_fabric : (s.onPorts f).fabric = s.fabric := rfl
@[simp] theorem State.onPorts_links : (s.onPorts f).links = s.links := rfl
@[simp] theorem State.onPorts_quads : (s.onPorts f).quads = s.quads := rfl
@[simp] theorem State.onPorts_start : (s.onPorts f).start = s.start := rfl
@[simp] theorem State.onPorts_power : (s.onPorts f).power = s.power := rfl
@[simp] theorem State.onPorts_svc : (s.onPorts f).svc = s.svc := rfl
@[simp] theorem State.onPorts_image : (s.onPorts f).image = s.image := rfl
@[simp] theorem State.onPorts_test : (s.onPorts f).test = s.test := rfl
@[simp] theorem State.onPorts_cnt : (s.onPorts f).cnt = s.cnt := rfl
@[simp] theorem State.onPorts_draw : (s.onPorts f).draw = s.draw := rfl
end

section
variable (s : State) (f : Port → Port)
@[simp] theorem State.onEng_pending : (s.onEng f).pending = s.pending := rfl
@[simp] theorem State.onEng_variant : (s.onEng f).variant = s.variant := rfl
@[simp] theorem State.onEng_released : (s.onEng f).released = s.released := rfl
@[simp] theorem State.onEng_ident : (s.onEng f).ident = s.ident := rfl
@[simp] theorem State.onEng_clk : (s.onEng f).clk = s.clk := rfl
@[simp] theorem State.onEng_nor : (s.onEng f).nor = s.nor := rfl
@[simp] theorem State.onEng_objs : (s.onEng f).objs = s.objs := rfl
@[simp] theorem State.onEng_win : (s.onEng f).win = s.win := rfl
@[simp] theorem State.onEng_map : (s.onEng f).map = s.map := rfl
@[simp] theorem State.onEng_ports : (s.onEng f).ports = s.ports := rfl
@[simp] theorem State.onEng_eng : (s.onEng f).eng = f s.eng := rfl
@[simp] theorem State.onEng_reqs : (s.onEng f).reqs = s.reqs := rfl
@[simp] theorem State.onEng_nextReq : (s.onEng f).nextReq = s.nextReq := rfl
@[simp] theorem State.onEng_reg : (s.onEng f).reg = s.reg := rfl
@[simp] theorem State.onEng_tree : (s.onEng f).tree = s.tree := rfl
@[simp] theorem State.onEng_chans : (s.onEng f).chans = s.chans := rfl
@[simp] theorem State.onEng_stk : (s.onEng f).stk = s.stk := rfl
@[simp] theorem State.onEng_mem : (s.onEng f).mem = s.mem := rfl
@[simp] theorem State.onEng_touch : (s.onEng f).touch = s.touch := rfl
@[simp] theorem State.onEng_rehomes : (s.onEng f).rehomes = s.rehomes := rfl
@[simp] theorem State.onEng_codec : (s.onEng f).codec = s.codec := rfl
@[simp] theorem State.onEng_engines : (s.onEng f).engines = s.engines := rfl
@[simp] theorem State.onEng_fabric : (s.onEng f).fabric = s.fabric := rfl
@[simp] theorem State.onEng_links : (s.onEng f).links = s.links := rfl
@[simp] theorem State.onEng_quads : (s.onEng f).quads = s.quads := rfl
@[simp] theorem State.onEng_start : (s.onEng f).start = s.start := rfl
@[simp] theorem State.onEng_power : (s.onEng f).power = s.power := rfl
@[simp] theorem State.onEng_svc : (s.onEng f).svc = s.svc := rfl
@[simp] theorem State.onEng_image : (s.onEng f).image = s.image := rfl
@[simp] theorem State.onEng_test : (s.onEng f).test = s.test := rfl
@[simp] theorem State.onEng_cnt : (s.onEng f).cnt = s.cnt := rfl
@[simp] theorem State.onEng_draw : (s.onEng f).draw = s.draw := rfl
end

section
variable (s : State) (f : List Req → List Req)
@[simp] theorem State.onReqs_pending : (s.onReqs f).pending = s.pending := rfl
@[simp] theorem State.onReqs_variant : (s.onReqs f).variant = s.variant := rfl
@[simp] theorem State.onReqs_released : (s.onReqs f).released = s.released := rfl
@[simp] theorem State.onReqs_ident : (s.onReqs f).ident = s.ident := rfl
@[simp] theorem State.onReqs_clk : (s.onReqs f).clk = s.clk := rfl
@[simp] theorem State.onReqs_nor : (s.onReqs f).nor = s.nor := rfl
@[simp] theorem State.onReqs_objs : (s.onReqs f).objs = s.objs := rfl
@[simp] theorem State.onReqs_win : (s.onReqs f).win = s.win := rfl
@[simp] theorem State.onReqs_map : (s.onReqs f).map = s.map := rfl
@[simp] theorem State.onReqs_ports : (s.onReqs f).ports = s.ports := rfl
@[simp] theorem State.onReqs_eng : (s.onReqs f).eng = s.eng := rfl
@[simp] theorem State.onReqs_reqs : (s.onReqs f).reqs = f s.reqs := rfl
@[simp] theorem State.onReqs_nextReq : (s.onReqs f).nextReq = s.nextReq := rfl
@[simp] theorem State.onReqs_reg : (s.onReqs f).reg = s.reg := rfl
@[simp] theorem State.onReqs_tree : (s.onReqs f).tree = s.tree := rfl
@[simp] theorem State.onReqs_chans : (s.onReqs f).chans = s.chans := rfl
@[simp] theorem State.onReqs_stk : (s.onReqs f).stk = s.stk := rfl
@[simp] theorem State.onReqs_mem : (s.onReqs f).mem = s.mem := rfl
@[simp] theorem State.onReqs_touch : (s.onReqs f).touch = s.touch := rfl
@[simp] theorem State.onReqs_rehomes : (s.onReqs f).rehomes = s.rehomes := rfl
@[simp] theorem State.onReqs_codec : (s.onReqs f).codec = s.codec := rfl
@[simp] theorem State.onReqs_engines : (s.onReqs f).engines = s.engines := rfl
@[simp] theorem State.onReqs_fabric : (s.onReqs f).fabric = s.fabric := rfl
@[simp] theorem State.onReqs_links : (s.onReqs f).links = s.links := rfl
@[simp] theorem State.onReqs_quads : (s.onReqs f).quads = s.quads := rfl
@[simp] theorem State.onReqs_start : (s.onReqs f).start = s.start := rfl
@[simp] theorem State.onReqs_power : (s.onReqs f).power = s.power := rfl
@[simp] theorem State.onReqs_svc : (s.onReqs f).svc = s.svc := rfl
@[simp] theorem State.onReqs_image : (s.onReqs f).image = s.image := rfl
@[simp] theorem State.onReqs_test : (s.onReqs f).test = s.test := rfl
@[simp] theorem State.onReqs_cnt : (s.onReqs f).cnt = s.cnt := rfl
@[simp] theorem State.onReqs_draw : (s.onReqs f).draw = s.draw := rfl
end

section
variable (s : State) (f : Regs → Regs)
@[simp] theorem State.onReg_pending : (s.onReg f).pending = s.pending := rfl
@[simp] theorem State.onReg_variant : (s.onReg f).variant = s.variant := rfl
@[simp] theorem State.onReg_released : (s.onReg f).released = s.released := rfl
@[simp] theorem State.onReg_ident : (s.onReg f).ident = s.ident := rfl
@[simp] theorem State.onReg_clk : (s.onReg f).clk = s.clk := rfl
@[simp] theorem State.onReg_nor : (s.onReg f).nor = s.nor := rfl
@[simp] theorem State.onReg_objs : (s.onReg f).objs = s.objs := rfl
@[simp] theorem State.onReg_win : (s.onReg f).win = s.win := rfl
@[simp] theorem State.onReg_map : (s.onReg f).map = s.map := rfl
@[simp] theorem State.onReg_ports : (s.onReg f).ports = s.ports := rfl
@[simp] theorem State.onReg_eng : (s.onReg f).eng = s.eng := rfl
@[simp] theorem State.onReg_reqs : (s.onReg f).reqs = s.reqs := rfl
@[simp] theorem State.onReg_nextReq : (s.onReg f).nextReq = s.nextReq := rfl
@[simp] theorem State.onReg_reg : (s.onReg f).reg = f s.reg := rfl
@[simp] theorem State.onReg_tree : (s.onReg f).tree = s.tree := rfl
@[simp] theorem State.onReg_chans : (s.onReg f).chans = s.chans := rfl
@[simp] theorem State.onReg_stk : (s.onReg f).stk = s.stk := rfl
@[simp] theorem State.onReg_mem : (s.onReg f).mem = s.mem := rfl
@[simp] theorem State.onReg_touch : (s.onReg f).touch = s.touch := rfl
@[simp] theorem State.onReg_rehomes : (s.onReg f).rehomes = s.rehomes := rfl
@[simp] theorem State.onReg_codec : (s.onReg f).codec = s.codec := rfl
@[simp] theorem State.onReg_engines : (s.onReg f).engines = s.engines := rfl
@[simp] theorem State.onReg_fabric : (s.onReg f).fabric = s.fabric := rfl
@[simp] theorem State.onReg_links : (s.onReg f).links = s.links := rfl
@[simp] theorem State.onReg_quads : (s.onReg f).quads = s.quads := rfl
@[simp] theorem State.onReg_start : (s.onReg f).start = s.start := rfl
@[simp] theorem State.onReg_power : (s.onReg f).power = s.power := rfl
@[simp] theorem State.onReg_svc : (s.onReg f).svc = s.svc := rfl
@[simp] theorem State.onReg_image : (s.onReg f).image = s.image := rfl
@[simp] theorem State.onReg_test : (s.onReg f).test = s.test := rfl
@[simp] theorem State.onReg_cnt : (s.onReg f).cnt = s.cnt := rfl
@[simp] theorem State.onReg_draw : (s.onReg f).draw = s.draw := rfl
end

section
variable (s : State) (f : Tree → Tree)
@[simp] theorem State.onTree_pending : (s.onTree f).pending = s.pending := rfl
@[simp] theorem State.onTree_variant : (s.onTree f).variant = s.variant := rfl
@[simp] theorem State.onTree_released : (s.onTree f).released = s.released := rfl
@[simp] theorem State.onTree_ident : (s.onTree f).ident = s.ident := rfl
@[simp] theorem State.onTree_clk : (s.onTree f).clk = s.clk := rfl
@[simp] theorem State.onTree_nor : (s.onTree f).nor = s.nor := rfl
@[simp] theorem State.onTree_objs : (s.onTree f).objs = s.objs := rfl
@[simp] theorem State.onTree_win : (s.onTree f).win = s.win := rfl
@[simp] theorem State.onTree_map : (s.onTree f).map = s.map := rfl
@[simp] theorem State.onTree_ports : (s.onTree f).ports = s.ports := rfl
@[simp] theorem State.onTree_eng : (s.onTree f).eng = s.eng := rfl
@[simp] theorem State.onTree_reqs : (s.onTree f).reqs = s.reqs := rfl
@[simp] theorem State.onTree_nextReq : (s.onTree f).nextReq = s.nextReq := rfl
@[simp] theorem State.onTree_reg : (s.onTree f).reg = s.reg := rfl
@[simp] theorem State.onTree_tree : (s.onTree f).tree = f s.tree := rfl
@[simp] theorem State.onTree_chans : (s.onTree f).chans = s.chans := rfl
@[simp] theorem State.onTree_stk : (s.onTree f).stk = s.stk := rfl
@[simp] theorem State.onTree_mem : (s.onTree f).mem = s.mem := rfl
@[simp] theorem State.onTree_touch : (s.onTree f).touch = s.touch := rfl
@[simp] theorem State.onTree_rehomes : (s.onTree f).rehomes = s.rehomes := rfl
@[simp] theorem State.onTree_codec : (s.onTree f).codec = s.codec := rfl
@[simp] theorem State.onTree_engines : (s.onTree f).engines = s.engines := rfl
@[simp] theorem State.onTree_fabric : (s.onTree f).fabric = s.fabric := rfl
@[simp] theorem State.onTree_links : (s.onTree f).links = s.links := rfl
@[simp] theorem State.onTree_quads : (s.onTree f).quads = s.quads := rfl
@[simp] theorem State.onTree_start : (s.onTree f).start = s.start := rfl
@[simp] theorem State.onTree_power : (s.onTree f).power = s.power := rfl
@[simp] theorem State.onTree_svc : (s.onTree f).svc = s.svc := rfl
@[simp] theorem State.onTree_image : (s.onTree f).image = s.image := rfl
@[simp] theorem State.onTree_test : (s.onTree f).test = s.test := rfl
@[simp] theorem State.onTree_cnt : (s.onTree f).cnt = s.cnt := rfl
@[simp] theorem State.onTree_draw : (s.onTree f).draw = s.draw := rfl
end

section
variable (s : State) (f : List (Nat × Chan) → List (Nat × Chan))
@[simp] theorem State.onChans_pending : (s.onChans f).pending = s.pending := rfl
@[simp] theorem State.onChans_variant : (s.onChans f).variant = s.variant := rfl
@[simp] theorem State.onChans_released : (s.onChans f).released = s.released := rfl
@[simp] theorem State.onChans_ident : (s.onChans f).ident = s.ident := rfl
@[simp] theorem State.onChans_clk : (s.onChans f).clk = s.clk := rfl
@[simp] theorem State.onChans_nor : (s.onChans f).nor = s.nor := rfl
@[simp] theorem State.onChans_objs : (s.onChans f).objs = s.objs := rfl
@[simp] theorem State.onChans_win : (s.onChans f).win = s.win := rfl
@[simp] theorem State.onChans_map : (s.onChans f).map = s.map := rfl
@[simp] theorem State.onChans_ports : (s.onChans f).ports = s.ports := rfl
@[simp] theorem State.onChans_eng : (s.onChans f).eng = s.eng := rfl
@[simp] theorem State.onChans_reqs : (s.onChans f).reqs = s.reqs := rfl
@[simp] theorem State.onChans_nextReq : (s.onChans f).nextReq = s.nextReq := rfl
@[simp] theorem State.onChans_reg : (s.onChans f).reg = s.reg := rfl
@[simp] theorem State.onChans_tree : (s.onChans f).tree = s.tree := rfl
@[simp] theorem State.onChans_chans : (s.onChans f).chans = f s.chans := rfl
@[simp] theorem State.onChans_stk : (s.onChans f).stk = s.stk := rfl
@[simp] theorem State.onChans_mem : (s.onChans f).mem = s.mem := rfl
@[simp] theorem State.onChans_touch : (s.onChans f).touch = s.touch := rfl
@[simp] theorem State.onChans_rehomes : (s.onChans f).rehomes = s.rehomes := rfl
@[simp] theorem State.onChans_codec : (s.onChans f).codec = s.codec := rfl
@[simp] theorem State.onChans_engines : (s.onChans f).engines = s.engines := rfl
@[simp] theorem State.onChans_fabric : (s.onChans f).fabric = s.fabric := rfl
@[simp] theorem State.onChans_links : (s.onChans f).links = s.links := rfl
@[simp] theorem State.onChans_quads : (s.onChans f).quads = s.quads := rfl
@[simp] theorem State.onChans_start : (s.onChans f).start = s.start := rfl
@[simp] theorem State.onChans_power : (s.onChans f).power = s.power := rfl
@[simp] theorem State.onChans_svc : (s.onChans f).svc = s.svc := rfl
@[simp] theorem State.onChans_image : (s.onChans f).image = s.image := rfl
@[simp] theorem State.onChans_test : (s.onChans f).test = s.test := rfl
@[simp] theorem State.onChans_cnt : (s.onChans f).cnt = s.cnt := rfl
@[simp] theorem State.onChans_draw : (s.onChans f).draw = s.draw := rfl
end

section
variable (s : State) (f : List Stack → List Stack)
@[simp] theorem State.onStk_pending : (s.onStk f).pending = s.pending := rfl
@[simp] theorem State.onStk_variant : (s.onStk f).variant = s.variant := rfl
@[simp] theorem State.onStk_released : (s.onStk f).released = s.released := rfl
@[simp] theorem State.onStk_ident : (s.onStk f).ident = s.ident := rfl
@[simp] theorem State.onStk_clk : (s.onStk f).clk = s.clk := rfl
@[simp] theorem State.onStk_nor : (s.onStk f).nor = s.nor := rfl
@[simp] theorem State.onStk_objs : (s.onStk f).objs = s.objs := rfl
@[simp] theorem State.onStk_win : (s.onStk f).win = s.win := rfl
@[simp] theorem State.onStk_map : (s.onStk f).map = s.map := rfl
@[simp] theorem State.onStk_ports : (s.onStk f).ports = s.ports := rfl
@[simp] theorem State.onStk_eng : (s.onStk f).eng = s.eng := rfl
@[simp] theorem State.onStk_reqs : (s.onStk f).reqs = s.reqs := rfl
@[simp] theorem State.onStk_nextReq : (s.onStk f).nextReq = s.nextReq := rfl
@[simp] theorem State.onStk_reg : (s.onStk f).reg = s.reg := rfl
@[simp] theorem State.onStk_tree : (s.onStk f).tree = s.tree := rfl
@[simp] theorem State.onStk_chans : (s.onStk f).chans = s.chans := rfl
@[simp] theorem State.onStk_stk : (s.onStk f).stk = f s.stk := rfl
@[simp] theorem State.onStk_mem : (s.onStk f).mem = s.mem := rfl
@[simp] theorem State.onStk_touch : (s.onStk f).touch = s.touch := rfl
@[simp] theorem State.onStk_rehomes : (s.onStk f).rehomes = s.rehomes := rfl
@[simp] theorem State.onStk_codec : (s.onStk f).codec = s.codec := rfl
@[simp] theorem State.onStk_engines : (s.onStk f).engines = s.engines := rfl
@[simp] theorem State.onStk_fabric : (s.onStk f).fabric = s.fabric := rfl
@[simp] theorem State.onStk_links : (s.onStk f).links = s.links := rfl
@[simp] theorem State.onStk_quads : (s.onStk f).quads = s.quads := rfl
@[simp] theorem State.onStk_start : (s.onStk f).start = s.start := rfl
@[simp] theorem State.onStk_power : (s.onStk f).power = s.power := rfl
@[simp] theorem State.onStk_svc : (s.onStk f).svc = s.svc := rfl
@[simp] theorem State.onStk_image : (s.onStk f).image = s.image := rfl
@[simp] theorem State.onStk_test : (s.onStk f).test = s.test := rfl
@[simp] theorem State.onStk_cnt : (s.onStk f).cnt = s.cnt := rfl
@[simp] theorem State.onStk_draw : (s.onStk f).draw = s.draw := rfl
end

section
variable (s : State) (f : List Host.Cell → List Host.Cell)
@[simp] theorem State.onMem_pending : (s.onMem f).pending = s.pending := rfl
@[simp] theorem State.onMem_variant : (s.onMem f).variant = s.variant := rfl
@[simp] theorem State.onMem_released : (s.onMem f).released = s.released := rfl
@[simp] theorem State.onMem_ident : (s.onMem f).ident = s.ident := rfl
@[simp] theorem State.onMem_clk : (s.onMem f).clk = s.clk := rfl
@[simp] theorem State.onMem_nor : (s.onMem f).nor = s.nor := rfl
@[simp] theorem State.onMem_objs : (s.onMem f).objs = s.objs := rfl
@[simp] theorem State.onMem_win : (s.onMem f).win = s.win := rfl
@[simp] theorem State.onMem_map : (s.onMem f).map = s.map := rfl
@[simp] theorem State.onMem_ports : (s.onMem f).ports = s.ports := rfl
@[simp] theorem State.onMem_eng : (s.onMem f).eng = s.eng := rfl
@[simp] theorem State.onMem_reqs : (s.onMem f).reqs = s.reqs := rfl
@[simp] theorem State.onMem_nextReq : (s.onMem f).nextReq = s.nextReq := rfl
@[simp] theorem State.onMem_reg : (s.onMem f).reg = s.reg := rfl
@[simp] theorem State.onMem_tree : (s.onMem f).tree = s.tree := rfl
@[simp] theorem State.onMem_chans : (s.onMem f).chans = s.chans := rfl
@[simp] theorem State.onMem_stk : (s.onMem f).stk = s.stk := rfl
@[simp] theorem State.onMem_mem : (s.onMem f).mem = f s.mem := rfl
@[simp] theorem State.onMem_touch : (s.onMem f).touch = s.touch := rfl
@[simp] theorem State.onMem_rehomes : (s.onMem f).rehomes = s.rehomes := rfl
@[simp] theorem State.onMem_codec : (s.onMem f).codec = s.codec := rfl
@[simp] theorem State.onMem_engines : (s.onMem f).engines = s.engines := rfl
@[simp] theorem State.onMem_fabric : (s.onMem f).fabric = s.fabric := rfl
@[simp] theorem State.onMem_links : (s.onMem f).links = s.links := rfl
@[simp] theorem State.onMem_quads : (s.onMem f).quads = s.quads := rfl
@[simp] theorem State.onMem_start : (s.onMem f).start = s.start := rfl
@[simp] theorem State.onMem_power : (s.onMem f).power = s.power := rfl
@[simp] theorem State.onMem_svc : (s.onMem f).svc = s.svc := rfl
@[simp] theorem State.onMem_image : (s.onMem f).image = s.image := rfl
@[simp] theorem State.onMem_test : (s.onMem f).test = s.test := rfl
@[simp] theorem State.onMem_cnt : (s.onMem f).cnt = s.cnt := rfl
@[simp] theorem State.onMem_draw : (s.onMem f).draw = s.draw := rfl
end

section
variable (s : State) (f : List Nat → List Nat)
@[simp] theorem State.onTouch_pending : (s.onTouch f).pending = s.pending := rfl
@[simp] theorem State.onTouch_variant : (s.onTouch f).variant = s.variant := rfl
@[simp] theorem State.onTouch_released : (s.onTouch f).released = s.released := rfl
@[simp] theorem State.onTouch_ident : (s.onTouch f).ident = s.ident := rfl
@[simp] theorem State.onTouch_clk : (s.onTouch f).clk = s.clk := rfl
@[simp] theorem State.onTouch_nor : (s.onTouch f).nor = s.nor := rfl
@[simp] theorem State.onTouch_objs : (s.onTouch f).objs = s.objs := rfl
@[simp] theorem State.onTouch_win : (s.onTouch f).win = s.win := rfl
@[simp] theorem State.onTouch_map : (s.onTouch f).map = s.map := rfl
@[simp] theorem State.onTouch_ports : (s.onTouch f).ports = s.ports := rfl
@[simp] theorem State.onTouch_eng : (s.onTouch f).eng = s.eng := rfl
@[simp] theorem State.onTouch_reqs : (s.onTouch f).reqs = s.reqs := rfl
@[simp] theorem State.onTouch_nextReq : (s.onTouch f).nextReq = s.nextReq := rfl
@[simp] theorem State.onTouch_reg : (s.onTouch f).reg = s.reg := rfl
@[simp] theorem State.onTouch_tree : (s.onTouch f).tree = s.tree := rfl
@[simp] theorem State.onTouch_chans : (s.onTouch f).chans = s.chans := rfl
@[simp] theorem State.onTouch_stk : (s.onTouch f).stk = s.stk := rfl
@[simp] theorem State.onTouch_mem : (s.onTouch f).mem = s.mem := rfl
@[simp] theorem State.onTouch_touch : (s.onTouch f).touch = f s.touch := rfl
@[simp] theorem State.onTouch_rehomes : (s.onTouch f).rehomes = s.rehomes := rfl
@[simp] theorem State.onTouch_codec : (s.onTouch f).codec = s.codec := rfl
@[simp] theorem State.onTouch_engines : (s.onTouch f).engines = s.engines := rfl
@[simp] theorem State.onTouch_fabric : (s.onTouch f).fabric = s.fabric := rfl
@[simp] theorem State.onTouch_links : (s.onTouch f).links = s.links := rfl
@[simp] theorem State.onTouch_quads : (s.onTouch f).quads = s.quads := rfl
@[simp] theorem State.onTouch_start : (s.onTouch f).start = s.start := rfl
@[simp] theorem State.onTouch_power : (s.onTouch f).power = s.power := rfl
@[simp] theorem State.onTouch_svc : (s.onTouch f).svc = s.svc := rfl
@[simp] theorem State.onTouch_image : (s.onTouch f).image = s.image := rfl
@[simp] theorem State.onTouch_test : (s.onTouch f).test = s.test := rfl
@[simp] theorem State.onTouch_cnt : (s.onTouch f).cnt = s.cnt := rfl
@[simp] theorem State.onTouch_draw : (s.onTouch f).draw = s.draw := rfl
end

section
variable (s : State) (f : List Rehome → List Rehome)
@[simp] theorem State.onRehomes_pending : (s.onRehomes f).pending = s.pending := rfl
@[simp] theorem State.onRehomes_variant : (s.onRehomes f).variant = s.variant := rfl
@[simp] theorem State.onRehomes_released : (s.onRehomes f).released = s.released := rfl
@[simp] theorem State.onRehomes_ident : (s.onRehomes f).ident = s.ident := rfl
@[simp] theorem State.onRehomes_clk : (s.onRehomes f).clk = s.clk := rfl
@[simp] theorem State.onRehomes_nor : (s.onRehomes f).nor = s.nor := rfl
@[simp] theorem State.onRehomes_objs : (s.onRehomes f).objs = s.objs := rfl
@[simp] theorem State.onRehomes_win : (s.onRehomes f).win = s.win := rfl
@[simp] theorem State.onRehomes_map : (s.onRehomes f).map = s.map := rfl
@[simp] theorem State.onRehomes_ports : (s.onRehomes f).ports = s.ports := rfl
@[simp] theorem State.onRehomes_eng : (s.onRehomes f).eng = s.eng := rfl
@[simp] theorem State.onRehomes_reqs : (s.onRehomes f).reqs = s.reqs := rfl
@[simp] theorem State.onRehomes_nextReq : (s.onRehomes f).nextReq = s.nextReq := rfl
@[simp] theorem State.onRehomes_reg : (s.onRehomes f).reg = s.reg := rfl
@[simp] theorem State.onRehomes_tree : (s.onRehomes f).tree = s.tree := rfl
@[simp] theorem State.onRehomes_chans : (s.onRehomes f).chans = s.chans := rfl
@[simp] theorem State.onRehomes_stk : (s.onRehomes f).stk = s.stk := rfl
@[simp] theorem State.onRehomes_mem : (s.onRehomes f).mem = s.mem := rfl
@[simp] theorem State.onRehomes_touch : (s.onRehomes f).touch = s.touch := rfl
@[simp] theorem State.onRehomes_rehomes : (s.onRehomes f).rehomes = f s.rehomes := rfl
@[simp] theorem State.onRehomes_codec : (s.onRehomes f).codec = s.codec := rfl
@[simp] theorem State.onRehomes_engines : (s.onRehomes f).engines = s.engines := rfl
@[simp] theorem State.onRehomes_fabric : (s.onRehomes f).fabric = s.fabric := rfl
@[simp] theorem State.onRehomes_links : (s.onRehomes f).links = s.links := rfl
@[simp] theorem State.onRehomes_quads : (s.onRehomes f).quads = s.quads := rfl
@[simp] theorem State.onRehomes_start : (s.onRehomes f).start = s.start := rfl
@[simp] theorem State.onRehomes_power : (s.onRehomes f).power = s.power := rfl
@[simp] theorem State.onRehomes_svc : (s.onRehomes f).svc = s.svc := rfl
@[simp] theorem State.onRehomes_image : (s.onRehomes f).image = s.image := rfl
@[simp] theorem State.onRehomes_test : (s.onRehomes f).test = s.test := rfl
@[simp] theorem State.onRehomes_cnt : (s.onRehomes f).cnt = s.cnt := rfl
@[simp] theorem State.onRehomes_draw : (s.onRehomes f).draw = s.draw := rfl
end

section
variable (s : State) (f : Codec → Codec)
@[simp] theorem State.onCodec_pending : (s.onCodec f).pending = s.pending := rfl
@[simp] theorem State.onCodec_variant : (s.onCodec f).variant = s.variant := rfl
@[simp] theorem State.onCodec_released : (s.onCodec f).released = s.released := rfl
@[simp] theorem State.onCodec_ident : (s.onCodec f).ident = s.ident := rfl
@[simp] theorem State.onCodec_clk : (s.onCodec f).clk = s.clk := rfl
@[simp] theorem State.onCodec_nor : (s.onCodec f).nor = s.nor := rfl
@[simp] theorem State.onCodec_objs : (s.onCodec f).objs = s.objs := rfl
@[simp] theorem State.onCodec_win : (s.onCodec f).win = s.win := rfl
@[simp] theorem State.onCodec_map : (s.onCodec f).map = s.map := rfl
@[simp] theorem State.onCodec_ports : (s.onCodec f).ports = s.ports := rfl
@[simp] theorem State.onCodec_eng : (s.onCodec f).eng = s.eng := rfl
@[simp] theorem State.onCodec_reqs : (s.onCodec f).reqs = s.reqs := rfl
@[simp] theorem State.onCodec_nextReq : (s.onCodec f).nextReq = s.nextReq := rfl
@[simp] theorem State.onCodec_reg : (s.onCodec f).reg = s.reg := rfl
@[simp] theorem State.onCodec_tree : (s.onCodec f).tree = s.tree := rfl
@[simp] theorem State.onCodec_chans : (s.onCodec f).chans = s.chans := rfl
@[simp] theorem State.onCodec_stk : (s.onCodec f).stk = s.stk := rfl
@[simp] theorem State.onCodec_mem : (s.onCodec f).mem = s.mem := rfl
@[simp] theorem State.onCodec_touch : (s.onCodec f).touch = s.touch := rfl
@[simp] theorem State.onCodec_rehomes : (s.onCodec f).rehomes = s.rehomes := rfl
@[simp] theorem State.onCodec_codec : (s.onCodec f).codec = f s.codec := rfl
@[simp] theorem State.onCodec_engines : (s.onCodec f).engines = s.engines := rfl
@[simp] theorem State.onCodec_fabric : (s.onCodec f).fabric = s.fabric := rfl
@[simp] theorem State.onCodec_links : (s.onCodec f).links = s.links := rfl
@[simp] theorem State.onCodec_quads : (s.onCodec f).quads = s.quads := rfl
@[simp] theorem State.onCodec_start : (s.onCodec f).start = s.start := rfl
@[simp] theorem State.onCodec_power : (s.onCodec f).power = s.power := rfl
@[simp] theorem State.onCodec_svc : (s.onCodec f).svc = s.svc := rfl
@[simp] theorem State.onCodec_image : (s.onCodec f).image = s.image := rfl
@[simp] theorem State.onCodec_test : (s.onCodec f).test = s.test := rfl
@[simp] theorem State.onCodec_cnt : (s.onCodec f).cnt = s.cnt := rfl
@[simp] theorem State.onCodec_draw : (s.onCodec f).draw = s.draw := rfl
end

section
variable (s : State) (f : Engines → Engines)
@[simp] theorem State.onEngines_pending : (s.onEngines f).pending = s.pending := rfl
@[simp] theorem State.onEngines_variant : (s.onEngines f).variant = s.variant := rfl
@[simp] theorem State.onEngines_released : (s.onEngines f).released = s.released := rfl
@[simp] theorem State.onEngines_ident : (s.onEngines f).ident = s.ident := rfl
@[simp] theorem State.onEngines_clk : (s.onEngines f).clk = s.clk := rfl
@[simp] theorem State.onEngines_nor : (s.onEngines f).nor = s.nor := rfl
@[simp] theorem State.onEngines_objs : (s.onEngines f).objs = s.objs := rfl
@[simp] theorem State.onEngines_win : (s.onEngines f).win = s.win := rfl
@[simp] theorem State.onEngines_map : (s.onEngines f).map = s.map := rfl
@[simp] theorem State.onEngines_ports : (s.onEngines f).ports = s.ports := rfl
@[simp] theorem State.onEngines_eng : (s.onEngines f).eng = s.eng := rfl
@[simp] theorem State.onEngines_reqs : (s.onEngines f).reqs = s.reqs := rfl
@[simp] theorem State.onEngines_nextReq : (s.onEngines f).nextReq = s.nextReq := rfl
@[simp] theorem State.onEngines_reg : (s.onEngines f).reg = s.reg := rfl
@[simp] theorem State.onEngines_tree : (s.onEngines f).tree = s.tree := rfl
@[simp] theorem State.onEngines_chans : (s.onEngines f).chans = s.chans := rfl
@[simp] theorem State.onEngines_stk : (s.onEngines f).stk = s.stk := rfl
@[simp] theorem State.onEngines_mem : (s.onEngines f).mem = s.mem := rfl
@[simp] theorem State.onEngines_touch : (s.onEngines f).touch = s.touch := rfl
@[simp] theorem State.onEngines_rehomes : (s.onEngines f).rehomes = s.rehomes := rfl
@[simp] theorem State.onEngines_codec : (s.onEngines f).codec = s.codec := rfl
@[simp] theorem State.onEngines_engines : (s.onEngines f).engines = f s.engines := rfl
@[simp] theorem State.onEngines_fabric : (s.onEngines f).fabric = s.fabric := rfl
@[simp] theorem State.onEngines_links : (s.onEngines f).links = s.links := rfl
@[simp] theorem State.onEngines_quads : (s.onEngines f).quads = s.quads := rfl
@[simp] theorem State.onEngines_start : (s.onEngines f).start = s.start := rfl
@[simp] theorem State.onEngines_power : (s.onEngines f).power = s.power := rfl
@[simp] theorem State.onEngines_svc : (s.onEngines f).svc = s.svc := rfl
@[simp] theorem State.onEngines_image : (s.onEngines f).image = s.image := rfl
@[simp] theorem State.onEngines_test : (s.onEngines f).test = s.test := rfl
@[simp] theorem State.onEngines_cnt : (s.onEngines f).cnt = s.cnt := rfl
@[simp] theorem State.onEngines_draw : (s.onEngines f).draw = s.draw := rfl
end

section
variable (s : State) (f : Fabric → Fabric)
@[simp] theorem State.onFabric_pending : (s.onFabric f).pending = s.pending := rfl
@[simp] theorem State.onFabric_variant : (s.onFabric f).variant = s.variant := rfl
@[simp] theorem State.onFabric_released : (s.onFabric f).released = s.released := rfl
@[simp] theorem State.onFabric_ident : (s.onFabric f).ident = s.ident := rfl
@[simp] theorem State.onFabric_clk : (s.onFabric f).clk = s.clk := rfl
@[simp] theorem State.onFabric_nor : (s.onFabric f).nor = s.nor := rfl
@[simp] theorem State.onFabric_objs : (s.onFabric f).objs = s.objs := rfl
@[simp] theorem State.onFabric_win : (s.onFabric f).win = s.win := rfl
@[simp] theorem State.onFabric_map : (s.onFabric f).map = s.map := rfl
@[simp] theorem State.onFabric_ports : (s.onFabric f).ports = s.ports := rfl
@[simp] theorem State.onFabric_eng : (s.onFabric f).eng = s.eng := rfl
@[simp] theorem State.onFabric_reqs : (s.onFabric f).reqs = s.reqs := rfl
@[simp] theorem State.onFabric_nextReq : (s.onFabric f).nextReq = s.nextReq := rfl
@[simp] theorem State.onFabric_reg : (s.onFabric f).reg = s.reg := rfl
@[simp] theorem State.onFabric_tree : (s.onFabric f).tree = s.tree := rfl
@[simp] theorem State.onFabric_chans : (s.onFabric f).chans = s.chans := rfl
@[simp] theorem State.onFabric_stk : (s.onFabric f).stk = s.stk := rfl
@[simp] theorem State.onFabric_mem : (s.onFabric f).mem = s.mem := rfl
@[simp] theorem State.onFabric_touch : (s.onFabric f).touch = s.touch := rfl
@[simp] theorem State.onFabric_rehomes : (s.onFabric f).rehomes = s.rehomes := rfl
@[simp] theorem State.onFabric_codec : (s.onFabric f).codec = s.codec := rfl
@[simp] theorem State.onFabric_engines : (s.onFabric f).engines = s.engines := rfl
@[simp] theorem State.onFabric_fabric : (s.onFabric f).fabric = f s.fabric := rfl
@[simp] theorem State.onFabric_links : (s.onFabric f).links = s.links := rfl
@[simp] theorem State.onFabric_quads : (s.onFabric f).quads = s.quads := rfl
@[simp] theorem State.onFabric_start : (s.onFabric f).start = s.start := rfl
@[simp] theorem State.onFabric_power : (s.onFabric f).power = s.power := rfl
@[simp] theorem State.onFabric_svc : (s.onFabric f).svc = s.svc := rfl
@[simp] theorem State.onFabric_image : (s.onFabric f).image = s.image := rfl
@[simp] theorem State.onFabric_test : (s.onFabric f).test = s.test := rfl
@[simp] theorem State.onFabric_cnt : (s.onFabric f).cnt = s.cnt := rfl
@[simp] theorem State.onFabric_draw : (s.onFabric f).draw = s.draw := rfl
end

section
variable (s : State) (f : List LinkGroup → List LinkGroup)
@[simp] theorem State.onLinks_pending : (s.onLinks f).pending = s.pending := rfl
@[simp] theorem State.onLinks_variant : (s.onLinks f).variant = s.variant := rfl
@[simp] theorem State.onLinks_released : (s.onLinks f).released = s.released := rfl
@[simp] theorem State.onLinks_ident : (s.onLinks f).ident = s.ident := rfl
@[simp] theorem State.onLinks_clk : (s.onLinks f).clk = s.clk := rfl
@[simp] theorem State.onLinks_nor : (s.onLinks f).nor = s.nor := rfl
@[simp] theorem State.onLinks_objs : (s.onLinks f).objs = s.objs := rfl
@[simp] theorem State.onLinks_win : (s.onLinks f).win = s.win := rfl
@[simp] theorem State.onLinks_map : (s.onLinks f).map = s.map := rfl
@[simp] theorem State.onLinks_ports : (s.onLinks f).ports = s.ports := rfl
@[simp] theorem State.onLinks_eng : (s.onLinks f).eng = s.eng := rfl
@[simp] theorem State.onLinks_reqs : (s.onLinks f).reqs = s.reqs := rfl
@[simp] theorem State.onLinks_nextReq : (s.onLinks f).nextReq = s.nextReq := rfl
@[simp] theorem State.onLinks_reg : (s.onLinks f).reg = s.reg := rfl
@[simp] theorem State.onLinks_tree : (s.onLinks f).tree = s.tree := rfl
@[simp] theorem State.onLinks_chans : (s.onLinks f).chans = s.chans := rfl
@[simp] theorem State.onLinks_stk : (s.onLinks f).stk = s.stk := rfl
@[simp] theorem State.onLinks_mem : (s.onLinks f).mem = s.mem := rfl
@[simp] theorem State.onLinks_touch : (s.onLinks f).touch = s.touch := rfl
@[simp] theorem State.onLinks_rehomes : (s.onLinks f).rehomes = s.rehomes := rfl
@[simp] theorem State.onLinks_codec : (s.onLinks f).codec = s.codec := rfl
@[simp] theorem State.onLinks_engines : (s.onLinks f).engines = s.engines := rfl
@[simp] theorem State.onLinks_fabric : (s.onLinks f).fabric = s.fabric := rfl
@[simp] theorem State.onLinks_links : (s.onLinks f).links = f s.links := rfl
@[simp] theorem State.onLinks_quads : (s.onLinks f).quads = s.quads := rfl
@[simp] theorem State.onLinks_start : (s.onLinks f).start = s.start := rfl
@[simp] theorem State.onLinks_power : (s.onLinks f).power = s.power := rfl
@[simp] theorem State.onLinks_svc : (s.onLinks f).svc = s.svc := rfl
@[simp] theorem State.onLinks_image : (s.onLinks f).image = s.image := rfl
@[simp] theorem State.onLinks_test : (s.onLinks f).test = s.test := rfl
@[simp] theorem State.onLinks_cnt : (s.onLinks f).cnt = s.cnt := rfl
@[simp] theorem State.onLinks_draw : (s.onLinks f).draw = s.draw := rfl
end

section
variable (s : State) (f : List Quad → List Quad)
@[simp] theorem State.onQuads_pending : (s.onQuads f).pending = s.pending := rfl
@[simp] theorem State.onQuads_variant : (s.onQuads f).variant = s.variant := rfl
@[simp] theorem State.onQuads_released : (s.onQuads f).released = s.released := rfl
@[simp] theorem State.onQuads_ident : (s.onQuads f).ident = s.ident := rfl
@[simp] theorem State.onQuads_clk : (s.onQuads f).clk = s.clk := rfl
@[simp] theorem State.onQuads_nor : (s.onQuads f).nor = s.nor := rfl
@[simp] theorem State.onQuads_objs : (s.onQuads f).objs = s.objs := rfl
@[simp] theorem State.onQuads_win : (s.onQuads f).win = s.win := rfl
@[simp] theorem State.onQuads_map : (s.onQuads f).map = s.map := rfl
@[simp] theorem State.onQuads_ports : (s.onQuads f).ports = s.ports := rfl
@[simp] theorem State.onQuads_eng : (s.onQuads f).eng = s.eng := rfl
@[simp] theorem State.onQuads_reqs : (s.onQuads f).reqs = s.reqs := rfl
@[simp] theorem State.onQuads_nextReq : (s.onQuads f).nextReq = s.nextReq := rfl
@[simp] theorem State.onQuads_reg : (s.onQuads f).reg = s.reg := rfl
@[simp] theorem State.onQuads_tree : (s.onQuads f).tree = s.tree := rfl
@[simp] theorem State.onQuads_chans : (s.onQuads f).chans = s.chans := rfl
@[simp] theorem State.onQuads_stk : (s.onQuads f).stk = s.stk := rfl
@[simp] theorem State.onQuads_mem : (s.onQuads f).mem = s.mem := rfl
@[simp] theorem State.onQuads_touch : (s.onQuads f).touch = s.touch := rfl
@[simp] theorem State.onQuads_rehomes : (s.onQuads f).rehomes = s.rehomes := rfl
@[simp] theorem State.onQuads_codec : (s.onQuads f).codec = s.codec := rfl
@[simp] theorem State.onQuads_engines : (s.onQuads f).engines = s.engines := rfl
@[simp] theorem State.onQuads_fabric : (s.onQuads f).fabric = s.fabric := rfl
@[simp] theorem State.onQuads_links : (s.onQuads f).links = s.links := rfl
@[simp] theorem State.onQuads_quads : (s.onQuads f).quads = f s.quads := rfl
@[simp] theorem State.onQuads_start : (s.onQuads f).start = s.start := rfl
@[simp] theorem State.onQuads_power : (s.onQuads f).power = s.power := rfl
@[simp] theorem State.onQuads_svc : (s.onQuads f).svc = s.svc := rfl
@[simp] theorem State.onQuads_image : (s.onQuads f).image = s.image := rfl
@[simp] theorem State.onQuads_test : (s.onQuads f).test = s.test := rfl
@[simp] theorem State.onQuads_cnt : (s.onQuads f).cnt = s.cnt := rfl
@[simp] theorem State.onQuads_draw : (s.onQuads f).draw = s.draw := rfl
end

section
variable (s : State) (f : Startup → Startup)
@[simp] theorem State.onStart_pending : (s.onStart f).pending = s.pending := rfl
@[simp] theorem State.onStart_variant : (s.onStart f).variant = s.variant := rfl
@[simp] theorem State.onStart_released : (s.onStart f).released = s.released := rfl
@[simp] theorem State.onStart_ident : (s.onStart f).ident = s.ident := rfl
@[simp] theorem State.onStart_clk : (s.onStart f).clk = s.clk := rfl
@[simp] theorem State.onStart_nor : (s.onStart f).nor = s.nor := rfl
@[simp] theorem State.onStart_objs : (s.onStart f).objs = s.objs := rfl
@[simp] theorem State.onStart_win : (s.onStart f).win = s.win := rfl
@[simp] theorem State.onStart_map : (s.onStart f).map = s.map := rfl
@[simp] theorem State.onStart_ports : (s.onStart f).ports = s.ports := rfl
@[simp] theorem State.onStart_eng : (s.onStart f).eng = s.eng := rfl
@[simp] theorem State.onStart_reqs : (s.onStart f).reqs = s.reqs := rfl
@[simp] theorem State.onStart_nextReq : (s.onStart f).nextReq = s.nextReq := rfl
@[simp] theorem State.onStart_reg : (s.onStart f).reg = s.reg := rfl
@[simp] theorem State.onStart_tree : (s.onStart f).tree = s.tree := rfl
@[simp] theorem State.onStart_chans : (s.onStart f).chans = s.chans := rfl
@[simp] theorem State.onStart_stk : (s.onStart f).stk = s.stk := rfl
@[simp] theorem State.onStart_mem : (s.onStart f).mem = s.mem := rfl
@[simp] theorem State.onStart_touch : (s.onStart f).touch = s.touch := rfl
@[simp] theorem State.onStart_rehomes : (s.onStart f).rehomes = s.rehomes := rfl
@[simp] theorem State.onStart_codec : (s.onStart f).codec = s.codec := rfl
@[simp] theorem State.onStart_engines : (s.onStart f).engines = s.engines := rfl
@[simp] theorem State.onStart_fabric : (s.onStart f).fabric = s.fabric := rfl
@[simp] theorem State.onStart_links : (s.onStart f).links = s.links := rfl
@[simp] theorem State.onStart_quads : (s.onStart f).quads = s.quads := rfl
@[simp] theorem State.onStart_start : (s.onStart f).start = f s.start := rfl
@[simp] theorem State.onStart_power : (s.onStart f).power = s.power := rfl
@[simp] theorem State.onStart_svc : (s.onStart f).svc = s.svc := rfl
@[simp] theorem State.onStart_image : (s.onStart f).image = s.image := rfl
@[simp] theorem State.onStart_test : (s.onStart f).test = s.test := rfl
@[simp] theorem State.onStart_cnt : (s.onStart f).cnt = s.cnt := rfl
@[simp] theorem State.onStart_draw : (s.onStart f).draw = s.draw := rfl
end

section
variable (s : State) (f : Power → Power)
@[simp] theorem State.onPower_pending : (s.onPower f).pending = s.pending := rfl
@[simp] theorem State.onPower_variant : (s.onPower f).variant = s.variant := rfl
@[simp] theorem State.onPower_released : (s.onPower f).released = s.released := rfl
@[simp] theorem State.onPower_ident : (s.onPower f).ident = s.ident := rfl
@[simp] theorem State.onPower_clk : (s.onPower f).clk = s.clk := rfl
@[simp] theorem State.onPower_nor : (s.onPower f).nor = s.nor := rfl
@[simp] theorem State.onPower_objs : (s.onPower f).objs = s.objs := rfl
@[simp] theorem State.onPower_win : (s.onPower f).win = s.win := rfl
@[simp] theorem State.onPower_map : (s.onPower f).map = s.map := rfl
@[simp] theorem State.onPower_ports : (s.onPower f).ports = s.ports := rfl
@[simp] theorem State.onPower_eng : (s.onPower f).eng = s.eng := rfl
@[simp] theorem State.onPower_reqs : (s.onPower f).reqs = s.reqs := rfl
@[simp] theorem State.onPower_nextReq : (s.onPower f).nextReq = s.nextReq := rfl
@[simp] theorem State.onPower_reg : (s.onPower f).reg = s.reg := rfl
@[simp] theorem State.onPower_tree : (s.onPower f).tree = s.tree := rfl
@[simp] theorem State.onPower_chans : (s.onPower f).chans = s.chans := rfl
@[simp] theorem State.onPower_stk : (s.onPower f).stk = s.stk := rfl
@[simp] theorem State.onPower_mem : (s.onPower f).mem = s.mem := rfl
@[simp] theorem State.onPower_touch : (s.onPower f).touch = s.touch := rfl
@[simp] theorem State.onPower_rehomes : (s.onPower f).rehomes = s.rehomes := rfl
@[simp] theorem State.onPower_codec : (s.onPower f).codec = s.codec := rfl
@[simp] theorem State.onPower_engines : (s.onPower f).engines = s.engines := rfl
@[simp] theorem State.onPower_fabric : (s.onPower f).fabric = s.fabric := rfl
@[simp] theorem State.onPower_links : (s.onPower f).links = s.links := rfl
@[simp] theorem State.onPower_quads : (s.onPower f).quads = s.quads := rfl
@[simp] theorem State.onPower_start : (s.onPower f).start = s.start := rfl
@[simp] theorem State.onPower_power : (s.onPower f).power = f s.power := rfl
@[simp] theorem State.onPower_svc : (s.onPower f).svc = s.svc := rfl
@[simp] theorem State.onPower_image : (s.onPower f).image = s.image := rfl
@[simp] theorem State.onPower_test : (s.onPower f).test = s.test := rfl
@[simp] theorem State.onPower_cnt : (s.onPower f).cnt = s.cnt := rfl
@[simp] theorem State.onPower_draw : (s.onPower f).draw = s.draw := rfl
end

section
variable (s : State) (f : Service → Service)
@[simp] theorem State.onSvc_pending : (s.onSvc f).pending = s.pending := rfl
@[simp] theorem State.onSvc_variant : (s.onSvc f).variant = s.variant := rfl
@[simp] theorem State.onSvc_released : (s.onSvc f).released = s.released := rfl
@[simp] theorem State.onSvc_ident : (s.onSvc f).ident = s.ident := rfl
@[simp] theorem State.onSvc_clk : (s.onSvc f).clk = s.clk := rfl
@[simp] theorem State.onSvc_nor : (s.onSvc f).nor = s.nor := rfl
@[simp] theorem State.onSvc_objs : (s.onSvc f).objs = s.objs := rfl
@[simp] theorem State.onSvc_win : (s.onSvc f).win = s.win := rfl
@[simp] theorem State.onSvc_map : (s.onSvc f).map = s.map := rfl
@[simp] theorem State.onSvc_ports : (s.onSvc f).ports = s.ports := rfl
@[simp] theorem State.onSvc_eng : (s.onSvc f).eng = s.eng := rfl
@[simp] theorem State.onSvc_reqs : (s.onSvc f).reqs = s.reqs := rfl
@[simp] theorem State.onSvc_nextReq : (s.onSvc f).nextReq = s.nextReq := rfl
@[simp] theorem State.onSvc_reg : (s.onSvc f).reg = s.reg := rfl
@[simp] theorem State.onSvc_tree : (s.onSvc f).tree = s.tree := rfl
@[simp] theorem State.onSvc_chans : (s.onSvc f).chans = s.chans := rfl
@[simp] theorem State.onSvc_stk : (s.onSvc f).stk = s.stk := rfl
@[simp] theorem State.onSvc_mem : (s.onSvc f).mem = s.mem := rfl
@[simp] theorem State.onSvc_touch : (s.onSvc f).touch = s.touch := rfl
@[simp] theorem State.onSvc_rehomes : (s.onSvc f).rehomes = s.rehomes := rfl
@[simp] theorem State.onSvc_codec : (s.onSvc f).codec = s.codec := rfl
@[simp] theorem State.onSvc_engines : (s.onSvc f).engines = s.engines := rfl
@[simp] theorem State.onSvc_fabric : (s.onSvc f).fabric = s.fabric := rfl
@[simp] theorem State.onSvc_links : (s.onSvc f).links = s.links := rfl
@[simp] theorem State.onSvc_quads : (s.onSvc f).quads = s.quads := rfl
@[simp] theorem State.onSvc_start : (s.onSvc f).start = s.start := rfl
@[simp] theorem State.onSvc_power : (s.onSvc f).power = s.power := rfl
@[simp] theorem State.onSvc_svc : (s.onSvc f).svc = f s.svc := rfl
@[simp] theorem State.onSvc_image : (s.onSvc f).image = s.image := rfl
@[simp] theorem State.onSvc_test : (s.onSvc f).test = s.test := rfl
@[simp] theorem State.onSvc_cnt : (s.onSvc f).cnt = s.cnt := rfl
@[simp] theorem State.onSvc_draw : (s.onSvc f).draw = s.draw := rfl
end

section
variable (s : State) (f : Image → Image)
@[simp] theorem State.onImage_pending : (s.onImage f).pending = s.pending := rfl
@[simp] theorem State.onImage_variant : (s.onImage f).variant = s.variant := rfl
@[simp] theorem State.onImage_released : (s.onImage f).released = s.released := rfl
@[simp] theorem State.onImage_ident : (s.onImage f).ident = s.ident := rfl
@[simp] theorem State.onImage_clk : (s.onImage f).clk = s.clk := rfl
@[simp] theorem State.onImage_nor : (s.onImage f).nor = s.nor := rfl
@[simp] theorem State.onImage_objs : (s.onImage f).objs = s.objs := rfl
@[simp] theorem State.onImage_win : (s.onImage f).win = s.win := rfl
@[simp] theorem State.onImage_map : (s.onImage f).map = s.map := rfl
@[simp] theorem State.onImage_ports : (s.onImage f).ports = s.ports := rfl
@[simp] theorem State.onImage_eng : (s.onImage f).eng = s.eng := rfl
@[simp] theorem State.onImage_reqs : (s.onImage f).reqs = s.reqs := rfl
@[simp] theorem State.onImage_nextReq : (s.onImage f).nextReq = s.nextReq := rfl
@[simp] theorem State.onImage_reg : (s.onImage f).reg = s.reg := rfl
@[simp] theorem State.onImage_tree : (s.onImage f).tree = s.tree := rfl
@[simp] theorem State.onImage_chans : (s.onImage f).chans = s.chans := rfl
@[simp] theorem State.onImage_stk : (s.onImage f).stk = s.stk := rfl
@[simp] theorem State.onImage_mem : (s.onImage f).mem = s.mem := rfl
@[simp] theorem State.onImage_touch : (s.onImage f).touch = s.touch := rfl
@[simp] theorem State.onImage_rehomes : (s.onImage f).rehomes = s.rehomes := rfl
@[simp] theorem State.onImage_codec : (s.onImage f).codec = s.codec := rfl
@[simp] theorem State.onImage_engines : (s.onImage f).engines = s.engines := rfl
@[simp] theorem State.onImage_fabric : (s.onImage f).fabric = s.fabric := rfl
@[simp] theorem State.onImage_links : (s.onImage f).links = s.links := rfl
@[simp] theorem State.onImage_quads : (s.onImage f).quads = s.quads := rfl
@[simp] theorem State.onImage_start : (s.onImage f).start = s.start := rfl
@[simp] theorem State.onImage_power : (s.onImage f).power = s.power := rfl
@[simp] theorem State.onImage_svc : (s.onImage f).svc = s.svc := rfl
@[simp] theorem State.onImage_image : (s.onImage f).image = f s.image := rfl
@[simp] theorem State.onImage_test : (s.onImage f).test = s.test := rfl
@[simp] theorem State.onImage_cnt : (s.onImage f).cnt = s.cnt := rfl
@[simp] theorem State.onImage_draw : (s.onImage f).draw = s.draw := rfl
end

section
variable (s : State) (f : TestPort → TestPort)
@[simp] theorem State.onTest_pending : (s.onTest f).pending = s.pending := rfl
@[simp] theorem State.onTest_variant : (s.onTest f).variant = s.variant := rfl
@[simp] theorem State.onTest_released : (s.onTest f).released = s.released := rfl
@[simp] theorem State.onTest_ident : (s.onTest f).ident = s.ident := rfl
@[simp] theorem State.onTest_clk : (s.onTest f).clk = s.clk := rfl
@[simp] theorem State.onTest_nor : (s.onTest f).nor = s.nor := rfl
@[simp] theorem State.onTest_objs : (s.onTest f).objs = s.objs := rfl
@[simp] theorem State.onTest_win : (s.onTest f).win = s.win := rfl
@[simp] theorem State.onTest_map : (s.onTest f).map = s.map := rfl
@[simp] theorem State.onTest_ports : (s.onTest f).ports = s.ports := rfl
@[simp] theorem State.onTest_eng : (s.onTest f).eng = s.eng := rfl
@[simp] theorem State.onTest_reqs : (s.onTest f).reqs = s.reqs := rfl
@[simp] theorem State.onTest_nextReq : (s.onTest f).nextReq = s.nextReq := rfl
@[simp] theorem State.onTest_reg : (s.onTest f).reg = s.reg := rfl
@[simp] theorem State.onTest_tree : (s.onTest f).tree = s.tree := rfl
@[simp] theorem State.onTest_chans : (s.onTest f).chans = s.chans := rfl
@[simp] theorem State.onTest_stk : (s.onTest f).stk = s.stk := rfl
@[simp] theorem State.onTest_mem : (s.onTest f).mem = s.mem := rfl
@[simp] theorem State.onTest_touch : (s.onTest f).touch = s.touch := rfl
@[simp] theorem State.onTest_rehomes : (s.onTest f).rehomes = s.rehomes := rfl
@[simp] theorem State.onTest_codec : (s.onTest f).codec = s.codec := rfl
@[simp] theorem State.onTest_engines : (s.onTest f).engines = s.engines := rfl
@[simp] theorem State.onTest_fabric : (s.onTest f).fabric = s.fabric := rfl
@[simp] theorem State.onTest_links : (s.onTest f).links = s.links := rfl
@[simp] theorem State.onTest_quads : (s.onTest f).quads = s.quads := rfl
@[simp] theorem State.onTest_start : (s.onTest f).start = s.start := rfl
@[simp] theorem State.onTest_power : (s.onTest f).power = s.power := rfl
@[simp] theorem State.onTest_svc : (s.onTest f).svc = s.svc := rfl
@[simp] theorem State.onTest_image : (s.onTest f).image = s.image := rfl
@[simp] theorem State.onTest_test : (s.onTest f).test = f s.test := rfl
@[simp] theorem State.onTest_cnt : (s.onTest f).cnt = s.cnt := rfl
@[simp] theorem State.onTest_draw : (s.onTest f).draw = s.draw := rfl
end

section
variable (s : State) (f : Counters → Counters)
@[simp] theorem State.onCnt_pending : (s.onCnt f).pending = s.pending := rfl
@[simp] theorem State.onCnt_variant : (s.onCnt f).variant = s.variant := rfl
@[simp] theorem State.onCnt_released : (s.onCnt f).released = s.released := rfl
@[simp] theorem State.onCnt_ident : (s.onCnt f).ident = s.ident := rfl
@[simp] theorem State.onCnt_clk : (s.onCnt f).clk = s.clk := rfl
@[simp] theorem State.onCnt_nor : (s.onCnt f).nor = s.nor := rfl
@[simp] theorem State.onCnt_objs : (s.onCnt f).objs = s.objs := rfl
@[simp] theorem State.onCnt_win : (s.onCnt f).win = s.win := rfl
@[simp] theorem State.onCnt_map : (s.onCnt f).map = s.map := rfl
@[simp] theorem State.onCnt_ports : (s.onCnt f).ports = s.ports := rfl
@[simp] theorem State.onCnt_eng : (s.onCnt f).eng = s.eng := rfl
@[simp] theorem State.onCnt_reqs : (s.onCnt f).reqs = s.reqs := rfl
@[simp] theorem State.onCnt_nextReq : (s.onCnt f).nextReq = s.nextReq := rfl
@[simp] theorem State.onCnt_reg : (s.onCnt f).reg = s.reg := rfl
@[simp] theorem State.onCnt_tree : (s.onCnt f).tree = s.tree := rfl
@[simp] theorem State.onCnt_chans : (s.onCnt f).chans = s.chans := rfl
@[simp] theorem State.onCnt_stk : (s.onCnt f).stk = s.stk := rfl
@[simp] theorem State.onCnt_mem : (s.onCnt f).mem = s.mem := rfl
@[simp] theorem State.onCnt_touch : (s.onCnt f).touch = s.touch := rfl
@[simp] theorem State.onCnt_rehomes : (s.onCnt f).rehomes = s.rehomes := rfl
@[simp] theorem State.onCnt_codec : (s.onCnt f).codec = s.codec := rfl
@[simp] theorem State.onCnt_engines : (s.onCnt f).engines = s.engines := rfl
@[simp] theorem State.onCnt_fabric : (s.onCnt f).fabric = s.fabric := rfl
@[simp] theorem State.onCnt_links : (s.onCnt f).links = s.links := rfl
@[simp] theorem State.onCnt_quads : (s.onCnt f).quads = s.quads := rfl
@[simp] theorem State.onCnt_start : (s.onCnt f).start = s.start := rfl
@[simp] theorem State.onCnt_power : (s.onCnt f).power = s.power := rfl
@[simp] theorem State.onCnt_svc : (s.onCnt f).svc = s.svc := rfl
@[simp] theorem State.onCnt_image : (s.onCnt f).image = s.image := rfl
@[simp] theorem State.onCnt_test : (s.onCnt f).test = s.test := rfl
@[simp] theorem State.onCnt_cnt : (s.onCnt f).cnt = f s.cnt := rfl
@[simp] theorem State.onCnt_draw : (s.onCnt f).draw = s.draw := rfl
end

section
variable (s t : State) (pin : Bool)
@[simp] theorem State.drawn_pending : s.drawn.pending = s.pending := rfl
@[simp] theorem State.drawn_variant : s.drawn.variant = s.variant := rfl
@[simp] theorem State.drawn_released : s.drawn.released = s.released := rfl
@[simp] theorem State.drawn_ident : s.drawn.ident = s.ident := rfl
@[simp] theorem State.drawn_clk : s.drawn.clk = s.clk := rfl
@[simp] theorem State.drawn_nor : s.drawn.nor = s.nor := rfl
@[simp] theorem State.drawn_objs : s.drawn.objs = s.objs := rfl
@[simp] theorem State.drawn_win : s.drawn.win = s.win := rfl
@[simp] theorem State.drawn_map : s.drawn.map = s.map := rfl
@[simp] theorem State.drawn_ports : s.drawn.ports = s.ports := rfl
@[simp] theorem State.drawn_eng : s.drawn.eng = s.eng := rfl
@[simp] theorem State.drawn_reqs : s.drawn.reqs = s.reqs := rfl
@[simp] theorem State.drawn_nextReq : s.drawn.nextReq = s.nextReq := rfl
@[simp] theorem State.drawn_reg : s.drawn.reg = s.reg := rfl
@[simp] theorem State.drawn_tree : s.drawn.tree = s.tree := rfl
@[simp] theorem State.drawn_chans : s.drawn.chans = s.chans := rfl
@[simp] theorem State.drawn_stk : s.drawn.stk = s.stk := rfl
@[simp] theorem State.drawn_mem : s.drawn.mem = s.mem := rfl
@[simp] theorem State.drawn_touch : s.drawn.touch = s.touch := rfl
@[simp] theorem State.drawn_rehomes : s.drawn.rehomes = s.rehomes := rfl
@[simp] theorem State.drawn_codec : s.drawn.codec = s.codec := rfl
@[simp] theorem State.drawn_engines : s.drawn.engines = s.engines := rfl
@[simp] theorem State.drawn_fabric : s.drawn.fabric = s.fabric := rfl
@[simp] theorem State.drawn_links : s.drawn.links = s.links := rfl
@[simp] theorem State.drawn_quads : s.drawn.quads = s.quads := rfl
@[simp] theorem State.drawn_start : s.drawn.start = s.start := rfl
@[simp] theorem State.drawn_power : s.drawn.power = s.power := rfl
@[simp] theorem State.drawn_svc : s.drawn.svc = s.svc := rfl
@[simp] theorem State.drawn_image : s.drawn.image = s.image := rfl
@[simp] theorem State.drawn_test : s.drawn.test = s.test := rfl
@[simp] theorem State.drawn_cnt : s.drawn.cnt = s.cnt := rfl
@[simp] theorem State.drawn_draw : s.drawn.draw = s.draw + 1 := rfl
@[simp] theorem keepFixed_pending : (keepFixed s pin t).pending = s.pending := rfl
@[simp] theorem keepFixed_variant : (keepFixed s pin t).variant = s.variant := rfl
@[simp] theorem keepFixed_released : (keepFixed s pin t).released = pin := rfl
@[simp] theorem keepFixed_ident : (keepFixed s pin t).ident = t.ident := rfl
@[simp] theorem keepFixed_clk : (keepFixed s pin t).clk = t.clk := rfl
@[simp] theorem keepFixed_nor : (keepFixed s pin t).nor = t.nor := rfl
@[simp] theorem keepFixed_objs : (keepFixed s pin t).objs = t.objs := rfl
@[simp] theorem keepFixed_win : (keepFixed s pin t).win = t.win := rfl
@[simp] theorem keepFixed_map : (keepFixed s pin t).map = t.map := rfl
@[simp] theorem keepFixed_ports : (keepFixed s pin t).ports = t.ports := rfl
@[simp] theorem keepFixed_eng : (keepFixed s pin t).eng = t.eng := rfl
@[simp] theorem keepFixed_reqs : (keepFixed s pin t).reqs = t.reqs := rfl
@[simp] theorem keepFixed_nextReq : (keepFixed s pin t).nextReq = t.nextReq := rfl
@[simp] theorem keepFixed_reg : (keepFixed s pin t).reg = t.reg := rfl
@[simp] theorem keepFixed_tree : (keepFixed s pin t).tree = t.tree := rfl
@[simp] theorem keepFixed_chans : (keepFixed s pin t).chans = t.chans := rfl
@[simp] theorem keepFixed_stk : (keepFixed s pin t).stk = t.stk := rfl
@[simp] theorem keepFixed_mem : (keepFixed s pin t).mem = t.mem := rfl
@[simp] theorem keepFixed_touch : (keepFixed s pin t).touch = t.touch := rfl
@[simp] theorem keepFixed_rehomes : (keepFixed s pin t).rehomes = t.rehomes := rfl
@[simp] theorem keepFixed_codec : (keepFixed s pin t).codec = t.codec := rfl
@[simp] theorem keepFixed_engines : (keepFixed s pin t).engines = t.engines := rfl
@[simp] theorem keepFixed_fabric : (keepFixed s pin t).fabric = t.fabric := rfl
@[simp] theorem keepFixed_links : (keepFixed s pin t).links = t.links := rfl
@[simp] theorem keepFixed_quads : (keepFixed s pin t).quads = t.quads := rfl
@[simp] theorem keepFixed_start : (keepFixed s pin t).start = t.start := rfl
@[simp] theorem keepFixed_power : (keepFixed s pin t).power = t.power := rfl
@[simp] theorem keepFixed_svc : (keepFixed s pin t).svc = t.svc := rfl
@[simp] theorem keepFixed_image : (keepFixed s pin t).image = t.image := rfl
@[simp] theorem keepFixed_test : (keepFixed s pin t).test = t.test := rfl
@[simp] theorem keepFixed_cnt : (keepFixed s pin t).cnt = t.cnt := rfl
@[simp] theorem keepFixed_draw : (keepFixed s pin t).draw = t.draw := rfl
end

end Sys2Proof.Machine
end

