-- ==== Sys2Proof/Laws/Shape.lean ====
section
/-!
SUPPORT. What every command but the two of qz_rst_n is: nothing while the pin is low, and else a change of state that keeps the
queue, the variant and the pin.
-/
namespace Sys2Proof.Machine

@[simp] theorem whenReleased_high {s : State} (h : s.released = true) (f : State → State) :
    whenReleased s f = .next (keepFixed s true (f s)) := by simp [whenReleased, h]
@[simp] theorem whenReleased_low {s : State} (h : s.released = false) (f : State → State) : whenReleased s f = .next s := by
  simp [whenReleased, h]

theorem execHardRepairResult_shape {stack} {pch} {done} (s : State) : ∃ g, execHardRepairResult stack pch done s = whenReleased s g := ⟨_, rfl⟩
theorem execStartUpHold_shape {src} {value} (s : State) : ∃ g, execStartUpHold src value s = whenReleased s g := ⟨_, rfl⟩
theorem execReferenceLost_shape {die} (s : State) : ∃ g, execReferenceLost die s = whenReleased s g := ⟨_, rfl⟩
theorem execReferenceRestored_shape {die} (s : State) : ∃ g, execReferenceRestored die s = whenReleased s g := ⟨_, rfl⟩
theorem execQuadrantOffline_shape {q} (s : State) : ∃ g, execQuadrantOffline q s = whenReleased s g := ⟨_, rfl⟩
theorem execQuadrantReturn_shape {q} (s : State) : ∃ g, execQuadrantReturn q s = whenReleased s g := ⟨_, rfl⟩
theorem execSnapshotStart_shape {src} {value} (s : State) : ∃ g, execSnapshotStart src value s = whenReleased s g := ⟨_, rfl⟩
theorem execSnapshotComplete_shape {roundTrips} (s : State) : ∃ g, execSnapshotComplete roundTrips s = whenReleased s g := ⟨_, rfl⟩
theorem execHostDateWrite_shape {src} {value} (s : State) : ∃ g, execHostDateWrite src value s = whenReleased s g := ⟨_, rfl⟩
theorem execPoweredTimePersist_shape (s : State) : ∃ g, execPoweredTimePersist s = whenReleased s g := ⟨_, rfl⟩
theorem execFlitReceived_shape {port} {bundle} {flit} (s : State) : ∃ g, execFlitReceived port bundle flit s = whenReleased s g := ⟨_, rfl⟩
theorem execLinkReplay_shape {port} {acked} (s : State) : ∃ g, execLinkReplay port acked s = whenReleased s g := ⟨_, rfl⟩
theorem execRead_shape {port} {r} (s : State) : ∃ g, execRead port r s = whenReleased s g := ⟨_, rfl⟩
theorem execWrite_shape {port} {r} (s : State) : ∃ g, execWrite port r s = whenReleased s g := ⟨_, rfl⟩
theorem execWriteZero_shape {port} {r} (s : State) : ∃ g, execWriteZero port r s = whenReleased s g := ⟨_, rfl⟩
theorem execPoison_shape {port} {r} (s : State) : ∃ g, execPoison port r s = whenReleased s g := ⟨_, rfl⟩
theorem execAtomic_shape {port} {r} (s : State) : ∃ g, execAtomic port r s = whenReleased s g := ⟨_, rfl⟩
theorem execAtomicFetch_shape {port} {r} (s : State) : ∃ g, execAtomicFetch port r s = whenReleased s g := ⟨_, rfl⟩
theorem execWriteFence_shape {port} {r} (s : State) : ∃ g, execWriteFence port r s = whenReleased s g := ⟨_, rfl⟩
theorem execFullFence_shape {port} {r} (s : State) : ∃ g, execFullFence port r s = whenReleased s g := ⟨_, rfl⟩
theorem execFenceComplete_shape {port} {tag} (s : State) : ∃ g, execFenceComplete port tag s = whenReleased s g := ⟨_, rfl⟩
theorem execCollectiveDeclare_shape {port} {r} (s : State) : ∃ g, execCollectiveDeclare port r s = whenReleased s g := ⟨_, rfl⟩
theorem execDictionaryRead_shape {port} {r} (s : State) : ∃ g, execDictionaryRead port r s = whenReleased s g := ⟨_, rfl⟩
theorem execDictionaryWrite_shape {port} {r} (s : State) : ∃ g, execDictionaryWrite port r s = whenReleased s g := ⟨_, rfl⟩
theorem execOutingStart_shape {port} {r} (s : State) : ∃ g, execOutingStart port r s = whenReleased s g := ⟨_, rfl⟩
theorem execReplicaFill_shape {port} {r} (s : State) : ∃ g, execReplicaFill port r s = whenReleased s g := ⟨_, rfl⟩
theorem execReplicaRelease_shape {port} {r} (s : State) : ∃ g, execReplicaRelease port r s = whenReleased s g := ⟨_, rfl⟩
theorem execCombinedAtomic_shape {port} {r} (s : State) : ∃ g, execCombinedAtomic port r s = whenReleased s g := ⟨_, rfl⟩
theorem execCombinedAtomicFetch_shape {port} {r} (s : State) : ∃ g, execCombinedAtomicFetch port r s = whenReleased s g := ⟨_, rfl⟩
theorem execLockTimeout_shape {port} (s : State) : ∃ g, execLockTimeout port s = whenReleased s g := ⟨_, rfl⟩
theorem execVisibilityPoint_shape {reqId} (s : State) : ∃ g, execVisibilityPoint reqId s = whenReleased s g := ⟨_, rfl⟩
theorem execResponseSent_shape {port} {notice} (s : State) : ∃ g, execResponseSent port notice s = whenReleased s g := ⟨_, rfl⟩
theorem execPortQuietEnter_shape {port} {samples} (s : State) : ∃ g, execPortQuietEnter port samples s = whenReleased s g := ⟨_, rfl⟩
theorem execPortQuietLeave_shape {port} {samples} (s : State) : ∃ g, execPortQuietLeave port samples s = whenReleased s g := ⟨_, rfl⟩
theorem execQuietChatter_shape {port} {changes} (s : State) : ∃ g, execQuietChatter port changes s = whenReleased s g := ⟨_, rfl⟩
theorem execQuietChatterEnd_shape {port} {quietNs} {level} (s : State) : ∃ g, execQuietChatterEnd port quietNs level s = whenReleased s g := ⟨_, rfl⟩
theorem execSweepMarkerArrival_shape {requester} {q} (s : State) : ∃ g, execSweepMarkerArrival requester q s = whenReleased s g := ⟨_, rfl⟩
theorem execSweepAcknowledge_shape {requester} {q} (s : State) : ∃ g, execSweepAcknowledge requester q s = whenReleased s g := ⟨_, rfl⟩
theorem execArbiterDecision_shape {arbiter} (s : State) : ∃ g, execArbiterDecision arbiter s = whenReleased s g := ⟨_, rfl⟩
theorem execUrgencyLevelChange_shape {port} {group} {samples} {spanNs} (s : State) : ∃ g, execUrgencyLevelChange port group samples spanNs s = whenReleased s g := ⟨_, rfl⟩
theorem execUrgencyChatterStart_shape {port} {group} {changes} (s : State) : ∃ g, execUrgencyChatterStart port group changes s = whenReleased s g := ⟨_, rfl⟩
theorem execUrgencyChatterEnd_shape {port} {group} {worst} {quietNs} (s : State) : ∃ g, execUrgencyChatterEnd port group worst quietNs s = whenReleased s g := ⟨_, rfl⟩
theorem execRegulationWindowBoundary_shape (s : State) : ∃ g, execRegulationWindowBoundary s = whenReleased s g := ⟨_, rfl⟩
theorem execCreditPositive_shape {entry} (s : State) : ∃ g, execCreditPositive entry s = whenReleased s g := ⟨_, rfl⟩
theorem execGateOpen_shape {port} {group} (s : State) : ∃ g, execGateOpen port group s = whenReleased s g := ⟨_, rfl⟩
theorem execGateListWrite_shape {src} {port} {value} (s : State) : ∃ g, execGateListWrite src port value s = whenReleased s g := ⟨_, rfl⟩
theorem execGateListActivate_shape {port} (s : State) : ∃ g, execGateListActivate port s = whenReleased s g := ⟨_, rfl⟩
theorem execReservationSetWrite_shape {src} {value} (s : State) : ∃ g, execReservationSetWrite src value s = whenReleased s g := ⟨_, rfl⟩
theorem execReservationSetActivate_shape (s : State) : ∃ g, execReservationSetActivate s = whenReleased s g := ⟨_, rfl⟩
theorem execFloorRecompute_shape {cause} (s : State) : ∃ g, execFloorRecompute cause s = whenReleased s g := ⟨_, rfl⟩
theorem execLatencyWindowEnd_shape {entry} (s : State) : ∃ g, execLatencyWindowEnd entry s = whenReleased s g := ⟨_, rfl⟩
theorem execSamplingBoundary_shape (s : State) : ∃ g, execSamplingBoundary s = whenReleased s g := ⟨_, rfl⟩
theorem execSampleClear_shape {src} {value} (s : State) : ∃ g, execSampleClear src value s = whenReleased s g := ⟨_, rfl⟩
theorem execHighWaterClear_shape {src} {value} (s : State) : ∃ g, execHighWaterClear src value s = whenReleased s g := ⟨_, rfl⟩
theorem execCombiningWindowExpiry_shape {line} (s : State) : ∃ g, execCombiningWindowExpiry line s = whenReleased s g := ⟨_, rfl⟩
theorem execBasketFlushVisible_shape {reqId} (s : State) : ∃ g, execBasketFlushVisible reqId s = whenReleased s g := ⟨_, rfl⟩
theorem execCreate_shape {src} {c} (s : State) : ∃ g, execCreate src c s = whenReleased s g := ⟨_, rfl⟩
theorem execFree_shape {src} {c} (s : State) : ∃ g, execFree src c s = whenReleased s g := ⟨_, rfl⟩
theorem execModify_shape {src} {c} (s : State) : ∃ g, execModify src c s = whenReleased s g := ⟨_, rfl⟩
theorem execMove_shape {src} {c} (s : State) : ∃ g, execMove src c s = whenReleased s g := ⟨_, rfl⟩
theorem execFreedSlotCleared_shape {index} (s : State) : ∃ g, execFreedSlotCleared index s = whenReleased s g := ⟨_, rfl⟩
theorem execMoveComplete_shape {segment} (s : State) : ∃ g, execMoveComplete segment s = whenReleased s g := ⟨_, rfl⟩
theorem execPlacementEvaluation_shape (s : State) : ∃ g, execPlacementEvaluation s = whenReleased s g := ⟨_, rfl⟩
theorem execMapRebuildComplete_shape (s : State) : ∃ g, execMapRebuildComplete s = whenReleased s g := ⟨_, rfl⟩
theorem execChannelQueueEntry_shape {stack} {pch} (s : State) : ∃ g, execChannelQueueEntry stack pch s = whenReleased s g := ⟨_, rfl⟩
theorem execIssueHalfSlot_shape {stack} {pch} (s : State) : ∃ g, execIssueHalfSlot stack pch s = whenReleased s g := ⟨_, rfl⟩
theorem execIdleCloseTimeout_shape {stack} {pch} {bank} (s : State) : ∃ g, execIdleCloseTimeout stack pch bank s = whenReleased s g := ⟨_, rfl⟩
theorem execHammerEpochBoundary_shape {q} (s : State) : ∃ g, execHammerEpochBoundary q s = whenReleased s g := ⟨_, rfl⟩
theorem execActivationTokenRefill_shape {stack} {pch} {bank} (s : State) : ∃ g, execActivationTokenRefill stack pch bank s = whenReleased s g := ⟨_, rfl⟩
theorem execRefreshDue_shape {stack} {pch} {bank} (s : State) : ∃ g, execRefreshDue stack pch bank s = whenReleased s g := ⟨_, rfl⟩
theorem execReadBurstReturn_shape {stack} {pch} {noise} (s : State) : ∃ g, execReadBurstReturn stack pch noise s = whenReleased s g := ⟨_, rfl⟩
theorem execEscalationComplete_shape {stack} {pch} (s : State) : ∃ g, execEscalationComplete stack pch s = whenReleased s g := ⟨_, rfl⟩
theorem execMissingBurstTimeout_shape {stack} {pch} (s : State) : ∃ g, execMissingBurstTimeout stack pch s = whenReleased s g := ⟨_, rfl⟩
theorem execCaAlert_shape {stack} {erring} {clears} (s : State) : ∃ g, execCaAlert stack erring clears s = whenReleased s g := ⟨_, rfl⟩
theorem execTemperatureReadout_shape {stack} {first} {repeated} (s : State) : ∃ g, execTemperatureReadout stack first repeated s = whenReleased s g := ⟨_, rfl⟩
theorem execRestStopDue_shape {stack} {pch} (s : State) : ∃ g, execRestStopDue stack pch s = whenReleased s g := ⟨_, rfl⟩
theorem execRestStop_shape {stack} {pch} (s : State) : ∃ g, execRestStop stack pch s = whenReleased s g := ⟨_, rfl⟩
theorem execRestStopEnd_shape {stack} {pch} {drift} {worstLane} {eyes} (s : State) : ∃ g, execRestStopEnd stack pch drift worstLane eyes s = whenReleased s g := ⟨_, rfl⟩
theorem execDivisionLowerHoldExpiry_shape {stack} (s : State) : ∃ g, execDivisionLowerHoldExpiry stack s = whenReleased s g := ⟨_, rfl⟩
theorem execDescriptorStart_shape {q} {slot} (s : State) : ∃ g, execDescriptorStart q slot s = whenReleased s g := ⟨_, rfl⟩
theorem execHamperDescriptor_shape {q} {slot} {index} (s : State) : ∃ g, execHamperDescriptor q slot index s = whenReleased s g := ⟨_, rfl⟩
theorem execRamblerDescriptor_shape {q} {slot} {index} (s : State) : ∃ g, execRamblerDescriptor q slot index s = whenReleased s g := ⟨_, rfl⟩
theorem execTranscodeCopyDescriptor_shape {q} {slot} {index} (s : State) : ∃ g, execTranscodeCopyDescriptor q slot index s = whenReleased s g := ⟨_, rfl⟩
theorem execBlockCheckDescriptor_shape {q} {slot} {index} (s : State) : ∃ g, execBlockCheckDescriptor q slot index s = whenReleased s g := ⟨_, rfl⟩
theorem execContinueDescriptor_shape {q} {slot} (s : State) : ∃ g, execContinueDescriptor q slot s = whenReleased s g := ⟨_, rfl⟩
theorem execEndDescriptor_shape {q} {slot} (s : State) : ∃ g, execEndDescriptor q slot s = whenReleased s g := ⟨_, rfl⟩
theorem execBagMerge_shape {q} {slot} {index} {bag} (s : State) : ∃ g, execBagMerge q slot index bag s = whenReleased s g := ⟨_, rfl⟩
theorem execProducedWordUpdate_shape {q} {slot} {index} (s : State) : ∃ g, execProducedWordUpdate q slot index s = whenReleased s g := ⟨_, rfl⟩
theorem execConsumedWordPoll_shape {q} {slot} {index} (s : State) : ∃ g, execConsumedWordPoll q slot index s = whenReleased s g := ⟨_, rfl⟩
theorem execDescriptorTimeout_shape {q} {slot} {index} (s : State) : ∃ g, execDescriptorTimeout q slot index s = whenReleased s g := ⟨_, rfl⟩
theorem execOutingComplete_shape {q} {slot} (s : State) : ∃ g, execOutingComplete q slot s = whenReleased s g := ⟨_, rfl⟩
theorem execScrubDefine_shape {src} {value} (s : State) : ∃ g, execScrubDefine src value s = whenReleased s g := ⟨_, rfl⟩
theorem execScrubStop_shape {src} {value} (s : State) : ∃ g, execScrubStop src value s = whenReleased s g := ⟨_, rfl⟩
theorem execScrubRowUnit_shape {pass} {stack} {ch} (s : State) : ∃ g, execScrubRowUnit pass stack ch s = whenReleased s g := ⟨_, rfl⟩
theorem execScrubPassEnd_shape {pass} (s : State) : ∃ g, execScrubPassEnd pass s = whenReleased s g := ⟨_, rfl⟩
theorem execScrubRepeatStart_shape {pass} (s : State) : ∃ g, execScrubRepeatStart pass s = whenReleased s g := ⟨_, rfl⟩
theorem execChannelLost_shape {stack} {ch} {condition} (s : State) : ∃ g, execChannelLost stack ch condition s = whenReleased s g := ⟨_, rfl⟩
theorem execChannelRebuildComplete_shape {stack} {ch} (s : State) : ∃ g, execChannelRebuildComplete stack ch s = whenReleased s g := ⟨_, rfl⟩
theorem execLaneSparingPause_shape {stack} {pch} {errors} {eye} (s : State) : ∃ g, execLaneSparingPause stack pch errors eye s = whenReleased s g := ⟨_, rfl⟩
theorem execChannelSparing_shape {stack} {ch} (s : State) : ∃ g, execChannelSparing stack ch s = whenReleased s g := ⟨_, rfl⟩
theorem execChannelSparingCopyUnit_shape {stack} (s : State) : ∃ g, execChannelSparingCopyUnit stack s = whenReleased s g := ⟨_, rfl⟩
theorem execChannelSparingComplete_shape {stack} (s : State) : ∃ g, execChannelSparingComplete stack s = whenReleased s g := ⟨_, rfl⟩
theorem execMapOut_shape {stack} {ch} (s : State) : ∃ g, execMapOut stack ch s = whenReleased s g := ⟨_, rfl⟩
theorem execMapOutComplete_shape {stack} {ch} (s : State) : ∃ g, execMapOutComplete stack ch s = whenReleased s g := ⟨_, rfl⟩
theorem execSpareLane_shape {src} {value} (s : State) : ∃ g, execSpareLane src value s = whenReleased s g := ⟨_, rfl⟩
theorem execSpareChannel_shape {src} {value} (s : State) : ∃ g, execSpareChannel src value s = whenReleased s g := ⟨_, rfl⟩
theorem execMapOutChannel_shape {src} {value} (s : State) : ∃ g, execMapOutChannel src value s = whenReleased s g := ⟨_, rfl⟩
theorem execQueueHardRowRepair_shape {src} {value} (s : State) : ∃ g, execQueueHardRowRepair src value s = whenReleased s g := ⟨_, rfl⟩
theorem execQueueColumnRepair_shape {src} {value} (s : State) : ∃ g, execQueueColumnRepair src value s = whenReleased s g := ⟨_, rfl⟩
theorem execCancelQueuedRepairs_shape {src} {value} (s : State) : ∃ g, execCancelQueuedRepairs src value s = whenReleased s g := ⟨_, rfl⟩
theorem execLedgerWrite_shape {programOk} (s : State) : ∃ g, execLedgerWrite programOk s = whenReleased s g := ⟨_, rfl⟩
theorem execStackWearRecord_shape (s : State) : ∃ g, execStackWearRecord s = whenReleased s g := ⟨_, rfl⟩
theorem execForecast_shape (s : State) : ∃ g, execForecast s = whenReleased s g := ⟨_, rfl⟩
theorem execMeterReport_shape {die} {core} {phyPll} (s : State) : ∃ g, execMeterReport die core phyPll s = whenReleased s g := ⟨_, rfl⟩
theorem execGovernorStep_shape (s : State) : ∃ g, execGovernorStep s = whenReleased s g := ⟨_, rfl⟩
theorem execFlaskAllowanceEnded_shape {stack} (s : State) : ∃ g, execFlaskAllowanceEnded stack s = whenReleased s g := ⟨_, rfl⟩
theorem execJunctionRead_shape {temps} (s : State) : ∃ g, execJunctionRead temps s = whenReleased s g := ⟨_, rfl⟩
theorem execSupplyFault_shape {die} {ns} (s : State) : ∃ g, execSupplyFault die ns s = whenReleased s g := ⟨_, rfl⟩
theorem execShutdownInMode_shape {src} {value} (s : State) : ∃ g, execShutdownInMode src value s = whenReleased s g := ⟨_, rfl⟩
theorem execShutdownImmediate_shape {src} {value} (s : State) : ∃ g, execShutdownImmediate src value s = whenReleased s g := ⟨_, rfl⟩
theorem execResume_shape {src} {value} (s : State) : ∃ g, execResume src value s = whenReleased s g := ⟨_, rfl⟩
theorem execResumed_shape (s : State) : ∃ g, execResumed s = whenReleased s g := ⟨_, rfl⟩
theorem execFrameReceived_shape {f} (s : State) : ∃ g, execFrameReceived f s = whenReleased s g := ⟨_, rfl⟩
theorem execDiscover_shape {src} (s : State) : ∃ g, execDiscover src s = whenReleased s g := ⟨_, rfl⟩
theorem execServiceRead_shape {src} {index} {sub} {array} (s : State) : ∃ g, execServiceRead src index sub array s = whenReleased s g := ⟨_, rfl⟩
theorem execServiceWrite_shape {src} {index} {sub} {value} (s : State) : ∃ g, execServiceWrite src index sub value s = whenReleased s g := ⟨_, rfl⟩
theorem execDescribe_shape {src} {index} {sub} (s : State) : ∃ g, execDescribe src index sub s = whenReleased s g := ⟨_, rfl⟩
theorem execTransferBegin_shape {src} {write} {index} {sub} {length} (s : State) : ∃ g, execTransferBegin src write index sub length s = whenReleased s g := ⟨_, rfl⟩
theorem execTransferBlock_shape {src} {transfer} {offset} {data} (s : State) : ∃ g, execTransferBlock src transfer offset data s = whenReleased s g := ⟨_, rfl⟩
theorem execTransferEnd_shape {src} {transfer} {crc} (s : State) : ∃ g, execTransferEnd src transfer crc s = whenReleased s g := ⟨_, rfl⟩
theorem execTransferAbort_shape {src} {transfer} (s : State) : ∃ g, execTransferAbort src transfer s = whenReleased s g := ⟨_, rfl⟩
theorem execTransferTimeout_shape {transfer} (s : State) : ∃ g, execTransferTimeout transfer s = whenReleased s g := ⟨_, rfl⟩
theorem execSessionOpen_shape {src} {role} (s : State) : ∃ g, execSessionOpen src role s = whenReleased s g := ⟨_, rfl⟩
theorem execSessionUnlock_shape {src} {code} (s : State) : ∃ g, execSessionUnlock src code s = whenReleased s g := ⟨_, rfl⟩
theorem execSessionClose_shape {src} (s : State) : ∃ g, execSessionClose src s = whenReleased s g := ⟨_, rfl⟩
theorem execSessionIdleTimeout_shape {session} (s : State) : ∃ g, execSessionIdleTimeout session s = whenReleased s g := ⟨_, rfl⟩
theorem execNoticeAcknowledge_shape {src} {sequence} (s : State) : ∃ g, execNoticeAcknowledge src sequence s = whenReleased s g := ⟨_, rfl⟩
theorem execInProgressResponse_shape {src} (s : State) : ∃ g, execInProgressResponse src s = whenReleased s g := ⟨_, rfl⟩
theorem execTransmitOpportunity_shape (s : State) : ∃ g, execTransmitOpportunity s = whenReleased s g := ⟨_, rfl⟩
theorem execNoticeResend_shape {subscriber} (s : State) : ∃ g, execNoticeResend subscriber s = whenReleased s g := ⟨_, rfl⟩
theorem execInBandChallenge_shape {port} {r} (s : State) : ∃ g, execInBandChallenge port r s = whenReleased s g := ⟨_, rfl⟩
theorem execInBandUnlock_shape {port} {r} (s : State) : ∃ g, execInBandUnlock port r s = whenReleased s g := ⟨_, rfl⟩
theorem execInBandRoleDrop_shape {port} {r} (s : State) : ∃ g, execInBandRoleDrop port r s = whenReleased s g := ⟨_, rfl⟩
theorem execSettingsStoreReset_shape {src} {value} (s : State) : ∃ g, execSettingsStoreReset src value s = whenReleased s g := ⟨_, rfl⟩
theorem execObjectWrite_shape {src} {index} {sub} {value} (s : State) : ∃ g, execObjectWrite src index sub value s = whenReleased s g := ⟨_, rfl⟩
theorem execQuadrantReset_shape {src} {q} {ends} (s : State) : ∃ g, execQuadrantReset src q ends s = whenReleased s g := ⟨_, rfl⟩
theorem execQuadrantResetAndHold_shape {src} {q} {ends} (s : State) : ∃ g, execQuadrantResetAndHold src q ends s = whenReleased s g := ⟨_, rfl⟩
theorem execQuadrantReleaseHold_shape {src} {q} (s : State) : ∃ g, execQuadrantReleaseHold src q s = whenReleased s g := ⟨_, rfl⟩
theorem execStateCheckError_shape {q} {ends} (s : State) : ∃ g, execStateCheckError q ends s = whenReleased s g := ⟨_, rfl⟩
theorem execQuadrantResetTimeout_shape {q} (s : State) : ∃ g, execQuadrantResetTimeout q s = whenReleased s g := ⟨_, rfl⟩
theorem execPortReset_shape {src} {port} (s : State) : ∃ g, execPortReset src port s = whenReleased s g := ⟨_, rfl⟩
theorem execPortResetAndHold_shape {src} {port} (s : State) : ∃ g, execPortResetAndHold src port s = whenReleased s g := ⟨_, rfl⟩
theorem execPortReleaseHold_shape {src} {port} (s : State) : ∃ g, execPortReleaseHold src port s = whenReleased s g := ⟨_, rfl⟩
theorem execLinkRetrain_shape {port} {credits} (s : State) : ∃ g, execLinkRetrain port credits s = whenReleased s g := ⟨_, rfl⟩
theorem execSlateEnter_shape {src} {value} (s : State) : ∃ g, execSlateEnter src value s = whenReleased s g := ⟨_, rfl⟩
theorem execSlateLeave_shape {src} {value} (s : State) : ∃ g, execSlateLeave src value s = whenReleased s g := ⟨_, rfl⟩
theorem execMarginCheck_shape {group} {bundle} {found} (s : State) : ∃ g, execMarginCheck group bundle found s = whenReleased s g := ⟨_, rfl⟩
theorem execBundleRetrain_shape {group} {bundle} (s : State) : ∃ g, execBundleRetrain group bundle s = whenReleased s g := ⟨_, rfl⟩
theorem execBundleRetrainComplete_shape {group} {bundle} {accepted} (s : State) : ∃ g, execBundleRetrainComplete group bundle accepted s = whenReleased s g := ⟨_, rfl⟩
theorem execStagingWrite_shape {src} {image} (s : State) : ∃ g, execStagingWrite src image s = whenReleased s g := ⟨_, rfl⟩
theorem execStagingCancel_shape {src} {value} (s : State) : ∃ g, execStagingCancel src value s = whenReleased s g := ⟨_, rfl⟩
theorem execImageCopy_shape {readBackOk} (s : State) : ∃ g, execImageCopy readBackOk s = whenReleased s g := ⟨_, rfl⟩
theorem execTestStart_shape {src} {value} (s : State) : ∃ g, execTestStart src value s = whenReleased s g := ⟨_, rfl⟩
theorem execTestStop_shape {src} {value} (s : State) : ∃ g, execTestStop src value s = whenReleased s g := ⟨_, rfl⟩
theorem execTestEnd_shape {test} {lanes} (s : State) : ∃ g, execTestEnd test lanes s = whenReleased s g := ⟨_, rfl⟩
theorem execOverflowClear_shape {src} {value} (s : State) : ∃ g, execOverflowClear src value s = whenReleased s g := ⟨_, rfl⟩
theorem execBandwidthWindow_shape (s : State) : ∃ g, execBandwidthWindow s = whenReleased s g := ⟨_, rfl⟩
theorem execTapInstructionLoad_shape {code} (s : State) : ∃ g, execTapInstructionLoad code s = whenReleased s g := ⟨_, rfl⟩
theorem execExtest_shape (s : State) : ∃ g, execExtest s = whenReleased s g := ⟨_, rfl⟩
theorem execIdcode_shape (s : State) : ∃ g, execIdcode s = whenReleased s g := ⟨_, rfl⟩
theorem execSamplePreload_shape (s : State) : ∃ g, execSamplePreload s = whenReleased s g := ⟨_, rfl⟩
theorem execChainSelect_shape (s : State) : ∃ g, execChainSelect s = whenReleased s g := ⟨_, rfl⟩
theorem execInstruments_shape {claim} (s : State) : ∃ g, execInstruments claim s = whenReleased s g := ⟨_, rfl⟩
theorem execBypass_shape (s : State) : ∃ g, execBypass s = whenReleased s g := ⟨_, rfl⟩
theorem execLinkTraining_shape {port} {accepted} {credits} (s : State) : ∃ g, execLinkTraining port accepted credits s = whenReleased s g := ⟨_, rfl⟩
theorem execPlcaStatusChange_shape {ok} (s : State) : ∃ g, execPlcaStatusChange ok s = whenReleased s g := ⟨_, rfl⟩
theorem execTestLogicReset_shape {held} (s : State) : ∃ g, execTestLogicReset held s = whenReleased s g := ⟨_, rfl⟩
theorem execSyncLoss_shape {test} {lane} {mismatches} (s : State) : ∃ g, execSyncLoss test lane mismatches s = whenReleased s g := ⟨_, rfl⟩
theorem execRestStopDeferralEnd_shape {stack} {pch} (s : State) : ∃ g, execRestStopDeferralEnd stack pch s = whenReleased s g := ⟨_, rfl⟩

/-- Every other command is a change of state under `whenReleased`. -/
theorem exec_shape (i : Instr) (s : State) (h : i ≠ .qzRstNAssert) (k : ∀ env, i ≠ .startUp env) :
    ∃ f, exec i s = whenReleased s f :=
  match i with
  | .qzRstNAssert => absurd rfl h
  | .startUp env => absurd rfl (k env)
  | .hardRepairResult stack pch status => @execHardRepairResult_shape stack pch status s
  | .startUpHold src value => @execStartUpHold_shape src value s
  | .referenceLost die => @execReferenceLost_shape die s
  | .referenceRestored die => @execReferenceRestored_shape die s
  | .quadrantOffline q => @execQuadrantOffline_shape q s
  | .quadrantReturn q => @execQuadrantReturn_shape q s
  | .snapshotStart src value => @execSnapshotStart_shape src value s
  | .snapshotComplete roundTrips => @execSnapshotComplete_shape roundTrips s
  | .hostDateWrite src value => @execHostDateWrite_shape src value s
  | .poweredTimePersist => @execPoweredTimePersist_shape s
  | .flitReceived port bundle flit => @execFlitReceived_shape port bundle flit s
  | .linkReplay port acked => @execLinkReplay_shape port acked s
  | .read port r => @execRead_shape port r s
  | .write port r => @execWrite_shape port r s
  | .writeZero port r => @execWriteZero_shape port r s
  | .poison port r => @execPoison_shape port r s
  | .atomic port r => @execAtomic_shape port r s
  | .atomicFetch port r => @execAtomicFetch_shape port r s
  | .writeFence port r => @execWriteFence_shape port r s
  | .fullFence port r => @execFullFence_shape port r s
  | .fenceComplete port tag => @execFenceComplete_shape port tag s
  | .collectiveDeclare port r => @execCollectiveDeclare_shape port r s
  | .dictionaryRead port r => @execDictionaryRead_shape port r s
  | .dictionaryWrite port r => @execDictionaryWrite_shape port r s
  | .outingStart port r => @execOutingStart_shape port r s
  | .replicaFill port r => @execReplicaFill_shape port r s
  | .replicaRelease port r => @execReplicaRelease_shape port r s
  | .combinedAtomic port r => @execCombinedAtomic_shape port r s
  | .combinedAtomicFetch port r => @execCombinedAtomicFetch_shape port r s
  | .lockTimeout port => @execLockTimeout_shape port s
  | .visibilityPoint reqId => @execVisibilityPoint_shape reqId s
  | .responseSent port notice => @execResponseSent_shape port notice s
  | .portQuietEnter port samples => @execPortQuietEnter_shape port samples s
  | .portQuietLeave port samples => @execPortQuietLeave_shape port samples s
  | .quietChatter port changes => @execQuietChatter_shape port changes s
  | .quietChatterEnd port quietNs level => @execQuietChatterEnd_shape port quietNs level s
  | .sweepMarkerArrival requester q => @execSweepMarkerArrival_shape requester q s
  | .sweepAcknowledge requester q => @execSweepAcknowledge_shape requester q s
  | .arbiterDecision arbiter => @execArbiterDecision_shape arbiter s
  | .urgencyLevelChange port group samples spanNs => @execUrgencyLevelChange_shape port group samples spanNs s
  | .urgencyChatterStart port group changes => @execUrgencyChatterStart_shape port group changes s
  | .urgencyChatterEnd port group worst quietNs => @execUrgencyChatterEnd_shape port group worst quietNs s
  | .regulationWindowBoundary => @execRegulationWindowBoundary_shape s
  | .creditPositive entry => @execCreditPositive_shape entry s
  | .gateOpen port group => @execGateOpen_shape port group s
  | .gateListWrite src port value => @execGateListWrite_shape src port value s
  | .gateListActivate port => @execGateListActivate_shape port s
  | .reservationSetWrite src value => @execReservationSetWrite_shape src value s
  | .reservationSetActivate => @execReservationSetActivate_shape s
  | .floorRecompute cause => @execFloorRecompute_shape cause s
  | .latencyWindowEnd entry => @execLatencyWindowEnd_shape entry s
  | .samplingBoundary => @execSamplingBoundary_shape s
  | .sampleClear src value => @execSampleClear_shape src value s
  | .highWaterClear src value => @execHighWaterClear_shape src value s
  | .combiningWindowExpiry line => @execCombiningWindowExpiry_shape line s
  | .basketFlushVisible reqId => @execBasketFlushVisible_shape reqId s
  | .create src c => @execCreate_shape src c s
  | .free src c => @execFree_shape src c s
  | .modify src c => @execModify_shape src c s
  | .move src c => @execMove_shape src c s
  | .freedSlotCleared index => @execFreedSlotCleared_shape index s
  | .moveComplete segment => @execMoveComplete_shape segment s
  | .placementEvaluation => @execPlacementEvaluation_shape s
  | .mapRebuildComplete => @execMapRebuildComplete_shape s
  | .channelQueueEntry stack pch => @execChannelQueueEntry_shape stack pch s
  | .issueHalfSlot stack pch => @execIssueHalfSlot_shape stack pch s
  | .idleCloseTimeout stack pch bank => @execIdleCloseTimeout_shape stack pch bank s
  | .hammerEpochBoundary q => @execHammerEpochBoundary_shape q s
  | .activationTokenRefill stack pch bank => @execActivationTokenRefill_shape stack pch bank s
  | .refreshDue stack pch bank => @execRefreshDue_shape stack pch bank s
  | .readBurstReturn stack pch noise => @execReadBurstReturn_shape stack pch noise s
  | .escalationComplete stack pch => @execEscalationComplete_shape stack pch s
  | .missingBurstTimeout stack pch => @execMissingBurstTimeout_shape stack pch s
  | .caAlert stack erring clears => @execCaAlert_shape stack erring clears s
  | .temperatureReadout stack first repeated => @execTemperatureReadout_shape stack first repeated s
  | .restStopDue stack pch => @execRestStopDue_shape stack pch s
  | .restStop stack pch => @execRestStop_shape stack pch s
  | .restStopEnd stack pch drift worstLane eyes => @execRestStopEnd_shape stack pch drift worstLane eyes s
  | .divisionLowerHoldExpiry stack => @execDivisionLowerHoldExpiry_shape stack s
  | .descriptorStart q slot => @execDescriptorStart_shape q slot s
  | .hamperDescriptor q slot index => @execHamperDescriptor_shape q slot index s
  | .ramblerDescriptor q slot index => @execRamblerDescriptor_shape q slot index s
  | .transcodeCopyDescriptor q slot index => @execTranscodeCopyDescriptor_shape q slot index s
  | .blockCheckDescriptor q slot index => @execBlockCheckDescriptor_shape q slot index s
  | .continueDescriptor q slot => @execContinueDescriptor_shape q slot s
  | .endDescriptor q slot => @execEndDescriptor_shape q slot s
  | .bagMerge q slot index bag => @execBagMerge_shape q slot index bag s
  | .producedWordUpdate q slot index => @execProducedWordUpdate_shape q slot index s
  | .consumedWordPoll q slot index => @execConsumedWordPoll_shape q slot index s
  | .descriptorTimeout q slot index => @execDescriptorTimeout_shape q slot index s
  | .outingComplete q slot => @execOutingComplete_shape q slot s
  | .scrubDefine src value => @execScrubDefine_shape src value s
  | .scrubStop src value => @execScrubStop_shape src value s
  | .scrubRowUnit pass stack ch => @execScrubRowUnit_shape pass stack ch s
  | .scrubPassEnd pass => @execScrubPassEnd_shape pass s
  | .scrubRepeatStart pass => @execScrubRepeatStart_shape pass s
  | .channelLost stack ch condition => @execChannelLost_shape stack ch condition s
  | .channelRebuildComplete stack ch => @execChannelRebuildComplete_shape stack ch s
  | .laneSparingPause stack pch errors eye => @execLaneSparingPause_shape stack pch errors eye s
  | .channelSparing stack ch => @execChannelSparing_shape stack ch s
  | .channelSparingCopyUnit stack => @execChannelSparingCopyUnit_shape stack s
  | .channelSparingComplete stack => @execChannelSparingComplete_shape stack s
  | .mapOut stack ch => @execMapOut_shape stack ch s
  | .mapOutComplete stack ch => @execMapOutComplete_shape stack ch s
  | .spareLane src value => @execSpareLane_shape src value s
  | .spareChannel src value => @execSpareChannel_shape src value s
  | .mapOutChannel src value => @execMapOutChannel_shape src value s
  | .queueHardRowRepair src value => @execQueueHardRowRepair_shape src value s
  | .queueColumnRepair src value => @execQueueColumnRepair_shape src value s
  | .cancelQueuedRepairs src value => @execCancelQueuedRepairs_shape src value s
  | .ledgerWrite programOk => @execLedgerWrite_shape programOk s
  | .stackWearRecord => @execStackWearRecord_shape s
  | .forecast => @execForecast_shape s
  | .meterReport die core phyPll => @execMeterReport_shape die core phyPll s
  | .governorStep => @execGovernorStep_shape s
  | .flaskAllowanceEnded stack => @execFlaskAllowanceEnded_shape stack s
  | .junctionRead temps => @execJunctionRead_shape temps s
  | .supplyFault die ns => @execSupplyFault_shape die ns s
  | .shutdownInMode src value => @execShutdownInMode_shape src value s
  | .shutdownImmediate src value => @execShutdownImmediate_shape src value s
  | .resume src value => @execResume_shape src value s
  | .resumed => @execResumed_shape s
  | .frameReceived f => @execFrameReceived_shape f s
  | .discover src => @execDiscover_shape src s
  | .serviceRead src index sub array => @execServiceRead_shape src index sub array s
  | .serviceWrite src index sub value => @execServiceWrite_shape src index sub value s
  | .describe src index sub => @execDescribe_shape src index sub s
  | .transferBegin src write index sub length => @execTransferBegin_shape src write index sub length s
  | .transferBlock src transfer offset data => @execTransferBlock_shape src transfer offset data s
  | .transferEnd src transfer crc => @execTransferEnd_shape src transfer crc s
  | .transferAbort src transfer => @execTransferAbort_shape src transfer s
  | .transferTimeout transfer => @execTransferTimeout_shape transfer s
  | .sessionOpen src role => @execSessionOpen_shape src role s
  | .sessionUnlock src code => @execSessionUnlock_shape src code s
  | .sessionClose src => @execSessionClose_shape src s
  | .sessionIdleTimeout session => @execSessionIdleTimeout_shape session s
  | .noticeAcknowledge src sequence => @execNoticeAcknowledge_shape src sequence s
  | .inProgressResponse src => @execInProgressResponse_shape src s
  | .transmitOpportunity => @execTransmitOpportunity_shape s
  | .noticeResend subscriber => @execNoticeResend_shape subscriber s
  | .inBandChallenge port r => @execInBandChallenge_shape port r s
  | .inBandUnlock port r => @execInBandUnlock_shape port r s
  | .inBandRoleDrop port r => @execInBandRoleDrop_shape port r s
  | .settingsStoreReset src value => @execSettingsStoreReset_shape src value s
  | .objectWrite src index sub value => @execObjectWrite_shape src index sub value s
  | .quadrantReset src q ends => @execQuadrantReset_shape src q ends s
  | .quadrantResetAndHold src q ends => @execQuadrantResetAndHold_shape src q ends s
  | .quadrantReleaseHold src q => @execQuadrantReleaseHold_shape src q s
  | .stateCheckError q ends => @execStateCheckError_shape q ends s
  | .quadrantResetTimeout q => @execQuadrantResetTimeout_shape q s
  | .portReset src port => @execPortReset_shape src port s
  | .portResetAndHold src port => @execPortResetAndHold_shape src port s
  | .portReleaseHold src port => @execPortReleaseHold_shape src port s
  | .linkRetrain port credits => @execLinkRetrain_shape port credits s
  | .slateEnter src value => @execSlateEnter_shape src value s
  | .slateLeave src value => @execSlateLeave_shape src value s
  | .marginCheck group bundle found => @execMarginCheck_shape group bundle found s
  | .bundleRetrain group bundle => @execBundleRetrain_shape group bundle s
  | .bundleRetrainComplete group bundle accepted => @execBundleRetrainComplete_shape group bundle accepted s
  | .stagingWrite src image => @execStagingWrite_shape src image s
  | .stagingCancel src value => @execStagingCancel_shape src value s
  | .imageCopy readBackOk => @execImageCopy_shape readBackOk s
  | .testStart src value => @execTestStart_shape src value s
  | .testStop src value => @execTestStop_shape src value s
  | .testEnd test lanes => @execTestEnd_shape test lanes s
  | .overflowClear src value => @execOverflowClear_shape src value s
  | .bandwidthWindow => @execBandwidthWindow_shape s
  | .tapInstructionLoad code => @execTapInstructionLoad_shape code s
  | .extest => @execExtest_shape s
  | .idcode => @execIdcode_shape s
  | .samplePreload => @execSamplePreload_shape s
  | .chainSelect => @execChainSelect_shape s
  | .instruments claim => @execInstruments_shape claim s
  | .bypass => @execBypass_shape s
  | .linkTraining port accepted credits => @execLinkTraining_shape port accepted credits s
  | .plcaStatusChange ok => @execPlcaStatusChange_shape ok s
  | .testLogicReset held => @execTestLogicReset_shape held s
  | .syncLoss test lane mismatches => @execSyncLoss_shape test lane mismatches s
  | .restStopDeferralEnd stack pch => @execRestStopDeferralEnd_shape stack pch s

end Sys2Proof.Machine
end

