-- ==== Sys2Proof/Laws/Shared.lean ====
section
/-!
SUPPORT. What the shared operations leave alone: journal, ledger, counters and notices change no state but the writer of NOR,
the notice queues, the counters; each lemma says so once, field by field.
-/
namespace Sys2Proof.Machine

/-- A fact that each turn of a loop keeps holds at its end. -/
theorem forEach_keeps {σ α : Type} {P : σ → Prop} {f : α → σ → σ} (step : ∀ x s, P s → P (f x s)) (xs : List α) (s : σ) (h : P s) :
    P (forEach xs f s) := by
  induction xs generalizing s with
  | nil => exact h
  | cons x r ih => exact ih (f x s) (step x s h)

/-- A value that no turn of a loop changes. -/
theorem forEach_same {σ α β : Type} (g : σ → β) {f : α → σ → σ} (step : ∀ x s, g (f x s) = g s) (xs : List α) (s : σ) :
    g (forEach xs f s) = g s :=
  forEach_keeps (P := fun t => g t = g s) (fun x t h => (step x t).trans h) xs s rfl

@[simp] theorem forEach_nil {σ α : Type} (f : α → σ → σ) (s : σ) : forEach [] f s = s := rfl
@[simp] theorem forEach_cons {σ α : Type} (x : α) (xs : List α) (f : α → σ → σ) (s : σ) :
    forEach (x :: xs) f s = forEach xs f (f x s) := rfl

section
variable (s : State)

@[simp] theorem bump_pending (i k n : Nat) : (bump i k n s).pending = s.pending := by unfold bump; split <;> rfl
@[simp] theorem bump_variant (i k n : Nat) : (bump i k n s).variant = s.variant := by unfold bump; split <;> rfl
@[simp] theorem bump_released (i k n : Nat) : (bump i k n s).released = s.released := by unfold bump; split <;> rfl
@[simp] theorem bump_ident (i k n : Nat) : (bump i k n s).ident = s.ident := by unfold bump; split <;> rfl
@[simp] theorem bump_clk (i k n : Nat) : (bump i k n s).clk = s.clk := by unfold bump; split <;> rfl
@[simp] theorem bump_nor (i k n : Nat) : (bump i k n s).nor = s.nor := by unfold bump; split <;> rfl
@[simp] theorem bump_objs (i k n : Nat) : (bump i k n s).objs = s.objs := by unfold bump; split <;> rfl
@[simp] theorem bump_win (i k n : Nat) : (bump i k n s).win = s.win := by unfold bump; split <;> rfl
@[simp] theorem bump_map (i k n : Nat) : (bump i k n s).map = s.map := by unfold bump; split <;> rfl
@[simp] theorem bump_ports (i k n : Nat) : (bump i k n s).ports = s.ports := by unfold bump; split <;> rfl
@[simp] theorem bump_eng (i k n : Nat) : (bump i k n s).eng = s.eng := by unfold bump; split <;> rfl
@[simp] theorem bump_reqs (i k n : Nat) : (bump i k n s).reqs = s.reqs := by unfold bump; split <;> rfl
@[simp] theorem bump_nextReq (i k n : Nat) : (bump i k n s).nextReq = s.nextReq := by unfold bump; split <;> rfl
@[simp] theorem bump_reg (i k n : Nat) : (bump i k n s).reg = s.reg := by unfold bump; split <;> rfl
@[simp] theorem bump_tree (i k n : Nat) : (bump i k n s).tree = s.tree := by unfold bump; split <;> rfl
@[simp] theorem bump_chans (i k n : Nat) : (bump i k n s).chans = s.chans := by unfold bump; split <;> rfl
@[simp] theorem bump_stk (i k n : Nat) : (bump i k n s).stk = s.stk := by unfold bump; split <;> rfl
@[simp] theorem bump_mem (i k n : Nat) : (bump i k n s).mem = s.mem := by unfold bump; split <;> rfl
@[simp] theorem bump_touch (i k n : Nat) : (bump i k n s).touch = s.touch := by unfold bump; split <;> rfl
@[simp] theorem bump_rehomes (i k n : Nat) : (bump i k n s).rehomes = s.rehomes := by unfold bump; split <;> rfl
@[simp] theorem bump_codec (i k n : Nat) : (bump i k n s).codec = s.codec := by unfold bump; split <;> rfl
@[simp] theorem bump_engines (i k n : Nat) : (bump i k n s).engines = s.engines := by unfold bump; split <;> rfl
@[simp] theorem bump_fabric (i k n : Nat) : (bump i k n s).fabric = s.fabric := by unfold bump; split <;> rfl
@[simp] theorem bump_links (i k n : Nat) : (bump i k n s).links = s.links := by unfold bump; split <;> rfl
@[simp] theorem bump_quads (i k n : Nat) : (bump i k n s).quads = s.quads := by unfold bump; split <;> rfl
@[simp] theorem bump_start (i k n : Nat) : (bump i k n s).start = s.start := by unfold bump; split <;> rfl
@[simp] theorem bump_power (i k n : Nat) : (bump i k n s).power = s.power := by unfold bump; split <;> rfl
@[simp] theorem bump_svc (i k n : Nat) : (bump i k n s).svc = s.svc := by unfold bump; split <;> rfl
@[simp] theorem bump_image (i k n : Nat) : (bump i k n s).image = s.image := by unfold bump; split <;> rfl
@[simp] theorem bump_test (i k n : Nat) : (bump i k n s).test = s.test := by unfold bump; split <;> rfl
@[simp] theorem bump_draw (i k n : Nat) : (bump i k n s).draw = s.draw := by unfold bump; split <;> rfl

@[simp] theorem journal_pending (k : Nat) (b : Bytes) : (journal k b s).pending = s.pending := by unfold journal; dsimp only; (repeat' split) <;> rfl
@[simp] theorem journal_variant (k : Nat) (b : Bytes) : (journal k b s).variant = s.variant := by unfold journal; dsimp only; (repeat' split) <;> rfl
@[simp] theorem journal_released (k : Nat) (b : Bytes) : (journal k b s).released = s.released := by unfold journal; dsimp only; (repeat' split) <;> rfl
@[simp] theorem journal_ident (k : Nat) (b : Bytes) : (journal k b s).ident = s.ident := by unfold journal; dsimp only; (repeat' split) <;> rfl
@[simp] theorem journal_clk (k : Nat) (b : Bytes) : (journal k b s).clk = s.clk := by unfold journal; dsimp only; (repeat' split) <;> rfl
@[simp] theorem journal_objs (k : Nat) (b : Bytes) : (journal k b s).objs = s.objs := by unfold journal; dsimp only; (repeat' split) <;> rfl
@[simp] theorem journal_win (k : Nat) (b : Bytes) : (journal k b s).win = s.win := by unfold journal; dsimp only; (repeat' split) <;> rfl
@[simp] theorem journal_map (k : Nat) (b : Bytes) : (journal k b s).map = s.map := by unfold journal; dsimp only; (repeat' split) <;> rfl
@[simp] theorem journal_ports (k : Nat) (b : Bytes) : (journal k b s).ports = s.ports := by unfold journal; dsimp only; (repeat' split) <;> rfl
@[simp] theorem journal_eng (k : Nat) (b : Bytes) : (journal k b s).eng = s.eng := by unfold journal; dsimp only; (repeat' split) <;> rfl
@[simp] theorem journal_reqs (k : Nat) (b : Bytes) : (journal k b s).reqs = s.reqs := by unfold journal; dsimp only; (repeat' split) <;> rfl
@[simp] theorem journal_nextReq (k : Nat) (b : Bytes) : (journal k b s).nextReq = s.nextReq := by unfold journal; dsimp only; (repeat' split) <;> rfl
@[simp] theorem journal_reg (k : Nat) (b : Bytes) : (journal k b s).reg = s.reg := by unfold journal; dsimp only; (repeat' split) <;> rfl
@[simp] theorem journal_tree (k : Nat) (b : Bytes) : (journal k b s).tree = s.tree := by unfold journal; dsimp only; (repeat' split) <;> rfl
@[simp] theorem journal_chans (k : Nat) (b : Bytes) : (journal k b s).chans = s.chans := by unfold journal; dsimp only; (repeat' split) <;> rfl
@[simp] theorem journal_stk (k : Nat) (b : Bytes) : (journal k b s).stk = s.stk := by unfold journal; dsimp only; (repeat' split) <;> rfl
@[simp] theorem journal_mem (k : Nat) (b : Bytes) : (journal k b s).mem = s.mem := by unfold journal; dsimp only; (repeat' split) <;> rfl
@[simp] theorem journal_touch (k : Nat) (b : Bytes) : (journal k b s).touch = s.touch := by unfold journal; dsimp only; (repeat' split) <;> rfl
@[simp] theorem journal_rehomes (k : Nat) (b : Bytes) : (journal k b s).rehomes = s.rehomes := by unfold journal; dsimp only; (repeat' split) <;> rfl
@[simp] theorem journal_codec (k : Nat) (b : Bytes) : (journal k b s).codec = s.codec := by unfold journal; dsimp only; (repeat' split) <;> rfl
@[simp] theorem journal_engines (k : Nat) (b : Bytes) : (journal k b s).engines = s.engines := by unfold journal; dsimp only; (repeat' split) <;> rfl
@[simp] theorem journal_fabric (k : Nat) (b : Bytes) : (journal k b s).fabric = s.fabric := by unfold journal; dsimp only; (repeat' split) <;> rfl
@[simp] theorem journal_links (k : Nat) (b : Bytes) : (journal k b s).links = s.links := by unfold journal; dsimp only; (repeat' split) <;> rfl
@[simp] theorem journal_quads (k : Nat) (b : Bytes) : (journal k b s).quads = s.quads := by unfold journal; dsimp only; (repeat' split) <;> rfl
@[simp] theorem journal_start (k : Nat) (b : Bytes) : (journal k b s).start = s.start := by unfold journal; dsimp only; (repeat' split) <;> rfl
@[simp] theorem journal_power (k : Nat) (b : Bytes) : (journal k b s).power = s.power := by unfold journal; dsimp only; (repeat' split) <;> rfl
@[simp] theorem journal_svc (k : Nat) (b : Bytes) : (journal k b s).svc = s.svc := by unfold journal; dsimp only; (repeat' split) <;> rfl
@[simp] theorem journal_image (k : Nat) (b : Bytes) : (journal k b s).image = s.image := by unfold journal; dsimp only; (repeat' split) <;> rfl
@[simp] theorem journal_test (k : Nat) (b : Bytes) : (journal k b s).test = s.test := by unfold journal; dsimp only; (repeat' split) <;> rfl
@[simp] theorem journal_cnt (k : Nat) (b : Bytes) : (journal k b s).cnt = s.cnt := by unfold journal; dsimp only; (repeat' split) <;> rfl
@[simp] theorem journal_draw (k : Nat) (b : Bytes) : (journal k b s).draw = s.draw := by unfold journal; dsimp only; (repeat' split) <;> rfl

@[simp] theorem ledger_pending (k : Nat) (b : Bytes) : (ledger k b s).pending = s.pending := by unfold ledger; split <;> rfl
@[simp] theorem ledger_variant (k : Nat) (b : Bytes) : (ledger k b s).variant = s.variant := by unfold ledger; split <;> rfl
@[simp] theorem ledger_released (k : Nat) (b : Bytes) : (ledger k b s).released = s.released := by unfold ledger; split <;> rfl
@[simp] theorem ledger_ident (k : Nat) (b : Bytes) : (ledger k b s).ident = s.ident := by unfold ledger; split <;> rfl
@[simp] theorem ledger_clk (k : Nat) (b : Bytes) : (ledger k b s).clk = s.clk := by unfold ledger; split <;> rfl
@[simp] theorem ledger_objs (k : Nat) (b : Bytes) : (ledger k b s).objs = s.objs := by unfold ledger; split <;> rfl
@[simp] theorem ledger_win (k : Nat) (b : Bytes) : (ledger k b s).win = s.win := by unfold ledger; split <;> rfl
@[simp] theorem ledger_map (k : Nat) (b : Bytes) : (ledger k b s).map = s.map := by unfold ledger; split <;> rfl
@[simp] theorem ledger_ports (k : Nat) (b : Bytes) : (ledger k b s).ports = s.ports := by unfold ledger; split <;> rfl
@[simp] theorem ledger_eng (k : Nat) (b : Bytes) : (ledger k b s).eng = s.eng := by unfold ledger; split <;> rfl
@[simp] theorem ledger_reqs (k : Nat) (b : Bytes) : (ledger k b s).reqs = s.reqs := by unfold ledger; split <;> rfl
@[simp] theorem ledger_nextReq (k : Nat) (b : Bytes) : (ledger k b s).nextReq = s.nextReq := by unfold ledger; split <;> rfl
@[simp] theorem ledger_reg (k : Nat) (b : Bytes) : (ledger k b s).reg = s.reg := by unfold ledger; split <;> rfl
@[simp] theorem ledger_tree (k : Nat) (b : Bytes) : (ledger k b s).tree = s.tree := by unfold ledger; split <;> rfl
@[simp] theorem ledger_chans (k : Nat) (b : Bytes) : (ledger k b s).chans = s.chans := by unfold ledger; split <;> rfl
@[simp] theorem ledger_stk (k : Nat) (b : Bytes) : (ledger k b s).stk = s.stk := by unfold ledger; split <;> rfl
@[simp] theorem ledger_mem (k : Nat) (b : Bytes) : (ledger k b s).mem = s.mem := by unfold ledger; split <;> rfl
@[simp] theorem ledger_touch (k : Nat) (b : Bytes) : (ledger k b s).touch = s.touch := by unfold ledger; split <;> rfl
@[simp] theorem ledger_rehomes (k : Nat) (b : Bytes) : (ledger k b s).rehomes = s.rehomes := by unfold ledger; split <;> rfl
@[simp] theorem ledger_codec (k : Nat) (b : Bytes) : (ledger k b s).codec = s.codec := by unfold ledger; split <;> rfl
@[simp] theorem ledger_engines (k : Nat) (b : Bytes) : (ledger k b s).engines = s.engines := by unfold ledger; split <;> rfl
@[simp] theorem ledger_fabric (k : Nat) (b : Bytes) : (ledger k b s).fabric = s.fabric := by unfold ledger; split <;> rfl
@[simp] theorem ledger_links (k : Nat) (b : Bytes) : (ledger k b s).links = s.links := by unfold ledger; split <;> rfl
@[simp] theorem ledger_quads (k : Nat) (b : Bytes) : (ledger k b s).quads = s.quads := by unfold ledger; split <;> rfl
@[simp] theorem ledger_start (k : Nat) (b : Bytes) : (ledger k b s).start = s.start := by unfold ledger; split <;> rfl
@[simp] theorem ledger_power (k : Nat) (b : Bytes) : (ledger k b s).power = s.power := by unfold ledger; split <;> rfl
@[simp] theorem ledger_svc (k : Nat) (b : Bytes) : (ledger k b s).svc = s.svc := by unfold ledger; split <;> rfl
@[simp] theorem ledger_image (k : Nat) (b : Bytes) : (ledger k b s).image = s.image := by unfold ledger; split <;> rfl
@[simp] theorem ledger_test (k : Nat) (b : Bytes) : (ledger k b s).test = s.test := by unfold ledger; split <;> rfl
@[simp] theorem ledger_cnt (k : Nat) (b : Bytes) : (ledger k b s).cnt = s.cnt := by unfold ledger; split <;> rfl
@[simp] theorem ledger_draw (k : Nat) (b : Bytes) : (ledger k b s).draw = s.draw := by unfold ledger; split <;> rfl

@[simp] theorem updPort_pending (p : Nat) (f : Port → Port) : (updPort p f s).pending = s.pending := by unfold updPort; split <;> rfl
@[simp] theorem updPort_variant (p : Nat) (f : Port → Port) : (updPort p f s).variant = s.variant := by unfold updPort; split <;> rfl
@[simp] theorem updPort_released (p : Nat) (f : Port → Port) : (updPort p f s).released = s.released := by unfold updPort; split <;> rfl
@[simp] theorem updPort_ident (p : Nat) (f : Port → Port) : (updPort p f s).ident = s.ident := by unfold updPort; split <;> rfl
@[simp] theorem updPort_clk (p : Nat) (f : Port → Port) : (updPort p f s).clk = s.clk := by unfold updPort; split <;> rfl
@[simp] theorem updPort_nor (p : Nat) (f : Port → Port) : (updPort p f s).nor = s.nor := by unfold updPort; split <;> rfl
@[simp] theorem updPort_objs (p : Nat) (f : Port → Port) : (updPort p f s).objs = s.objs := by unfold updPort; split <;> rfl
@[simp] theorem updPort_win (p : Nat) (f : Port → Port) : (updPort p f s).win = s.win := by unfold updPort; split <;> rfl
@[simp] theorem updPort_map (p : Nat) (f : Port → Port) : (updPort p f s).map = s.map := by unfold updPort; split <;> rfl
@[simp] theorem updPort_reqs (p : Nat) (f : Port → Port) : (updPort p f s).reqs = s.reqs := by unfold updPort; split <;> rfl
@[simp] theorem updPort_nextReq (p : Nat) (f : Port → Port) : (updPort p f s).nextReq = s.nextReq := by unfold updPort; split <;> rfl
@[simp] theorem updPort_reg (p : Nat) (f : Port → Port) : (updPort p f s).reg = s.reg := by unfold updPort; split <;> rfl
@[simp] theorem updPort_tree (p : Nat) (f : Port → Port) : (updPort p f s).tree = s.tree := by unfold updPort; split <;> rfl
@[simp] theorem updPort_chans (p : Nat) (f : Port → Port) : (updPort p f s).chans = s.chans := by unfold updPort; split <;> rfl
@[simp] theorem updPort_stk (p : Nat) (f : Port → Port) : (updPort p f s).stk = s.stk := by unfold updPort; split <;> rfl
@[simp] theorem updPort_mem (p : Nat) (f : Port → Port) : (updPort p f s).mem = s.mem := by unfold updPort; split <;> rfl
@[simp] theorem updPort_touch (p : Nat) (f : Port → Port) : (updPort p f s).touch = s.touch := by unfold updPort; split <;> rfl
@[simp] theorem updPort_rehomes (p : Nat) (f : Port → Port) : (updPort p f s).rehomes = s.rehomes := by unfold updPort; split <;> rfl
@[simp] theorem updPort_codec (p : Nat) (f : Port → Port) : (updPort p f s).codec = s.codec := by unfold updPort; split <;> rfl
@[simp] theorem updPort_engines (p : Nat) (f : Port → Port) : (updPort p f s).engines = s.engines := by unfold updPort; split <;> rfl
@[simp] theorem updPort_fabric (p : Nat) (f : Port → Port) : (updPort p f s).fabric = s.fabric := by unfold updPort; split <;> rfl
@[simp] theorem updPort_links (p : Nat) (f : Port → Port) : (updPort p f s).links = s.links := by unfold updPort; split <;> rfl
@[simp] theorem updPort_quads (p : Nat) (f : Port → Port) : (updPort p f s).quads = s.quads := by unfold updPort; split <;> rfl
@[simp] theorem updPort_start (p : Nat) (f : Port → Port) : (updPort p f s).start = s.start := by unfold updPort; split <;> rfl
@[simp] theorem updPort_power (p : Nat) (f : Port → Port) : (updPort p f s).power = s.power := by unfold updPort; split <;> rfl
@[simp] theorem updPort_svc (p : Nat) (f : Port → Port) : (updPort p f s).svc = s.svc := by unfold updPort; split <;> rfl
@[simp] theorem updPort_image (p : Nat) (f : Port → Port) : (updPort p f s).image = s.image := by unfold updPort; split <;> rfl
@[simp] theorem updPort_test (p : Nat) (f : Port → Port) : (updPort p f s).test = s.test := by unfold updPort; split <;> rfl
@[simp] theorem updPort_cnt (p : Nat) (f : Port → Port) : (updPort p f s).cnt = s.cnt := by unfold updPort; split <;> rfl
@[simp] theorem updPort_draw (p : Nat) (f : Port → Port) : (updPort p f s).draw = s.draw := by unfold updPort; split <;> rfl

@[simp] theorem subQueue_pending (i : Nat) (n : Notice) : (subQueue i n s).pending = s.pending := rfl
@[simp] theorem subQueue_variant (i : Nat) (n : Notice) : (subQueue i n s).variant = s.variant := rfl
@[simp] theorem subQueue_released (i : Nat) (n : Notice) : (subQueue i n s).released = s.released := rfl
@[simp] theorem subQueue_ident (i : Nat) (n : Notice) : (subQueue i n s).ident = s.ident := rfl
@[simp] theorem subQueue_clk (i : Nat) (n : Notice) : (subQueue i n s).clk = s.clk := rfl
@[simp] theorem subQueue_nor (i : Nat) (n : Notice) : (subQueue i n s).nor = s.nor := rfl
@[simp] theorem subQueue_objs (i : Nat) (n : Notice) : (subQueue i n s).objs = s.objs := rfl
@[simp] theorem subQueue_win (i : Nat) (n : Notice) : (subQueue i n s).win = s.win := rfl
@[simp] theorem subQueue_map (i : Nat) (n : Notice) : (subQueue i n s).map = s.map := rfl
@[simp] theorem subQueue_ports (i : Nat) (n : Notice) : (subQueue i n s).ports = s.ports := rfl
@[simp] theorem subQueue_eng (i : Nat) (n : Notice) : (subQueue i n s).eng = s.eng := rfl
@[simp] theorem subQueue_reqs (i : Nat) (n : Notice) : (subQueue i n s).reqs = s.reqs := rfl
@[simp] theorem subQueue_nextReq (i : Nat) (n : Notice) : (subQueue i n s).nextReq = s.nextReq := rfl
@[simp] theorem subQueue_reg (i : Nat) (n : Notice) : (subQueue i n s).reg = s.reg := rfl
@[simp] theorem subQueue_tree (i : Nat) (n : Notice) : (subQueue i n s).tree = s.tree := rfl
@[simp] theorem subQueue_chans (i : Nat) (n : Notice) : (subQueue i n s).chans = s.chans := rfl
@[simp] theorem subQueue_stk (i : Nat) (n : Notice) : (subQueue i n s).stk = s.stk := rfl
@[simp] theorem subQueue_mem (i : Nat) (n : Notice) : (subQueue i n s).mem = s.mem := rfl
@[simp] theorem subQueue_touch (i : Nat) (n : Notice) : (subQueue i n s).touch = s.touch := rfl
@[simp] theorem subQueue_rehomes (i : Nat) (n : Notice) : (subQueue i n s).rehomes = s.rehomes := rfl
@[simp] theorem subQueue_codec (i : Nat) (n : Notice) : (subQueue i n s).codec = s.codec := rfl
@[simp] theorem subQueue_engines (i : Nat) (n : Notice) : (subQueue i n s).engines = s.engines := rfl
@[simp] theorem subQueue_fabric (i : Nat) (n : Notice) : (subQueue i n s).fabric = s.fabric := rfl
@[simp] theorem subQueue_links (i : Nat) (n : Notice) : (subQueue i n s).links = s.links := rfl
@[simp] theorem subQueue_quads (i : Nat) (n : Notice) : (subQueue i n s).quads = s.quads := rfl
@[simp] theorem subQueue_start (i : Nat) (n : Notice) : (subQueue i n s).start = s.start := rfl
@[simp] theorem subQueue_power (i : Nat) (n : Notice) : (subQueue i n s).power = s.power := rfl
@[simp] theorem subQueue_image (i : Nat) (n : Notice) : (subQueue i n s).image = s.image := rfl
@[simp] theorem subQueue_test (i : Nat) (n : Notice) : (subQueue i n s).test = s.test := rfl
@[simp] theorem subQueue_cnt (i : Nat) (n : Notice) : (subQueue i n s).cnt = s.cnt := rfl
@[simp] theorem subQueue_draw (i : Nat) (n : Notice) : (subQueue i n s).draw = s.draw := rfl

/-- What a notice's queues and the journal do not change, the notice does not change. -/
theorem raiseBut_same {β : Type} (g : State → β) (hsub : ∀ i n t, g (subQueue i n t) = g t)
    (hport : ∀ p (f : Port → Port) t, g (updPort p f t) = g t) (hjournal : ∀ k b t, g (journal k b t) = g t)
    (skip : Nat) (n : Notice) (s : State) : g (raiseBut skip n s) = g s := by
  unfold raiseBut journalNotice
  dsimp only
  have hports : ∀ t, g (forEach (List.range 4) (fun p t => if portWants t p n then portQueue p n t else t) t) = g t :=
    forEach_same g (fun p t => by split; exact hport _ _ _; rfl) _
  have hsubs : ∀ t, g (forEach (List.range 8) (fun i t => if i + 1 ≠ skip && subWants t i n then subQueue i n t else t) t) = g t :=
    forEach_same g (fun i t => by split; exact hsub _ _ _; rfl) _
  split
  · exact (hjournal _ _ _).trans ((hports _).trans (hsubs _))
  · exact (hports _).trans (hsubs _)

@[simp] theorem raiseBut_pending (skip : Nat) (n : Notice) : (raiseBut skip n s).pending = s.pending := raiseBut_same (·.pending) (fun _ _ _ => rfl) (fun _ _ _ => updPort_pending _ _ _) (fun _ _ _ => journal_pending _ _ _) skip n s
@[simp] theorem raiseBut_variant (skip : Nat) (n : Notice) : (raiseBut skip n s).variant = s.variant := raiseBut_same (·.variant) (fun _ _ _ => rfl) (fun _ _ _ => updPort_variant _ _ _) (fun _ _ _ => journal_variant _ _ _) skip n s
@[simp] theorem raiseBut_released (skip : Nat) (n : Notice) : (raiseBut skip n s).released = s.released := raiseBut_same (·.released) (fun _ _ _ => rfl) (fun _ _ _ => updPort_released _ _ _) (fun _ _ _ => journal_released _ _ _) skip n s
@[simp] theorem raiseBut_ident (skip : Nat) (n : Notice) : (raiseBut skip n s).ident = s.ident := raiseBut_same (·.ident) (fun _ _ _ => rfl) (fun _ _ _ => updPort_ident _ _ _) (fun _ _ _ => journal_ident _ _ _) skip n s
@[simp] theorem raiseBut_clk (skip : Nat) (n : Notice) : (raiseBut skip n s).clk = s.clk := raiseBut_same (·.clk) (fun _ _ _ => rfl) (fun _ _ _ => updPort_clk _ _ _) (fun _ _ _ => journal_clk _ _ _) skip n s
@[simp] theorem raiseBut_objs (skip : Nat) (n : Notice) : (raiseBut skip n s).objs = s.objs := raiseBut_same (·.objs) (fun _ _ _ => rfl) (fun _ _ _ => updPort_objs _ _ _) (fun _ _ _ => journal_objs _ _ _) skip n s
@[simp] theorem raiseBut_win (skip : Nat) (n : Notice) : (raiseBut skip n s).win = s.win := raiseBut_same (·.win) (fun _ _ _ => rfl) (fun _ _ _ => updPort_win _ _ _) (fun _ _ _ => journal_win _ _ _) skip n s
@[simp] theorem raiseBut_map (skip : Nat) (n : Notice) : (raiseBut skip n s).map = s.map := raiseBut_same (·.map) (fun _ _ _ => rfl) (fun _ _ _ => updPort_map _ _ _) (fun _ _ _ => journal_map _ _ _) skip n s
@[simp] theorem raiseBut_reqs (skip : Nat) (n : Notice) : (raiseBut skip n s).reqs = s.reqs := raiseBut_same (·.reqs) (fun _ _ _ => rfl) (fun _ _ _ => updPort_reqs _ _ _) (fun _ _ _ => journal_reqs _ _ _) skip n s
@[simp] theorem raiseBut_nextReq (skip : Nat) (n : Notice) : (raiseBut skip n s).nextReq = s.nextReq := raiseBut_same (·.nextReq) (fun _ _ _ => rfl) (fun _ _ _ => updPort_nextReq _ _ _) (fun _ _ _ => journal_nextReq _ _ _) skip n s
@[simp] theorem raiseBut_reg (skip : Nat) (n : Notice) : (raiseBut skip n s).reg = s.reg := raiseBut_same (·.reg) (fun _ _ _ => rfl) (fun _ _ _ => updPort_reg _ _ _) (fun _ _ _ => journal_reg _ _ _) skip n s
@[simp] theorem raiseBut_tree (skip : Nat) (n : Notice) : (raiseBut skip n s).tree = s.tree := raiseBut_same (·.tree) (fun _ _ _ => rfl) (fun _ _ _ => updPort_tree _ _ _) (fun _ _ _ => journal_tree _ _ _) skip n s
@[simp] theorem raiseBut_chans (skip : Nat) (n : Notice) : (raiseBut skip n s).chans = s.chans := raiseBut_same (·.chans) (fun _ _ _ => rfl) (fun _ _ _ => updPort_chans _ _ _) (fun _ _ _ => journal_chans _ _ _) skip n s
@[simp] theorem raiseBut_stk (skip : Nat) (n : Notice) : (raiseBut skip n s).stk = s.stk := raiseBut_same (·.stk) (fun _ _ _ => rfl) (fun _ _ _ => updPort_stk _ _ _) (fun _ _ _ => journal_stk _ _ _) skip n s
@[simp] theorem raiseBut_mem (skip : Nat) (n : Notice) : (raiseBut skip n s).mem = s.mem := raiseBut_same (·.mem) (fun _ _ _ => rfl) (fun _ _ _ => updPort_mem _ _ _) (fun _ _ _ => journal_mem _ _ _) skip n s
@[simp] theorem raiseBut_touch (skip : Nat) (n : Notice) : (raiseBut skip n s).touch = s.touch := raiseBut_same (·.touch) (fun _ _ _ => rfl) (fun _ _ _ => updPort_touch _ _ _) (fun _ _ _ => journal_touch _ _ _) skip n s
@[simp] theorem raiseBut_rehomes (skip : Nat) (n : Notice) : (raiseBut skip n s).rehomes = s.rehomes := raiseBut_same (·.rehomes) (fun _ _ _ => rfl) (fun _ _ _ => updPort_rehomes _ _ _) (fun _ _ _ => journal_rehomes _ _ _) skip n s
@[simp] theorem raiseBut_codec (skip : Nat) (n : Notice) : (raiseBut skip n s).codec = s.codec := raiseBut_same (·.codec) (fun _ _ _ => rfl) (fun _ _ _ => updPort_codec _ _ _) (fun _ _ _ => journal_codec _ _ _) skip n s
@[simp] theorem raiseBut_engines (skip : Nat) (n : Notice) : (raiseBut skip n s).engines = s.engines := raiseBut_same (·.engines) (fun _ _ _ => rfl) (fun _ _ _ => updPort_engines _ _ _) (fun _ _ _ => journal_engines _ _ _) skip n s
@[simp] theorem raiseBut_fabric (skip : Nat) (n : Notice) : (raiseBut skip n s).fabric = s.fabric := raiseBut_same (·.fabric) (fun _ _ _ => rfl) (fun _ _ _ => updPort_fabric _ _ _) (fun _ _ _ => journal_fabric _ _ _) skip n s
@[simp] theorem raiseBut_links (skip : Nat) (n : Notice) : (raiseBut skip n s).links = s.links := raiseBut_same (·.links) (fun _ _ _ => rfl) (fun _ _ _ => updPort_links _ _ _) (fun _ _ _ => journal_links _ _ _) skip n s
@[simp] theorem raiseBut_quads (skip : Nat) (n : Notice) : (raiseBut skip n s).quads = s.quads := raiseBut_same (·.quads) (fun _ _ _ => rfl) (fun _ _ _ => updPort_quads _ _ _) (fun _ _ _ => journal_quads _ _ _) skip n s
@[simp] theorem raiseBut_start (skip : Nat) (n : Notice) : (raiseBut skip n s).start = s.start := raiseBut_same (·.start) (fun _ _ _ => rfl) (fun _ _ _ => updPort_start _ _ _) (fun _ _ _ => journal_start _ _ _) skip n s
@[simp] theorem raiseBut_power (skip : Nat) (n : Notice) : (raiseBut skip n s).power = s.power := raiseBut_same (·.power) (fun _ _ _ => rfl) (fun _ _ _ => updPort_power _ _ _) (fun _ _ _ => journal_power _ _ _) skip n s
@[simp] theorem raiseBut_image (skip : Nat) (n : Notice) : (raiseBut skip n s).image = s.image := raiseBut_same (·.image) (fun _ _ _ => rfl) (fun _ _ _ => updPort_image _ _ _) (fun _ _ _ => journal_image _ _ _) skip n s
@[simp] theorem raiseBut_test (skip : Nat) (n : Notice) : (raiseBut skip n s).test = s.test := raiseBut_same (·.test) (fun _ _ _ => rfl) (fun _ _ _ => updPort_test _ _ _) (fun _ _ _ => journal_test _ _ _) skip n s
@[simp] theorem raiseBut_cnt (skip : Nat) (n : Notice) : (raiseBut skip n s).cnt = s.cnt := raiseBut_same (·.cnt) (fun _ _ _ => rfl) (fun _ _ _ => updPort_cnt _ _ _) (fun _ _ _ => journal_cnt _ _ _) skip n s
@[simp] theorem raiseBut_draw (skip : Nat) (n : Notice) : (raiseBut skip n s).draw = s.draw := raiseBut_same (·.draw) (fun _ _ _ => rfl) (fun _ _ _ => updPort_draw _ _ _) (fun _ _ _ => journal_draw _ _ _) skip n s

@[simp] theorem notify_pending (d : Die) (c v : Nat) (b : Bytes) : (notify d c v b s).pending = s.pending := raiseBut_pending _ _ _
@[simp] theorem notify_variant (d : Die) (c v : Nat) (b : Bytes) : (notify d c v b s).variant = s.variant := raiseBut_variant _ _ _
@[simp] theorem notify_released (d : Die) (c v : Nat) (b : Bytes) : (notify d c v b s).released = s.released := raiseBut_released _ _ _
@[simp] theorem notify_ident (d : Die) (c v : Nat) (b : Bytes) : (notify d c v b s).ident = s.ident := raiseBut_ident _ _ _
@[simp] theorem notify_clk (d : Die) (c v : Nat) (b : Bytes) : (notify d c v b s).clk = s.clk := raiseBut_clk _ _ _
@[simp] theorem notify_objs (d : Die) (c v : Nat) (b : Bytes) : (notify d c v b s).objs = s.objs := raiseBut_objs _ _ _
@[simp] theorem notify_win (d : Die) (c v : Nat) (b : Bytes) : (notify d c v b s).win = s.win := raiseBut_win _ _ _
@[simp] theorem notify_map (d : Die) (c v : Nat) (b : Bytes) : (notify d c v b s).map = s.map := raiseBut_map _ _ _
@[simp] theorem notify_reqs (d : Die) (c v : Nat) (b : Bytes) : (notify d c v b s).reqs = s.reqs := raiseBut_reqs _ _ _
@[simp] theorem notify_nextReq (d : Die) (c v : Nat) (b : Bytes) : (notify d c v b s).nextReq = s.nextReq := raiseBut_nextReq _ _ _
@[simp] theorem notify_reg (d : Die) (c v : Nat) (b : Bytes) : (notify d c v b s).reg = s.reg := raiseBut_reg _ _ _
@[simp] theorem notify_tree (d : Die) (c v : Nat) (b : Bytes) : (notify d c v b s).tree = s.tree := raiseBut_tree _ _ _
@[simp] theorem notify_chans (d : Die) (c v : Nat) (b : Bytes) : (notify d c v b s).chans = s.chans := raiseBut_chans _ _ _
@[simp] theorem notify_stk (d : Die) (c v : Nat) (b : Bytes) : (notify d c v b s).stk = s.stk := raiseBut_stk _ _ _
@[simp] theorem notify_mem (d : Die) (c v : Nat) (b : Bytes) : (notify d c v b s).mem = s.mem := raiseBut_mem _ _ _
@[simp] theorem notify_touch (d : Die) (c v : Nat) (b : Bytes) : (notify d c v b s).touch = s.touch := raiseBut_touch _ _ _
@[simp] theorem notify_rehomes (d : Die) (c v : Nat) (b : Bytes) : (notify d c v b s).rehomes = s.rehomes := raiseBut_rehomes _ _ _
@[simp] theorem notify_codec (d : Die) (c v : Nat) (b : Bytes) : (notify d c v b s).codec = s.codec := raiseBut_codec _ _ _
@[simp] theorem notify_engines (d : Die) (c v : Nat) (b : Bytes) : (notify d c v b s).engines = s.engines := raiseBut_engines _ _ _
@[simp] theorem notify_fabric (d : Die) (c v : Nat) (b : Bytes) : (notify d c v b s).fabric = s.fabric := raiseBut_fabric _ _ _
@[simp] theorem notify_links (d : Die) (c v : Nat) (b : Bytes) : (notify d c v b s).links = s.links := raiseBut_links _ _ _
@[simp] theorem notify_quads (d : Die) (c v : Nat) (b : Bytes) : (notify d c v b s).quads = s.quads := raiseBut_quads _ _ _
@[simp] theorem notify_start (d : Die) (c v : Nat) (b : Bytes) : (notify d c v b s).start = s.start := raiseBut_start _ _ _
@[simp] theorem notify_power (d : Die) (c v : Nat) (b : Bytes) : (notify d c v b s).power = s.power := raiseBut_power _ _ _
@[simp] theorem notify_image (d : Die) (c v : Nat) (b : Bytes) : (notify d c v b s).image = s.image := raiseBut_image _ _ _
@[simp] theorem notify_test (d : Die) (c v : Nat) (b : Bytes) : (notify d c v b s).test = s.test := raiseBut_test _ _ _
@[simp] theorem notify_cnt (d : Die) (c v : Nat) (b : Bytes) : (notify d c v b s).cnt = s.cnt := raiseBut_cnt _ _ _
@[simp] theorem notify_draw (d : Die) (c v : Nat) (b : Bytes) : (notify d c v b s).draw = s.draw := raiseBut_draw _ _ _

end

end Sys2Proof.Machine
end

