-- ==== Sys2Proof/Tests/Slice0.lean ====
section
/-!
SUPPORT. Tests: ill-formed commands that the check refuses; for each statement with hypotheses, states and operands that meet
them, at the edges of their ranges; a few single steps whose results are worked out by hand from the manual.
-/
open Sys2Proof Sys2Proof.Machine

namespace Sys2Proof.Tests
set_option Elab.async false

/-! ### Ill-formed commands -/

/-- A source with session 9. -/
def badSrc : Src := .sp 5 9 1
def cp0 : Src := .cp 0 1 0
def req1 : Request := { tag := 1 }

theorem test_illformed_sources :
    ([Instr.startUpHold badSrc 1, .snapshotStart badSrc 1, .hostDateWrite badSrc 1, .create badSrc { segment := 0 }, .sampleClear badSrc 1,
      .highWaterClear badSrc 1, .free badSrc { segment := 0 }, .modify badSrc { segment := 0 }, .move badSrc { segment := 0 },
      .discover badSrc, .serviceRead badSrc 0 0 false, .describe badSrc 0 0, .sessionClose badSrc, .noticeAcknowledge badSrc 0,
      .inProgressResponse badSrc, .objectWrite badSrc 0 0 [], .quadrantReset badSrc 0 true, .quadrantResetAndHold badSrc 0 true,
      .quadrantReleaseHold badSrc 0, .portReset badSrc 0, .portResetAndHold badSrc 0, .portReleaseHold badSrc 0,
      .overflowClear badSrc 0].all fun i => !i.wellFormed) = true := by decide
theorem test_illformed_values :
    ([Instr.startUpHold cp0 3, .snapshotStart cp0 0, .sampleClear cp0 0, .highWaterClear cp0 2, .shutdownInMode cp0 2,
      .shutdownImmediate cp0 1, .resume cp0 0, .settingsStoreReset cp0 0, .slateEnter cp0 0x10, .slateLeave cp0 0x01, .stagingCancel cp0 0,
      .gateListWrite cp0 0 [], .reservationSetWrite cp0 [], .scrubDefine cp0 [], .scrubStop cp0 [1], .spareLane cp0 [], .spareChannel cp0 [],
      .mapOutChannel cp0 [], .queueHardRowRepair cp0 [], .queueColumnRepair cp0 [], .cancelQueuedRepairs cp0 [], .testStart cp0 [],
      .testStop cp0 [], .stagingWrite cp0 [0], .create cp0 { reserved1 := 1, segment := 0 }, .free cp0 { segment := 524288 },
      .modify cp0 { reserved2 := 1, segment := 0 }, .move cp0 { segment := 524288 }].all fun i => !i.wellFormed) = true := by decide
theorem test_illformed_requests :
    ([Instr.read 0 { req1 with lenCode := 13 }, .write 0 req1, .writeZero 0 { req1 with data := [1] }, .poison 0 { req1 with data := [1] },
      .atomic 0 req1, .atomicFetch 0 req1, .writeFence 0 { req1 with data := [1] }, .fullFence 0 { req1 with data := [1] },
      .collectiveDeclare 0 { req1 with data := [1] }, .dictionaryRead 0 req1, .dictionaryWrite 0 { req1 with mgmt := true },
      .outingStart 0 req1, .replicaFill 4 { req1 with data := [1] }, .replicaRelease 4 { req1 with data := [1] }, .combinedAtomic 4 req1,
      .combinedAtomicFetch 4 req1, .inBandChallenge 0 req1, .inBandUnlock 0 req1, .inBandRoleDrop 0 req1].all
      fun i => !i.wellFormed) = true := by decide
theorem test_illformed_operands :
    ([Instr.startUp { meds := [], positions := [] }, .snapshotComplete [0, 0, 0, 201], .flitReceived 0 0 [],
      .quietChatter 0 16, .quietChatterEnd 0 9999 true, .urgencyLevelChange 0 0 [] 40, .urgencyChatterStart 0 0 16,
      .urgencyChatterEnd 0 0 1 9999, .floorRecompute 0, .latencyWindowEnd 46, .moveComplete 524288,
      .readBurstReturn 0 0 (List.replicate 37 0), .temperatureReadout 0 (some []) none, .restStopEnd 0 0 0 49 [],
      .descriptorStart 0 256, .hamperDescriptor 0 256 0, .ramblerDescriptor 0 256 0, .transcodeCopyDescriptor 0 256 0,
      .blockCheckDescriptor 0 256 0, .continueDescriptor 0 256, .endDescriptor 0 256, .bagMerge 0 256 0 0, .producedWordUpdate 0 256 0,
      .consumedWordPoll 0 256 0, .descriptorTimeout 0 256 0, .outingComplete 0 256, .channelLost 0 0 0, .meterReport .hub {} (⟨1, 1⟩, {}),
      .junctionRead [], .supplyFault .hub 999, .frameReceived { dest := 0, source := 0, payload := [] },
      .serviceWrite cp0 0 0 (List.replicate 1485 0), .transferBegin cp0 true 0 0 8388609, .transferBlock cp0 1 0 (List.replicate 1025 0),
      .transferEnd cp0 0 0, .transferAbort cp0 5, .transferTimeout 0, .sessionOpen cp0 4, .sessionUnlock cp0 [], .sessionIdleTimeout 0,
      .marginCheck 0 0 ⟨false, false, 0, 65⟩, .marginCheck 8 0 ⟨true, false, 0, 1⟩, .testEnd 0 [{ lane := 68 }], .linkTraining 0 true 31, .syncLoss 0 0 16].all
      fun i => !i.wellFormed) = true := by decide +kernel

/-! ### States -/

/-- A ready complex with its links up, a service session of role 3, and every quadrant normal. -/
def up : State := { State.reset with
  released := true, start := { state := 1 }, ports := List.replicate 5 { up := true, role := 3 },
  quads := List.replicate 4 { st := .normal }, links := List.replicate 13 { live := 0xFFFF },
  svc := { sessions := [(1, { mac := 5, role := 3 })] } }
def sp1 : Src := .sp 5 1 7
/-- Hub time 10 s, quadrant times too, every stack running. -/
def late : State := { up with
  clk := { hub := 10000000000, quad := List.replicate 4 10000000000 }, stk := List.replicate 32 { running := true, qualified := true } }
/-- Segment 0 is Live at Broad slot 0. -/
def live : State := { late with map := { segs := [(0, { ivory := { state := .live, place := .broad 0 } })] } }
def rq : Request := { tag := 1, lenCode := 6 }
/-- One controller, that of slot 0 of stack 0. -/
def chan0 (c : Chan) : State := { late with chans := [(0, c)] }

/-! ### The queue and the pin -/

theorem test_w_queue : 0 ≤ nth up.clk.phase 3 0 ∧ nth up.clk.phase 3 0 < 1000000 ∧ 3 < up.clk.quad.length ∧ up.pending = [] ∧ up.released = true ∧ State.reset.pending = [] ∧ State.reset.released = false := by decide +kernel
theorem test_w_pin : State.reset.released = false ∧ Instr.idcode ≠ .qzRstNAssert ∧ exec .qzRstNAssert up = .next (cold up) := ⟨rfl, by decide, rfl⟩
theorem test_w_invariant : lowPinCold State.reset ∧ step State.reset = .next State.reset := ⟨fun _ => rfl, rfl⟩
theorem test_w_shaped : State.reset.shaped = true := by decide +kernel

/-! ### Start-up and recovery -/

theorem test_w_start_hold : up.released = true ∧ mayWrite up sp1 0x7050 0 [2] = true ∧ mayWrite up sp1 0x7050 0 [0] = true ∧
    (beforeWrite sp1 0x7050 0 [2] { up with nor := { present := false } }).nor.present = false ∧
    (persist 0x7050 0 1 2 (beforeWrite sp1 0x7050 0 [2] { up with nor := { present := false } })).2 = false := by decide +kernel
def repairing : State := { up with start := { state := 1, hard := [⟨31, 65, 0, 5, 1⟩, ⟨0, 0, 0, 5, 1⟩] } }
theorem test_w_hard_repair : repairing.start.hard.find? (fun r => r.stack == 31 && r.pch == 65) = some ⟨31, 65, 0, 5, 1⟩ ∧
    dropFirst (· == (⟨31, 65, 0, 5, 1⟩ : Repair)) repairing.start.hard ≠ [] := by decide +kernel
/-- MED3's reference lost for 100 ms, or since a hub time. -/
def holdover (since : Nat) (lost : Bool) (st : QState) : State := { late with
  clk := { late.clk with lost := [false, false, false, false, lost] }, quads := modNth late.quads 3 fun k => { k with st := st, lostAt := some since } }
theorem test_w_reference : late.clk.lost.length = 5 ∧ nth late.clk.lost (dieNo (.med 3)) false = false ∧
    nth (holdover 0 true .normal).clk.lost (dieNo (.med 3)) false = true := by decide +kernel
theorem test_w_offline : (quadAt (holdover 9900000000 true .normal) 3).lostAt = some 9900000000 ∧ reachable (holdover 9900000000 true .normal) 3 = true ∧
    9900000000 + 100000000 ≤ late.clk.hub ∧ late.clk.hub < 9900000001 + 100000000 ∧
    reachable { late with links := List.replicate 13 {} } 3 = false ∧ late.quads.length = 4 := by decide +kernel
def offline3 : State := { late with quads := modNth late.quads 3 fun k => { k with st := .offline } }
theorem test_w_return : (quadAt offline3 3).lostAt = none ∧ (quadAt offline3 3).st = .offline ∧ reachable offline3 3 = true ∧
    (quadAt (holdover 5 false .normal) 3).lostAt = some 5 ∧ nth (holdover 5 false .normal).clk.lost 4 false = false := by decide +kernel
theorem test_w_slate : mayWrite up sp1 0x7022 0 [0x01] = true ∧ slateAllowed (beforeWrite sp1 0x7022 0 [0x01] up) 1 = true ∧
    (quadAt (beforeWrite sp1 0x7022 0 [1] up) 0).st ≠ .starting ∧ (quadAt up 3).slate = 0 ∧ (quadAt up 3).st ≠ .offline := by decide +kernel
def held3 (since : Nat) (step6 : Bool) : State := { late with
  quads := modNth late.quads 3 fun k => { k with st := .held, hold := true, resetAt := some since, atStep6 := step6 } }
theorem test_w_quad_reset : mayWrite up sp1 0x7020 4 [1] = true ∧ quadResetAllowed (beforeWrite sp1 0x7020 4 [1] up) 3 1 = true ∧
    mayWrite up sp1 0x7020 4 [2] = true ∧ quadResetAllowed (beforeWrite sp1 0x7020 4 [2] up) 3 2 = true ∧
    mayWrite (held3 0 true) sp1 0x7020 4 [3] = true ∧ quadResetAllowed (beforeWrite sp1 0x7020 4 [3] (held3 0 true)) 3 3 = true := by decide +kernel
def reset1 (done : Nat) : State := { late with quads := modNth late.quads 1 fun k => { k with resetDone := some done } }
theorem test_w_state_check : (quadAt late 1).st = .normal ∧ (quadAt late 1).resetAt = none ∧ (quadAt late 1).resetDone = none ∧
    (quadAt (reset1 9000000000) 1).resetDone = some 9000000000 ∧ 9000000000 + 1000000000 ≤ late.clk.hub ∧
    late.clk.hub < 9000000001 + 1000000000 ∧ (quadAt (held3 9999960000 false) 3).atStep6 = false ∧ 9999960000 + 40000 ≤ late.clk.hub := by decide +kernel
theorem test_w_port_reset : mayWrite up sp1 0x7021 1 [1] = true ∧ mayWrite up sp1 0x7021 5 [2] = true ∧ mayWrite up sp1 0x7021 5 [3] = true := by
  decide +kernel
def down (inReset : Bool) (failures : Nat := 1) : State := { up with ports := List.replicate 5 { inReset := inReset, failures := failures } }
theorem test_w_links : isReady (down false) = true ∧ (portAt (down false) 4).up = false ∧ (portAt (down false) 4).inReset = false ∧
    (down false).power.shutdown = 0 ∧ (portAt (down true) 4).inReset = true ∧ (portAt (down true) 4).quiet = false ∧
    (portAt (down true) 4).hold = false ∧ workEnded (down true) 4 = true ∧ (down true).power.shutdown = 0 ∧ (portAt (down true) 4).failures ≠ 2 ∧
    (portAt (down true 2) 4).failures = 2 ∧ (liveBundles (linkAt up (portGroup 4))).contains 15 = true ∧ up.ports.length = 5 := by decide +kernel
/-- Bundle 15 of group 12 due, with spares used; or out of the live set. -/
def due12 (used : Nat) (failing : List Nat) : State := { late with links := modNth up.links 12 fun g =>
  { g with due := [15], dueEnds := [(15, true, 0, 67)], spares := modNth g.spares 31 fun _ => used, failing := failing } }
theorem test_w_bundles : up.links.length = 13 ∧ bit (linkAt up 12).live 15 = true ∧ 15 < objGet up 0x7040 1 ∧
    (linkAt up 12).due.contains 15 = false ∧ (linkAt (due12 3 []) 12).due.contains 15 = true ∧ (linkAt (due12 3 []) 12).retrain = 0 ∧
    (linkAt (due12 3 []) 12).failing.contains 15 = false ∧ sparesLeft 12 15 (due12 3 []) = true ∧ sparesLeft 12 15 (due12 4 []) = false ∧
    (linkAt (due12 4 []) 12).dueEnds.filter (·.1 == 15) = [(15, true, 0, 67)] ∧
    (linkAt (due12 0 [15]) 12).failing.contains 15 = true := by decide +kernel
theorem test_w_bundle_complete : bit (linkAt { up with links := modNth up.links 12 fun g => { g with retrain := 0x8000 } } 12).retrain 15 = true := by
  decide +kernel

/-! ### Time -/

theorem test_w_snapshot_start : mayWrite up sp1 0x1203 1 [1] = true ∧ up.clk.running = none ∧
    ({ up with clk := { running := some ⟨0, []⟩ } } : State).clk.running.isSome = true := by decide +kernel
theorem test_w_snapshot_done : ({ up with clk := { running := some ⟨0, [some 3, none, some 5, some 7]⟩ } } : State).clk.running =
    some ⟨0, [some 3, none, some 5, some 7]⟩ ∧ ∀ r ∈ [0, 200, 1, 199], r ≤ 200 := by decide +kernel
theorem test_w_date : mayWrite up sp1 0x1210 0 (leBytes 8 (5 : BitVec 64).toNat) = true ∧ mayWrite up sp1 0x1210 0 (leBytes 8 (0 : BitVec 64).toNat) = true ∧
    up.nor.present = true := by decide +kernel

/-! ### Requests -/

theorem test_w_accepted : breaksSequence rq = true ∧ memoryRow (.read 0 rq) = some (0, .read, rq) ∧ takesRequests live 0 = true ∧
    (portAt (breakSequence 0 (takeInbox 0 (opcodeOf .read) rq live).2) 0).tags.contains rq.tag.toNat = false ∧
    portAccepts 0 (opcodeOf .read) = true ∧ tagInRange 0 rq = true ∧
    memChecks (countCombined .read (takeTag 0 rq (breakSequence 0 live))) 0 .read rq true = none := by decide +kernel
theorem test_w_failed : takesRequests late 3 = true ∧ (portAt late 3).inbox = [] ∧ (portAt late 3).assembly = none ∧
    memChecks (countCombined .read (takeTag 3 rq late)) 3 .read rq true = some 1 ∧ (portAt late 3).tags.contains 1 = false := by decide +kernel
def tagged : State := { live with ports := List.replicate 5 { up := true, tags := [1] } }
theorem test_w_tag_in_use : takesRequests tagged 0 = true ∧ (portAt tagged 0).tags.contains rq.tag.toNat = true := by decide +kernel
def lockRq : Request := { rq with lock := true }
theorem test_w_locked : takesRequests live 0 = true ∧ lockedCount live 0 < 1024 ∧ lockRq.mgmt = false ∧ tagInRange 0 lockRq = true ∧
    (portAt (countCombined .read (takeTag 0 lockRq live)) 0).inbox = [] := by decide +kernel
def failedSeq : State := { live with ports := List.replicate 5 { up := true, assembly := some { since := 0, failed := true } } }
theorem test_w_locked_members : memChecks (countCombined .read (takeTag 0 lockRq live)) 0 .read lockRq
      (memberOk (assemblyOf 0 lockRq (countCombined .read (takeTag 0 lockRq live))).first .read lockRq) = none ∧
    (assemblyOf 0 lockRq live).failed = false ∧ lockRq.lockEnd = false ∧ (portAt failedSeq 4).assembly = some { since := 0, failed := true } := by
  decide +kernel
def assembling : State := { late with ports := List.replicate 5 { up := true, assembly := some { since := 9999999900 } } }
theorem test_w_lock_timeout : (portAt assembling 4).assembly = some { since := 9999999900 } ∧ (portAt assembling 4).mute = false ∧
    9999999900 + 100 ≤ assembling.clk.hub ∧ assembling.clk.hub < 9999999901 + 100 ∧ (portAt late 4).assembly = none := by decide +kernel
def fence0 : Req := { id := 3, port := 0, op := .fence, r := rq, released := true }
def write0 (port : Nat) (op : Op) : Req :=
  { id := 3, port := port, op := op, r := rq, parts := [{ n := 0, gch := 0, frame := 0, e := 0, off := 0, len := 32, stage := .done }] }
theorem test_w_fence : ({ up with reqs := [fence0] } : State).reqs.find? (fun r => r.port == 0 && r.r.tag == 1 &&
      (r.op = .fence || r.op = .fullFence) && r.status.isNone) = some fence0 ∧ fenceReady { up with reqs := [fence0] } fence0 = true := by decide +kernel
theorem test_w_visible : writeVisible (write0 4 .write) = true ∧ fillsPending { up with reqs := [write0 4 .write] } (write0 4 .write) = false ∧
    writeVisible (write0 5 .write) = true ∧ writeVisible (write0 4 .flush) = true ∧
    reqAt { up with reqs := [write0 4 .flush] } 3 = some (write0 4 .flush) ∧
    fillsPending { up with reqs := [write0 4 .flush] } (write0 4 .flush) = false ∧ (portAt up 4).mute = false ∧
    (write0 4 .flush).line.bind (·.atomic) = none := by decide +kernel
def lined : State := { late with fabric := { lines := [{ addr := 64, opened := 9999999000, window := 1000, cap := 64 }] } }
theorem test_w_window_end : lined.fabric.lines.find? (·.addr = 64) = some { addr := 64, opened := 9999999000, window := 1000, cap := 64 } ∧
    9999999000 + 1000 ≤ lined.clk.hub := by decide +kernel
def answeringPort (final : Bool) : Port :=
  { up := true, respCr := List.replicate 16 1, resps := [{ kind := 1, tag := 5, final := final }], tags := [5], notices := [{ code := 0x8003 }] }
def answering (final : Bool) : State := { up with ports := List.replicate 5 (answeringPort final) }
theorem test_w_responses : (sendResponse 4 { kind := 1, tag := 5, final := true } (answering true)).isSome = true ∧
    (sendResponse 4 { kind := 1, tag := 5, final := false } (answering false)).isSome = true ∧
    (sendResponse 4 { kind := 8, tag := 0x8003, data := noticeBody { code := 0x8003 } false } (answering true)).isSome = true ∧
    (portAt (answering true) 4).unsaid = 0 ∧ (portAt (answering true) 4).mute = false ∧ (portAt (answering true) 4).again = [] ∧
    mayLeave (answering true) { kind := 1, tag := 5, final := true } = true := by decide +kernel
def dictRq : Request := { rq with mgmt := true }
/-- A Dictionary read of object 0x1000:00, and the same with a request before it. -/
def dictRead : Request := { dictRq with opField := 0x001000 }
def dictWaits : State := { up with ports := List.replicate 5 { up := true, role := 3, dict := [(0x18, dictRead, true)] } }
theorem test_w_dictionary : breaksSequence dictRq = false ∧ takesRequests up 3 = true ∧ takesRequests up 4 = true ∧ tagInRange 3 dictRq = true ∧ tagInRange 4 dictRq = true ∧
    (portAt (returnFlits 4 (takeInbox 4 0x18 dictRq up).1 (takeInbox 4 0x18 dictRq up).2) 4).tags.contains 1 = false ∧
    (portAt (returnFlits 3 (takeInbox 3 0x19 dictRq up).1 (takeInbox 3 0x19 dictRq up).2) 3).tags.contains 1 = false ∧
    dictBusy up 3 = false ∧ (portAt up 3).dict = [] ∧ (portAt dictWaits 3).dict ≠ [] ∧ (portAt up 3).inbox = [] := by decide +kernel
theorem test_w_dictionary_stop : inBandStop (takeTag 3 dictRead up) 3 0x18 dictRead = 0 ∧ inBandStop (takeTag 3 dictRead up) 3 0x19 dictRead = 0 ∧
    inBandStop (takeTag 3 { dictRead with domain := 63 } live) 3 0x18 { dictRead with domain := 63 } ≠ 0 ∧ dictIndex dictRead ≠ 0x1122 := by
  decide +kernel
def askChallenge : Request := { tag := 1, lenCode := 5, opField := 0x001122, mgmt := true }
theorem test_w_in_band : dictIndex askChallenge = 0x1122 ∧ dictSub askChallenge = 0 ∧ 32 ≤ (lenOf askChallenge.lenCode.toNat).getD 0 ∧
    inBandStop up 0 0x18 askChallenge = 0 ∧ tagInRange 0 askChallenge = true ∧ (portAt up 0).dict = [] ∧ dictBusy up 0 = false ∧
    field (2 :: List.replicate 32 0) 0 1 = 2 ∧ unlocks up (leBytes 6 1) 0 2 (portAt up 0).challenge (List.replicate 32 0) = false ∧ mayWrite up cp0 0x1123 0 (2 :: List.replicate 32 0) = true ∧
    mayWrite up cp0 0x1124 0 [1] = true ∧ mayWrite up cp0 0x1124 0 [2] = true ∧ 2 ≤ (portAt up 0).role := by decide +kernel

/-! ### Links and sweeps -/

/-- A flit of four data slots with a control code. -/
def flit (control : Nat) : Bytes := makeFlit 0 0 0 0 control (List.replicate 4 (false, List.replicate 64 0))
set_option maxRecDepth 100000 in
theorem test_w_flits : takesRequests up 4 = true ∧ bundleLive up 4 15 = true ∧ flitPasses (List.replicate 264 0) = false ∧
    flitPasses (flit 2) = true ∧ flitControl (flit 2) = 2 ∧ flitPasses (flit 0) = true ∧ flitControl (flit 0) = 0 := by decide +kernel
set_option maxRecDepth 100000 in
theorem test_w_flit_credit : (spendCredit 15 (flitMgmt (flit 0)) { up := true, reqCr := List.replicate 16 1 }).isSome = true ∧
    spendCredit 15 (flitMgmt (flit 0)) { up := true } = none := by decide +kernel
theorem test_w_quiet : steady25 (List.replicate 25 true) true = true ∧ steady25 (List.replicate 25 false) false = true ∧
    steady25 (List.replicate 24 true) true = false ∧ (portAt up 3).chatter = none ∧
    (portAt { up with ports := List.replicate 5 { chatter := some 17 } } 3).chatter = some 17 := by decide +kernel
def sweeping (arrived : Bool) : State := { up with ports := List.replicate 5 { up := true, sweeps := [{ quad := 3, gen := 0, arrived := arrived }] } }
theorem test_w_sweeps : (portAt (sweeping false) 4).sweeps.findIdx? (fun w => w.quad == 3 && !w.arrived) = some 0 ∧
    (portAt (sweeping true) 4).sweeps.find? (·.quad == 3) = some { quad := 3, gen := 0, arrived := true } ∧
    generationDone (sweeping true) 4 3 0 = true ∧ (quadAt up 3).reroutes = [] ∧
    (quadAt { up with quads := List.replicate 4 { st := .normal, reroutes := [4] } } 3).reroutes = 4 :: [] ∧
    pathsFull { up with quads := List.replicate 4 { st := .normal, reroutes := [4] } } 3 = false := by decide +kernel

/-! ### Arbiters and regulation -/

def contender (id score seq : Nat) : TUnit := { id := id, level := 2, arb := chanArb 0, input := id, parts := [], score := score, seq := seq }
def contending : State := { late with tree := { units := [contender 1 0 0, contender 2 3 1] } }
theorem test_w_decision : (winner (contenders contending (.chan 0 0)) (arbAt contending (chanArb (slotNo 0 0))).ticket).map (·.id) = some 2 ∧
    (winner (contenders contending (.chan 0 0)) (some 1)).map (·.id) = some 1 ∧
    (winner (contenders (lapseTicket (arbKey (.chan 0 0)) contending) (.chan 0 0))
      (arbAt (lapseTicket (arbKey (.chan 0 0)) contending) (arbKey (.chan 0 0))).ticket).isSome = true ∧
    awaitsPlace (contenders (lapseTicket (arbKey (.chan 0 0)) contending) (.chan 0 0)) (arbAt (lapseTicket (arbKey (.chan 0 0)) contending) (arbKey (.chan 0 0))).ticket = false ∧
    (contenders contending (.chan 0 0)).all (fun u => decide (u.seq < 2 ^ 24) && decide ((u.seq + 2 ^ 24 - 0) % 2 ^ 24 < 2 ^ 22)) = true := by decide +kernel
theorem test_w_clears : mayWrite up sp1 0x3411 0 [1] = true ∧ mayWrite up sp1 0x3865 0 [1] = true ∧ up.reg.entries.length = 48 := by decide +kernel
def chattering : State := { up with reg := { urgency := List.replicate 32 { chatter := true, worst := 17 } } }
theorem test_w_urgency : up.reg.urgency.length = 32 ∧ (nth up.reg.urgency (pairNo 3 7) {}).chatter = false ∧ (portAt up 3).quiet = false ∧
    32 ≤ 4 * (List.replicate 8 (3 : Fin 4)).length ∧ (nth chattering.reg.urgency (pairNo 3 7) {}).chatter = true := by decide +kernel
theorem test_w_boundary : nextBoundary late ≤ late.clk.hub ∧ (entryAt late 0).credit = false ∧ 0 < late.reg.w ∧ (entryAt late 0).win = 0 * late.reg.w ∧
    ({ cap := 1 } : RegEntry).cap ≠ 0 := by decide +kernel
def credited : State := { up with reg := { entries := modNth up.reg.entries 47 fun x => { x with credit := true, v := -1000, burst := 4096, eff := 5 } } }
theorem test_w_credit : (entryAt credited 47).credit = true ∧ 0 < creditOf credited (entryAt credited 47) ∧
    bit ((nth up.reg.gates 4 {}).mask up.clk.hub) 7 = true := by decide +kernel
/-- A read that waits in entry 0, which may send or has spent its balances. -/
def waiting0 (bt : Int) : State :=
  let q : Req := { id := 3, port := 0, op := .read, r := rq, entry := 0, charge := 64 }
  { live with reqs := [q], reg := { entries := modNth live.reg.entries 0 fun x => { x with queue := [3], br := bt, bt := bt, cap := 1, win := 10000000000 } } }
theorem test_w_heads : ((entryAt (waiting0 5) 0).queue.head?).bind (reqAt (waiting0 5)) ≠ none ∧ fixedMapOn (waiting0 5) = false ∧
    gatePermits (waiting0 5) 0 0 = true ∧
    ((reqAt (waiting0 5) 3).map fun r => ((judge (waiting0 5) 0 (releaseCharge (waiting0 5) r)).isSome,
      (sendOn { r with cls := 0 } (waiting0 5)).2)) = some (true, true) ∧
    ((reqAt (waiting0 (-500000)) 3).map fun r => (judge (waiting0 (-500000)) 0 (releaseCharge (waiting0 (-500000)) r)).isSome) = some false := by
  decide +kernel
def gates : Bytes := [1, 0, 0, 0] ++ leBytes 4 8 ++ leBytes 4 1000 ++ leBytes 4 0xFF
theorem test_w_gates : mayWrite up sp1 0x3840 5 gates = true ∧ (writeGateList 4 gates (beforeWrite sp1 0x3840 5 gates up)).2 = true ∧
    (gateListOf gates).map (·.cycle) = some 1000 ∧
    nth ({ late with reg := { gateNext := List.replicate 5 (some ({}, 5)) } } : State).reg.gateNext 4 none = some ({}, 5) := by decide +kernel
def reservations : Bytes := [1, 0, 0, 0] ++ leBytes 4 1000 ++ List.replicate 8 0
theorem test_w_reservations : mayWrite up sp1 0x3810 0 reservations = true ∧
    (writeReservationSet reservations (beforeWrite sp1 0x3810 0 reservations up)).2 = true ∧
    (judgeSet up reservations).2 = some (1000, []) ∧ up.reg.entries.length = 48 ∧
    ({ late with reg := { pending := some ⟨1000, 5, []⟩ } } : State).reg.pending = some ⟨1000, 5, []⟩ := by decide +kernel
theorem test_w_windows : late.reg.entries.length = 48 ∧ late.reg.latWin.length = 48 ∧
    (nth late.reg.latWin 45 0 / 1000000 + 1) * 1000000 ≤ late.clk.hub ∧ (late.reg.sampled / late.reg.period + 1) * late.reg.period ≤ late.clk.hub := by
  decide +kernel

/-! ### Objects, segments -/

theorem test_w_object_rows : mayWrite up sp1 0x3411 0 [1] = true ∧ (objRow 0x3411 0).isSome = true ∧ mayWrite up cp0 0x3411 0 [1] = true ∧
    mayWrite up (.cp 3 4095 0) 0x7020 4 [2] = true ∧ (objectRow (.highWaterClear sp1 1)).map (·.index) = some 0x3411 ∧
    (variableSize 0x3010).isNone = true ∧ isBlobCommand 0x3010 = false ∧ isWindow 0x3010 = false ∧ mayWrite up sp1 0x3010 0 [1] = true ∧
    (objRow 0x3010 0).map (fun r => (r.size, r.access)) = some (1, 1) ∧ valueOk .qz2048 0x3010 0 1 = true ∧
    relationOk up 0x3010 0 1 = true ∧ valueOk .qz2048 0x3010 0 2 = false ∧ mayWrite up sp1 0x1111 0 (leBytes 2 60) = true ∧
    isWindow 0x1111 = false ∧ (objRow 0x1111 0).map (fun r => (r.size, r.access)) = some (2, 4) ∧ valueOk .qz2048 0x1111 0 60 = true ∧
    relationOk up 0x1111 0 60 = true ∧ valueOk .qz2048 0x1111 0 0 = false := by decide +kernel
theorem test_w_slots : memWf up.mem = true ∧ (putSlot 2111 63 4095 135 { tag := 1 } up).mem.length = 1 := by decide +kernel
def cmd0 : SegCmd := { segment := 0 }
def cmdTop : SegCmd := { segment := 524287 }
theorem test_w_segments : mayWrite up sp1 0x2010 0 (segBytes 1 cmdTop) = true ∧
    (segCommand 1 cmdTop (beforeWrite sp1 0x2010 0 (segBytes 1 cmdTop) late)).2 = 0 ∧ (segCommand 2 cmd0 (beforeWrite sp1 0x2010 0 (segBytes 2 cmd0) live)).2 = 0 ∧
    (segCommand 3 cmd0 (beforeWrite sp1 0x2010 0 (segBytes 3 cmd0) live)).2 = 0 ∧ (segCommand 4 cmd0 (beforeWrite sp1 0x2010 0 (segBytes 4 cmd0) live)).2 = 0 ∧
    (entryOfImage cmd0.image.toNat).isSome = true ∧ (curEntry live 0).state = .live ∧ (segCommand 5 cmd0 live).2 ≠ 0 := by decide +kernel
def movingSegs : State := { live with map := { live.map with
  freed := [{ place := .broad 1, waits := [9] }], rebuild := some 3, moves := [{ seg := 0, cause := 1, source := .broad 0, target := { place := .broad 1 } }] } }
theorem test_w_slot_events : movingSegs.map.freed[0]? = some { place := .broad 1, waits := [9] } ∧ (∀ r ∈ movingSegs.reqs, r.id ≠ 9) ∧
    quadsServe movingSegs (.broad 1) = true ∧ quadsServe movingSegs (.broad 0) = true ∧ movingSegs.map.rebuild = some 3 ∧
    (movingSegs.map.moves.find? (·.seg == 0)).map (·.source) = some (.broad 0) ∧ lineOpen movingSegs 0 = false ∧ moveRoom movingSegs = 15 ∧
    periodEnd movingSegs ≤ movingSegs.clk.hub := by decide +kernel

/-! ### Channels -/

def granted : State := { late with tree := { units := [{ id := 1, level := 3, arb := 0, input := 0, parts := [(1, 0)] }] } }
def openRow : State := chan0 { slot := 1000000, banks := [(63, { open_ := some 4095 })] }
theorem test_w_channel_entry : (nextEntry granted (slotNo 0 0)).map (fun u => (u.locked, u.sects)) = some (false, []) := by decide +kernel
theorem test_w_issue : stageRuns late 0 = true ∧ refreshOnly late 0 = false ∧ stageRuns up 0 = false := by decide +kernel
def entering (u : TUnit → TUnit) : State := { late with tree := { units := [u { id := 1, level := 3, arb := 0, input := 0, parts := [(1, 0)] }] } }
theorem test_w_channel_jobs :
    ((nextEntry (entering fun u => { u with job := some { kind := .flush, bank := 0, row := 0 } }) 0).bind (·.job)).isSome = true ∧
    (nextEntry (entering fun u => { u with sects := [{ act := .write, bank := 0, row := 0, slot := 0 }] }) 0).map (fun u => (u.locked, u.job.isNone, u.sects.length)) =
      some (false, true, 1) ∧
    (nextEntry (entering fun u => { u with locked := true }) 0).map (fun u => (u.locked, u.parts)) = some (true, [(1, 0)]) := by decide +kernel
theorem test_w_idle_close : (bankAt (chanAt openRow 0) 63).open_ = some 4095 ∧
    Nat.max (bankAt (chanAt openRow 0) 63).lastCol ((bankAt (chanAt openRow 0) 63).actAt.getD 0) + slotsFor openRow 0 (slotObj openRow 0 0x3011 0) ≤
      (chanAt openRow 0).slot := by decide +kernel
def token0 (t : Option Nat) (step : Nat) (c : Chan) : State := { chan0 c with
  stk := List.replicate 32 { running := true, qualified := true, token := t, step := step } }
theorem test_w_refresh : (chanAt late 2111).selfRefresh = false ∧ (stackSlots late 31).contains 2111 = true ∧
    Nat.max (bankAt (chanAt (token0 none 1 { slot := 100000 }) 0) 63).refAt (chanAt (token0 none 1 { slot := 100000 }) 0).refBase +
      slotsFor late 0 (refreshInterval late 0) ≤ (chanAt (token0 none 1 { slot := 100000 }) 0).slot ∧
    (bankAt (chanAt (chan0 { banks := [(0, { tokens := 12143 })] }) 0) 0).tokens = 12143 ∧
    ((quadAt late 3).epochs + 1) * 16000000 ≤ quadTime late 3 := by decide +kernel
def burst0 (why : Col) : Burst := { bank := 0, row := 0, slot := 0, raw := {}, why := why, back := 200 }
def bursting (slot : Nat) : State := chan0 { slot := slot, bursts := [burst0 (.rd 0 1)], units := [{ kind := .escalation, bank := 0, row := 0 }] }
theorem test_w_bursts : (chanAt (bursting 200) 0).bursts = burst0 (.rd 0 1) :: [] ∧
    200 + slotsFor late 0 (120 * (stackAt late 0).step) ≤ (chanAt (bursting 100000) 0).slot + 1 ∧
    ((chanAt (bursting 200) 0).units.find? (·.kind == .escalation)).map (fun u => (u.cmds, u.asked)) = some ([], 0) := by decide +kernel
def alerting : State := { late with chans := [(0, { caError := some 7 })] }
theorem test_w_alerts : ((stackSlots alerting 0).filter fun k => !(chanAt alerting k).selfRefresh).contains 0 = true ∧
    ((stackSlots late 31).filter fun k => !(chanAt late k).selfRefresh).contains (slotNo 31 65) = true := by decide +kernel
theorem test_w_rests : restReady (token0 none 1 {}) 0 = true ∧ restReady (token0 none 2 {}) 0 = true ∧ wantsToken (token0 none 1 {}) (slotNo 0 65) = true ∧ restDue (token0 none 1 {}) 0 = true ∧ (stackSlots (token0 none 1 {}) 0).contains 0 = true ∧
    slotUnderTest (token0 none 1 {}) 0 = false ∧ (stackAt (token0 none 2 {}) 0).deferFrom + 256000000 ≤ quadTime (token0 none 2 {}) 0 ∧
    (stackAt (token0 none 1 {}) 0).asks = [] ∧ (stackAt (token0 (some 0) 1 {}) 0).token = some 0 ∧
    quiescent (chanAt (token0 (some 0) 1 {}) 0) = true ∧ restReady (token0 (some 0) 1 {}) 0 = true ∧
    (chanAt (token0 (some 0) 1 { inRest := true, interval := 16000 }) 0).interval ≠ 4000 ∧
    (chanAt (token0 (some 0) 1 { inRest := true, interval := 4000, highRun := 3 }) 0).highRun + 1 = 4 ∧
    channelOf (token0 (some 0) 1 { inRest := true, interval := 4000, highRun := 3 }) 0 = some 0 ∧ late.stk.length = 32 := by
  decide +kernel

/-! ### Power, shutdown -/

def flasky : State := { late with power := { heat := modNth late.power.heat 31 fun h => { h with flask := some 9999000000 } } }
theorem test_w_temperatures : isOffline late 3 = false ∧ (stackAt late 31).readMs < quadTime late (31 / 8) / 1000000 ∧ (stackAt late 31).qualified = true ∧
    (takeReadout 31 none none late).2 = (none, true) ∧ (quadAt (takeReadout 31 none none late).1 3).offCause ≠ 2 ∧
    (quadAt { offline3 with quads := List.replicate 4 { st := .offline, offCause := 2 } } 3).offCause = 2 ∧ late.variant.enables 31 = true ∧ (governed late).contains 31 = true ∧
    late.power.junctionAt + 100000 ≤ late.clk.hub ∧ cutOff late 3 = false := by decide +kernel
theorem test_w_flask : (heatAt flasky 31).flask = some 9999000000 ∧ flaskEvent flasky 31 9999000000 = some 1 := by decide +kernel
theorem test_w_meters : nth late.power.dieAt 0 0 + 100000 ≤ late.clk.hub ∧ late.power.dieAt.length = 5 ∧ late.power.die.length = 5 ∧
    late.power.stepAt + 100000 ≤ late.clk.hub ∧ isReady late = true ∧
    nth late.power.dieAt (dieNo (.med 3)) 0 + 100000 ≤ dieTime late (.med 3) := by decide +kernel
def cooled : State := { late with power := { shutdown := 3, coolSince := some 9000000000 } }
theorem test_w_shutdown : mayWrite up sp1 0x6031 0 [1] = true ∧ mayWrite up sp1 0x6031 0 [2] = true ∧ mayWrite cooled sp1 0x6032 0 [1] = true ∧
    resumeAllowed (beforeWrite sp1 0x6032 0 [1] cooled) = true ∧ up.power.shutdown = 0 ∧ objGet up 0x6030 0 ≠ 1 ∧
    objGet (objSet 0x6030 0 1 up) 0x6030 0 = 1 ∧ ({ up with power := { shutdown := 5 } } : State).power.shutdown = 5 := by decide +kernel

/-! ### Engines -/

def chain (o : Outing) : State := { live with engines := { outings := [((3, 255), o)] } }
def oBase : Outing := { req := 1, port := 0, tag := 1, domain := 0 }
def desc (kind count : Nat) : Bytes := leBytes 1 kind ++ List.replicate 15 0 ++ leBytes 1 count ++ List.replicate 47 0
/-- A read that has come: bytes of one row, for a key. -/
def came (idx key addr : Nat) (bytes : Bytes) : Fetch := { idx := idx, key := key, addr := addr, len := bytes.length, req := 9, got := some { bytes := bytes } }
theorem test_w_chains : engineRuns live 3 = true ∧ outingAt (chain { oBase with block := [desc 1 0] }) 3 255 = some { oBase with block := [desc 1 0] } ∧
    nextDesc { oBase with block := [desc 1 0] } = some (desc 1 0) ∧ fetched (chain oBase) 3 255 continueIndex offsetKey 0 64 = none ∧
    (fetched (chain { oBase with fetches := [came continueIndex offsetKey 0 (desc 1 0)] }) 3 255 continueIndex offsetKey 0 64).map
      (fun r => (r.err, r.poison)) = some (0, false) ∧ zeros (desc 0xF 1) 17 47 = true ∧ addrOk (desc 0xF 1) 8 64 = true ∧
    zeros (desc 0 0) 1 63 = true ∧ outingOver (chain { oBase with chainEnd := true }) 3 255 { oBase with chainEnd := true } = true ∧ field (desc 14 0) 0 1 = 14 ∧
    bit (field (desc 1 0) 1 1) 1 = false ∧ ({ oBase with started := 65536 } : Outing).started = 65536 ∧
    64 < field (desc 0xF 65) 16 1 ∧ zeros (1 :: desc 0 0) 0 1 = false := by decide +kernel
/-- An active descriptor of a kind, of one bag. -/
def active (kind : Nat) (w : Option Walk) (bags : List Bag) : Active :=
  { index := 0, bytes := leBytes 1 kind ++ List.replicate 19 0 ++ leBytes 4 1 ++ List.replicate 40 0, walk := w, bags := bags }
def working (a : Active) (fetches : List Fetch := []) : State := chain { oBase with active := [a], fetches := fetches }
theorem test_w_engines : (activeAt (working (active 1 none [])) 3 255 0).isSome = true ∧ trackerRoom (working (active 1 none [])) 3 = true ∧
    bagsInFlight (working (active 1 none [])) < 256 ∧ mergeInFlight (working (active 1 none [])) < 1024 ∧
    walksActive (working (active 2 none [])) 3 < 64 ∧ fetched (working (active 1 none [])) 3 255 0 offsetKey 0 8 = none ∧
    (fetched (working (active 1 none []) [came 0 offsetKey 0 [2, 0, 0, 0, 1, 0, 0, 0]]) 3 255 0 offsetKey 0 8).map
      (fun r => (r.err, r.poison, decide (field r.bytes 4 4 < field r.bytes 0 4))) = some (0, false, true) := by decide +kernel
/-- A bag of one row of 32 bytes that has come. -/
def bag1 : Bag := { index := 0, ix := some [(0, none)] }
def rowDesc (kind : Nat) : Active :=
  { index := 0, fmt := some 7, bags := [bag1], rows := [0],
    bytes := leBytes 1 kind ++ [0, 0, 0, 32, 0, 32, 0] ++ List.replicate 8 0 ++ leBytes 4 1 ++ leBytes 4 1 ++ List.replicate 40 0 }
theorem test_w_bag : (active 1 none [{ index := 0, ready := true }]).bags.find? (fun b => b.index == 0 && b.ready) = some { index := 0, ready := true } ∧
    (active 1 none []).bags = [] ∧ (active 1 none []).nextBag < field (active 1 none []).bytes 20 4 ∧
    (bagRows (working (rowDesc 1) [came 0 (bagRowKey 0 0) 0 (List.replicate 64 0)]) 3 255 (rowDesc 1) bag1).isSome = true := by decide +kernel
theorem test_w_rows : (fetched (working (active 4 none [])) 3 255 0 (rowKey 0) 0 65536).isNone = true ∧
    (fetched (working (active 4 none []) [{ idx := 0, key := rowKey 0, addr := 0, len := 65536, req := 9, got := some {} }]) 3 255 0 (rowKey 0) 0 65536).map
      (·.err) = some 0 ∧ rowInSegment 0 32 = true ∧ rowInSegment (2 ^ 22 - 32) 64 = false := by decide +kernel
/-- A walk that copies rows of 32 bytes in chunks of one. -/
def walkBytes (n : Nat) : Bytes :=
  leBytes 2 2 ++ [0, 0] ++ leBytes 2 32 ++ leBytes 2 n ++ List.replicate 28 0 ++ leBytes 4 32 ++ List.replicate 24 0
def tokens (n : Nat) : Active := { index := 0, bytes := walkBytes n }
theorem test_w_walks : trackerRoom (working (active 2 (some {}) [])) 3 = true ∧
    (activeAt (working (active 2 (some { begun := true }) [])) 3 255 0).map (·.2.walk.map (·.begun)) = some (some true) ∧
    walkSpent (active 2 none []) { begun := true } = true ∧ walkSpent (active 2 none []) { begun := true, stop := 5 } = true ∧
    walkSpent { active 2 none [] with bytes := leBytes 1 2 ++ List.replicate 15 0 ++ leBytes 4 1 ++ leBytes 4 1 ++ List.replicate 40 0 } { begun := true } = false ∧
    visibleStream (tokens 1) { begun := true, finished := true, stream := 16 } = 16 ∧ (16 : Nat) < 0 + field (tokens 1).bytes 36 4 := by decide +kernel
theorem test_w_rings : (0 : Nat) + field (tokens 1).bytes 36 4 ≤ visibleStream (tokens 1) { begun := true, stream := 32 } ∧
    trackerRoom (working (active 2 (some { blocked := true, begun := true }) [])) 3 = true ∧
    (fetched (working (active 2 (some { polling := true }) []) [came 0 consumedKey 0 (leBytes 8 5)]) 3 255 0 consumedKey 0 8).map
      (fun r => (r.err, leNat r.bytes)) = some (0, 5) ∧
    0 + 1000 ≤ quadTime live 3 ∧ (active 1 none []).progress + (active 1 (some { blocked := true }) []).ringWait * 1000000 ≤ quadTime live 3 ∧ (active 1 none []).progress + (active 1 none []).timeout * 1000000 ≤ quadTime live 3 := by decide +kernel

/-! ### Scrub, rehoming, repair, records -/

def scrubAll : Bytes := [1, 0, 1, 0] ++ List.replicate 28 0
def scrub8 (p : Pass) : State := { late with codec := { passes := [(8, p)] } }
def pass1 (running : Bool) (todo : List (Nat × Nat × Option Nat)) : Pass :=
  { options := 0, scope := 1, value := 0, duration := 0, rep := 1, running := running, todo := todo }
theorem test_w_scrub : mayWrite late sp1 0x4020 0 scrubAll = true ∧ (writeScrub scrubAll (beforeWrite sp1 0x4020 0 scrubAll late)).2 = true ∧
    judgeScrub late scrubAll = 0 ∧ judgeScrub late (2 :: scrubAll.drop 1) ≠ 0 ∧
    judgeScrub (scrub8 (pass1 true [])) ([2, 0, 0, 8] ++ List.replicate 28 0) = 0 ∧ (pass1 false []).rep ≠ 0 ∧ field scrubAll 0 1 = 1 ∧ passAt (scrub8 (pass1 true [])) 8 = some (pass1 true []) ∧
    (pass1 false []).start + (pass1 false []).rep * 1000000000 ≤ late.clk.hub := by decide +kernel
def scrubbing (touch : List Nat) : State := { scrub8 (pass1 true [(0, 0, none)]) with touch := touch }
/-- The unit of a row sequence of slot c, granted up to a level. -/
def rowJob (c : Nat) (k : UnitKind) (pass level : Nat) : TUnit :=
  { id := 1, level := level, arb := chanArb c, input := 3, parts := [], slot := c, job := some { kind := k, bank := 0, row := 5, slot := pass } }
def scrubGranted (level : Nat) : State := { scrubbing [5] with tree := { units := [rowJob 0 .scrub 8 level] } }
theorem test_w_scrub_rows : servingSlot (scrubbing []) 0 = some 0 ∧ passTurn (scrubbing []) 8 0 = true ∧ scrubSkips (scrubbing []) 0 = false ∧
    (chanAt (scrubbing []) 0).selfRefresh = false ∧
    scrubSkips { scrubbing [] with quads := List.replicate 4 { st := .slate, slate := 4 } } 0 = true ∧ mayOpen (scrubbing [5]) 0 0 5 = true ∧
    mayOpen { scrubbing [5] with stk := [] } 0 0 5 = false ∧ rowUnit (scrubbing [5]) 0 .scrub 8 = none ∧
    (rowUnit (scrubGranted 3) 0 .scrub 8).map (·.level) = some 3 ∧ (rowUnit (scrubGranted 2) 0 .scrub 8).map (·.level) = some 2 ∧
    outranked (scrubGranted 3) 0 7 0 = false ∧ mayOpen (scrubGranted 3) 0 0 5 = true ∧
    (nextRow (scrubbing []) (pass1 true [(0, 0, none)]) 0 0).1 = none ∧ (nextRow (scrubbing [5]) (pass1 true [(0, 0, none)]) 0 0).1 = some 5 := by
  decide +kernel
def rehoming (kind : Nat) (touch : List Nat) : State := { late with
  rehomes := [{ kind := kind, gch := 2047, source := 2109, dest := if kind = 3 then none else some 2110 }], touch := touch }
theorem test_w_rebuild : servingSlot late 2047 = some 2109 ∧ rehomeAt late 2047 = none ∧ (∀ h ∈ late.rehomes, h.gch ≠ 2047) ∧ late.variant.enables 31 = true ∧
    (∀ h ∈ (rehoming 1 []).rehomes, h.gch = 2047 → h.kind ≠ 2) ∧
    servingSlot (rehoming 1 []) 2047 = some 2109 ∧ inSlate late 3 = false ∧ (rehomeAt (rehoming 2 []) 2047).map (·.dest) = some (some 2110) ∧ quadStops (rehoming 2 []) 3 = false := by decide +kernel
def asks31 (k : Nat) : State := { late with chans := [(2109, { wanted := k, dueLanes := [(0, 5)] })] }
def copying (level : Nat) : State := { rehoming 1 [2047 * 2 ^ 18 + 2 ^ 18 - 1] with tree := { units := [rowJob 2109 .copy 0 level] } }
theorem test_w_copy_unit : (rowUnit (copying 3) 2109 .copy 0).bind (·.job) = some { kind := .copy, bank := 0, row := 5, slot := 0 } ∧
    rowUnit (rehoming 1 []) 2109 .copy 0 = none ∧ (chanAt (copying 3) 2110).writes.length + (rowQueue (copying 3) 2109 63 4095).length ≤ 256 ∧
    outranked (copying 3) 2109 1 0 = false ∧ mayOpen (copying 3) 2109 63 4095 = true ∧ mayOpen (copying 3) 2110 63 4095 = true ∧
    copyCause (asks31 2) 2109 = some 6 ∧
    copyCause { asks31 0 with objs := [(objKey 0x5001 0, 0)] } 2109 = none ∧ goodSpares (asks31 0) 31 ≠ [] := by decide +kernel
theorem test_w_sparing : dueCause (asks31 2) 2109 = some 6 ∧ actionOn (asks31 2) 2109 = false ∧ liveChannel (asks31 2) 2047 = true ∧
    goodSpares (asks31 2) 31 = [64, 65] ∧ sparingOn { late with objs := [(objKey 0x5001 0, 0)] } 4 = false ∧ quadStops (asks31 2) 3 = false ∧ quadStops (rehoming 1 []) 3 = false ∧ (copyOf (rehoming 1 []) 31).map (·.dest) = some (some 2110) ∧ destFails (rehoming 1 []) 2110 = false ∧
    goodSpares { asks31 2 with stk := List.replicate 32 { spares := [] } } 31 = [] ∧ (chanAt (asks31 2) 2109).exhausted = false ∧
    destFails { rehoming 1 [] with chans := [(2110, { dueLanes := [(0, 5)] })] } 2110 = true ∧ sparingOn late 1 = true ∧
    mayOpen (rehoming 1 []) 2109 63 4095 = true ∧ mayOpen (rehoming 1 []) 2110 63 4095 = true ∧
    mayOpen { rehoming 1 [] with stk := [] } 2109 63 4095 = false ∧ (stackAt late 31).running = true ∧
    touchedRows (rehoming 1 []) 2047 0 = [] ∧ touchedRows (rehoming 1 [2047 * 2 ^ 18 + 2 ^ 18 - 1]) 2047 0 = [(63, 4095)] := by decide +kernel
theorem test_w_map_out : mapOutDue { asks31 5 with stk := List.replicate 32 { spares := [] } } 2109 = true ∧ (mapOutAt (rehoming 3 []) 2047).map (·.source) = some 2109 ∧
    copyRun (rehoming 3 []) 2047 = none ∧ mayPause (asks31 0) 2109 = true ∧ (chanAt (asks31 3) 2109).wanted = 3 ∧ actionOn (asks31 3) 2109 = false ∧ inSlate (asks31 3) 3 = false ∧ quadStops (asks31 3) 3 = false ∧ quadStops (rehoming 3 []) 3 = false ∧
    (rehomeAt (rehoming 3 []) 2047).map (·.kind) = some 3 ∧ touchedRows (rehoming 3 []) 2047 0 = [] ∧ channelOf (asks31 0) 2109 = some 2047 ∧
    (pauseTarget (asks31 0) 2109).map (·.1) = some 0 ∧ (stackAt (askToken 31 63 (asks31 0)) 31).token = some 63 ∧
    quiescent (chanAt (askToken 31 63 (asks31 0)) 2109) = true ∧ (dueCause (asks31 2) 2109).isSome = true ∧
    slotUnderTest (asks31 0) 2109 = false ∧
    (stackAt (askToken 31 63 { asks31 0 with stk := List.replicate 32 { running := true, token := some 0 } }) 31).token ≠ some 63 ∧
    31 < late.stk.length ∧ 63 < (stackAt late 31).table.length := by decide +kernel
def repair (k : Nat) : Bytes := leBytes 1 k ++ List.replicate 15 0
set_option maxRecDepth 100000 in
theorem test_w_repair : mayWrite late sp1 0x5030 0 (repair 1) = true ∧ (writeRepair (repair 2) (beforeWrite sp1 0x5030 0 (repair 2) late)).2 = true ∧
    judgeRepair late (repair 0) = 1 ∧ judgeRepair late (repair 3) = 0 ∧ judgeRepair late (repair 6) = 0 ∧ servingSlot late (field (repair 3) 2 2) = some 0 := by decide +kernel
def recording : State := { up with clk := { hub := 3600000000000 }, nor := { waiting := [(true, 0x09, [], List.replicate 24 0)] } }
set_option maxRecDepth 100000 in
theorem test_w_records : recording.nor.present = true ∧ recording.nor.waiting = (true, 0x09, [], List.replicate 24 0) :: [] ∧
    512 ≤ (recording.nor.ledger.append ledgerSize 0x09 [] (List.replicate 24 0)).freeCount ledgerSize ∧
    recording.nor.wearHour < poweredNow recording / 3600 ∧ recording.nor.foreHour < poweredNow recording / 3600 := by decide +kernel

set_option maxRecDepth 100000 in
theorem test_w_ledger_full :
    (({ used := List.range 600 } : Ring).append ledgerSize 0x09 [] (List.replicate 24 0)).freeCount ledgerSize < 512 := by
  show ((List.range 1024).filter fun k => true && !(List.range 600).contains k).length < 512
  have h : ∀ k, (List.range 600).contains k = decide (k < 600) := by intro k; simp
  simp only [h]
  decide +kernel

/-! ### The service link -/

theorem test_w_messages : (serviceRow (.serviceRead sp1 0x1000 0 false)).any (mayServe up ·) = true ∧
    (serviceRow (.discover (.sp 5 0 1))).any (mayServe up ·) = true ∧ (serviceRow (.sessionClose sp1)).any (mayServe up ·) = true ∧
    serviceStop up false (sessionRole up 1) 0x1000 0 = 0 ∧ (valueOf up 1 0x1000 0).length ≤ 1484 ∧ (objRow 0x1000 0).isSome = true ∧
    serviceStop up false 0 0xFFFF 0 ≠ 0 ∧ serviceStop up true (sessionRole up 1) 0x1111 0 = 0 ∧ (objRow 0x1111 0).isSome = true := by decide +kernel
def keptOne (running : Bool) (since : Nat) : Answer := { mac := 5, session := 1, txn := 7, mtype := 2, status := 0, running := running, since := since }
def answered (a : Answer) : State := { late with svc := { sessions := [(1, { mac := 5, role := 3 })], kept := [a], out := [keptOne false 0] } }
/-- One subscriber, with a notice that waits for it. -/
def noticed (mac : Nat) : State := { late with
  svc := { late.svc with subs := List.replicate 8 { queue := [{ code := 0x8003, severity := 2 }] } }, objs := [(objKey 0x1130 1, mac)] }
theorem test_w_repeats : linkDead late = false ∧ keptAnswer (answered (keptOne false 0)) 5 1 7 = some (keptOne false 0) ∧
    keptAnswer (answered (keptOne true 9900000000)) 5 1 7 = some (keptOne true 9900000000) ∧ 9900000000 + 100000000 ≤ late.clk.hub ∧
    noticesFor (answered (keptOne false 0)) = [] ∧
    noticesFor (noticed 7) = [0] := by decide +kernel
theorem test_w_link_dead : linkDead { up with clk := { lost := [true, false, false, false, false] } } = true := by decide +kernel
/-- A message of a type with a payload of 4 zeros, in session 1 with transaction 7. -/
def ask (mtype : Nat) : Frame :=
  { dest := 0, source := 5, payload := leBytes 1 1 ++ leBytes 1 mtype ++ [0, 0, 1, 0] ++ leBytes 2 7 ++ leBytes 2 4 ++ [0, 0, 0, 0, 0, 0] }
def behindOne : State := { answered (keptOne false 0) with svc := { sessions := [(1, { mac := 5, role := 3 })], out := [{ keptOne false 0 with behind := some 4 }] } }
theorem test_w_behind : answerDue behindOne { keptOne false 0 with behind := some 4 } = leftHub behindOne 4 ∧ answerDue late (keptOne false 0) = true := by decide +kernel
theorem test_w_frames : frameDrop up { dest := 0, source := 5 } = none ∧ frameDrop up { dest := 0, source := 5, fcsOk := false } = some 2 ∧
    frameKey (ask 2) = (5, 1, 7, 2) ∧ frameStop (ask 2).payload = 0 ∧ keptAnswer up 5 1 7 = none ∧ frameStop (ask 0x55).payload = 0x15 ∧
    frameKey (ask 0x21) = (5, 1, 7, 0x21) ∧ keptAnswer (answered (keptOne false 0)) 5 1 7 = some (keptOne false 0) := by decide +kernel
def oneKept : State := { late with svc := { subs := List.replicate 8 { kept := [⟨{ code := 1 }, 4, 9900000000⟩] } } }
theorem test_w_notices : late.svc.subs.length = 8 ∧
    (nth oneKept.svc.subs 7 {}).kept.find? (fun k => decide (k.sentAt + 100000000 ≤ oneKept.clk.hub)) = some ⟨{ code := 1 }, 4, 9900000000⟩ ∧
    (5 : Nat) ≤ (⟨{ code := 1 }, 5, 9900000000⟩ : Kept).resends := by decide +kernel
theorem test_w_sessions : leastFrom (fun k => up.svc.sessions.all (·.1 != k)) 8 1 = some 2 ∧
    leastFrom (fun k => ((List.range 8).map fun i => (i + 1, ({ mac := 5 } : Session))).all (·.1 != k)) 8 1 = none ∧
    unlocks up (beBytes 6 5) 1 2 none [] = false ∧ 0 + objGet { late with clk := { hub := 60000000000 } } 0x1111 0 * 1000000000 ≤ 60000000000 := by decide +kernel
def sending : Transfer := { session := 1, write := true, index := 0x7820, sub := 0, length := 4096, data := List.replicate 1024 0 }
def transferring (touched : Nat) : State := { late with svc := { late.svc with transfers := [(4, { sending with touched := touched })] } }
theorem test_w_transfers : transferOf (transferring 1) 1 4 = some { sending with touched := 1 } ∧ sending.last ≠ some 1024 ∧
    Nat.min 1024 (sending.length - 1024) = 1024 ∧ sending.data.length ≠ sending.length ∧
    serviceStop late true (sessionRole late 1) 0x7820 0 = 0 ∧ (writeSizes 0x7820 0).1 ≤ 4096 ∧ (4096 : Nat) ≤ (writeSizes 0x7820 0).2 ∧
    leastFrom (fun i => (dropStale late).svc.transfers.all (·.1 != i)) 4 1 = some 1 ∧ serviceStop late false (sessionRole late 1) 0x1000 0 = 0 ∧
    (objRow sending.index sending.sub).isSome = true ∧ ({ sending with last := some 0 } : Transfer).last = some 0 ∧
    ({ sending with write := false } : Transfer).write = false ∧
    (transferring 0).svc.transfers.all (fun e => decide (e.2.touched + 10000000000 ≤ late.clk.hub)) = true := by decide +kernel

/-! ### Settings, images, counters, tests -/

theorem test_w_settings : mayWrite up sp1 0x1140 0 [1] = true ∧ (beforeWrite sp1 0x1140 0 [1] up).nor.present = true ∧
    mayWrite up sp1 0x8002 0 [255] = true ∧ (beforeWrite sp1 0x1140 0 [1] { up with nor := { present := false } }).nor.present = false := by decide +kernel
def pinned : State := { up with image := { source := 3, copy := 1 } }
theorem test_w_cancel : mayWrite up sp1 0x7822 0 [1] = true ∧ (beforeWrite sp1 0x7822 0 [1] up).nor.present = true ∧
    stagingPinned (beforeWrite sp1 0x7822 0 [1] up) = false ∧ stagingPinned (beforeWrite sp1 0x7822 0 [1] pinned) = true := by decide +kernel
def image1 : Bytes := List.replicate 6 0 ++ [1, 0] ++ List.replicate 4088 0
theorem test_w_staging : mayWrite up cp0 0x7820 0 image1 = true ∧ (beforeWrite cp0 0x7820 0 image1 up).image.copy ≠ 1 ∧
    (beforeWrite cp0 0x7820 0 image1 up).nor.present = true ∧ mayWrite pinned cp0 0x7820 0 image1 = true ∧
    (beforeWrite cp0 0x7820 0 image1 pinned).image.copy = 1 := by decide +kernel
theorem test_w_copy : pinned.image.copy = 1 ∧ pinned.nor.present = true ∧ copyTarget pinned = 1 ∧ pinned.image.retried = false ∧
    copyTarget { pinned with nor := { slotA := { state := 1 } } } = 2 ∧ ({ pinned with image := { copy := 1, retried := true } } : State).image.retried = true := by
  decide +kernel
/-- A bandwidth window of 100 µs asked for while one of 1,000 µs runs. -/
def rated : State := { late with objs := [(objKey 0x8010 0, 100)] }
def early : State := { rated with clk := { rated.clk with hub := 100000 } }
theorem test_w_bandwidth : objGet late 0x8010 0 = late.cnt.w ∧ nextEdge late.cnt.w late.cnt.last ≤ late.clk.hub ∧ late.cnt.base.length = 12 ∧
    objGet rated 0x8010 0 ≠ rated.cnt.w ∧ nextEdge (objGet rated 0x8010 0) rated.cnt.last ≤ nextEdge rated.cnt.w rated.cnt.last ∧
    nextEdge (objGet early 0x8010 0) early.cnt.last ≤ early.clk.hub ∧
    early.clk.hub < nextEdge (objGet early 0x8010 0) early.cnt.last + objGet early 0x8010 0 * 1000 ∧ 0 < rated.cnt.w ∧ 0 < objGet rated 0x8010 0 ∧
    nextEdge late.cnt.w late.cnt.last + late.cnt.w * 1000 ≤ late.clk.hub ∧ nextEdge 1000 0 ≤ 1000000 ∧ 1000000 < nextEdge 1000 0 + 1000 * 1000 := by
  decide +kernel
def testCmd : Bytes := [1, 2, 0, 0, 1, 0, 0, 0] ++ leBytes 8 (2 ^ 20) ++ List.replicate 16 0
def idleBundle : State := { up with links := List.replicate 13 { live := 0xFFFE } }
theorem test_w_test_start : mayWrite idleBundle sp1 0x9010 0 testCmd = true ∧ (writeTest testCmd (beforeWrite sp1 0x9010 0 testCmd idleBundle)).2 = true ∧
    judgeTest idleBundle testCmd = 0 ∧ freeTest idleBundle = some 1 ∧ testTarget testCmd = some (.bundle 1 0) := by decide +kernel
def test16 (stop : Option Nat) : State := { up with test := { reset := false, tests := [(16, { cmd := testCmd, target := .bundle 1 0, start := 0, stop := stop })] } }
theorem test_w_tests : (test16 none).test.tests = [(16, { cmd := testCmd, target := .bundle 1 0, start := 0 })] ∧ 67 < testLanes (.bundle 1 0) ∧
    ((test16 (some 1)).test.tests.find? (·.1 == 16)).map (·.2.stop) = some (some 1) ∧
    runComplete { cmd := testCmd, target := .bundle 1 0, start := 0 } [] = true ∧
    judgeTest (test16 none) ([2] ++ List.replicate 16 0 ++ [16] ++ List.replicate 14 0) = 0 := by decide +kernel
theorem test_w_tap : chainOpen up = false ∧ chainOpen { up with start := { state := 4 } } = true ∧ targetBusy up (.slot 0 0) = false ∧
    targetPermitted { late with variant := .qz1024 } 3 (.slot 31 0) = true ∧ targetBusy { up with test := { claims := [.slot 0 0] } } (.slot 0 0) = true ∧
    targetBusy (test16 none) (.bundle 1 0) = true ∧ (test16 none).test.claims.contains (.bundle 1 0) = false ∧
    State.reset.test.reset = true ∧ (test16 none).test.reset = false ∧ (0xFF : BitVec 8).toNat ∉ [0x00, 0x01, 0x02, 0x10, 0x11] := by
  decide +kernel

end Sys2Proof.Tests
end

section
/-!
The pin qz_rst_n: which state a command leaves by the pin (R26, R429), and the invariant that a low pin finds the complex cold.
-/
namespace Sys2Proof.Machine

/-! ### A cold complex -/

@[simp] theorem cold_released (s : State) : (cold s).released = false := rfl

/-- A complex that is cold stays so when reset once more. -/
@[simp] theorem cold_cold (s : State) : cold (cold s) = cold s := rfl

theorem lowPinCold_cold (s : State) : lowPinCold (cold s) := fun _ => (cold_cold s).symm

theorem lowPinCold_of_high {s : State} (h : s.released = true) : lowPinCold s := fun low => by simp [h] at low

/-- The queue of waiting commands is none of what a reset clears. -/
theorem lowPinCold_pending {s : State} (h : lowPinCold s) (q : List Instr) : lowPinCold { s with pending := q } := fun low =>
  congrArg (fun t : State => { t with pending := q }) (h low)

/-! ### The pin after a command -/

theorem execStartUp_released {env : StartEnv} {s t : State} (e : execStartUp env s = .next t) : t.released = true := by
  unfold execStartUp at e
  split at e
  next high => cases e; exact high
  next => cases e; rfl

theorem whenReleased_released {s t : State} {f : State → State} (e : whenReleased s f = .next t) : t.released = s.released := by
  cases pin : s.released with
  | true => rw [whenReleased_high pin] at e; cases e; rfl
  | false => rw [whenReleased_low pin] at e; cases e; exact pin

/-- R26: with the pin low a command other than the pin's own two is ignored. -/
theorem exec_low {i : Instr} {s : State} (low : s.released = false) (noAssert : i ≠ .qzRstNAssert) (noStart : ∀ env, i ≠ .startUp env) :
    exec i s = .next s := by
  obtain ⟨f, hf⟩ := exec_shape i s noAssert noStart
  rw [hf, whenReleased_low low]

theorem exec_keeps_released {i : Instr} {s t : State} (noAssert : i ≠ .qzRstNAssert) (noStart : ∀ env, i ≠ .startUp env)
    (e : exec i s = .next t) : t.released = s.released := by
  obtain ⟨f, hf⟩ := exec_shape i s noAssert noStart
  exact whenReleased_released (hf ▸ e)

/-- What a command does by the pin: QZ_RST_N_ASSERT resets, START_UP leaves the pin high, and any other command leaves the pin as it
was and, where that is low, the state as well. -/
theorem exec_cases_by_pin {i : Instr} {s t : State} (e : exec i s = .next t) :
    (i = .qzRstNAssert ∧ t = cold s) ∨ ((∃ env, i = .startUp env) ∧ t.released = true) ∨
    (i ≠ .qzRstNAssert ∧ (∀ env, i ≠ .startUp env) ∧ t.released = s.released ∧ (s.released = false → t = s)) := by
  by_cases isAssert : i = .qzRstNAssert
  · subst isAssert
    cases e
    exact .inl ⟨rfl, rfl⟩
  · by_cases isStart : ∃ env, i = .startUp env
    · obtain ⟨env, rfl⟩ := isStart
      exact .inr (.inl ⟨⟨env, rfl⟩, execStartUp_released e⟩)
    · have noStart : ∀ env, i ≠ .startUp env := fun env he => isStart ⟨env, he⟩
      refine .inr (.inr ⟨isAssert, noStart, exec_keeps_released isAssert noStart e, fun low => ?_⟩)
      rw [exec_low low isAssert noStart] at e
      cases e
      rfl

/-! ### The invariant -/

theorem exec_keeps_lowPinCold {i : Instr} {s t : State} (h : lowPinCold s) (e : exec i s = .next t) : lowPinCold t := by
  rcases exec_cases_by_pin e with ⟨-, rfl⟩ | ⟨-, high⟩ | ⟨-, -, pin, same⟩
  · exact lowPinCold_cold s
  · exact lowPinCold_of_high high
  · intro low
    have was : s.released = false := pin ▸ low
    rw [same was]
    exact h was

/-- R26: with the pin low no time passes. -/
theorem tick_low {s : State} (low : s.released = false) : tick s = s := by simp [tick, low]

theorem tick_high {s : State} (high : s.released = true) : (tick s).released = true := by simp [tick, high]

theorem tick_keeps_lowPinCold {s : State} (h : lowPinCold s) : lowPinCold (tick s) := by
  cases pin : s.released with
  | true => exact lowPinCold_of_high (tick_high pin)
  | false => rwa [tick_low pin]

theorem step_keeps_lowPinCold {s t : State} (h : lowPinCold s) (e : step s = .next t) : lowPinCold t := by
  unfold step at e
  split at e
  next => cases e; exact tick_keeps_lowPinCold h
  next i rest _ => exact exec_keeps_lowPinCold (lowPinCold_pending h rest) e

theorem lowPinCold_reset : lowPinCold State.reset := fun _ => rfl

theorem shaped_reset : State.reset.shaped = true := by decide

/-! ### The obligations -/

/-- Settles O7: the passage of time and every command keep the invariant. -/
theorem stepKeepsLowPinCold : Obligations.StepKeepsLowPinCold := by
  unfold Obligations.StepKeepsLowPinCold
  exact fun _ _ => step_keeps_lowPinCold

/-- Settles O4, from the three cases of a command by the pin. -/
theorem qzRstNCommandsMoveThePin : Obligations.QzRstNCommandsMoveThePin := by
  unfold Obligations.QzRstNCommandsMoveThePin
  refine ⟨fun i s low noStart noAssert => exec_low low noAssert noStart, fun i s t e => ⟨?_, ?_, ?_⟩⟩
  · rintro rfl
    cases e
    exact cold_released s
  · rintro ⟨env, rfl⟩
    exact execStartUp_released e
  · exact fun noAssert noStart => exec_keeps_released noAssert noStart e

/-- Settles O6: every field of the reset state has the value that a reset gives it. -/
theorem resetIsCold : Obligations.ResetIsCold := by
  unfold Obligations.ResetIsCold
  exact ⟨lowPinCold_reset, rfl, shaped_reset⟩

end Sys2Proof.Machine
end

section
/-!
The test access port (R25, R487 to R489): what a load of an instruction selects, in Test-Logic-Reset and out of it, and what it
leaves alone.
-/
namespace Sys2Proof.Machine

theorem keepFixed_self {s : State} (high : s.released = true) : keepFixed s true s = s := by
  unfold keepFixed
  rw [← high]

/-- A command that changes nothing answers the state as it was. -/
theorem whenReleased_same {s : State} {f : State → State} (h : f s = s) : whenReleased s f = .next s := by
  cases pin : s.released with
  | true => rw [whenReleased_high pin, h, keepFixed_self pin]
  | false => rw [whenReleased_low pin]

/-! ### In Test-Logic-Reset no instruction loads (R25) -/

section
variable {s : State} (held : s.test.reset = true)
include held

theorem loadIr_held (code dr : Nat) : loadIr code dr s = s := by simp [loadIr, held]
theorem loadChain_held (code dr : Nat) : loadChain code dr s = s := by simp [loadChain, held]
theorem loadExtest_held : loadExtest s = s := by simp [loadExtest, held]
theorem loadSample_held : loadSample s = s := by simp [loadSample, held]

theorem execInstruments_held (claim : Option Target) : execInstruments claim s = .next s := by
  refine whenReleased_same ?_
  cases claim <;> simp [loadChain_held held, held]

theorem execTapInstructionLoad_held (code : BitVec 8) : execTapInstructionLoad code s = .next s := by
  refine whenReleased_same ?_
  split
  · exact loadExtest_held held
  · exact loadIr_held held _ _
  · exact loadSample_held held
  · exact loadChain_held held _ _
  · exact loadChain_held held _ _
  · exact loadIr_held held _ _

theorem exec_load_held {i : Instr} (h : i ∈ [Instr.extest, .idcode, .samplePreload, .chainSelect, .bypass]) : exec i s = .next s := by
  simp only [List.mem_cons, List.not_mem_nil, or_false] at h
  rcases h with rfl | rfl | rfl | rfl | rfl
  · exact whenReleased_same (loadExtest_held held)
  · exact whenReleased_same (loadIr_held held _ _)
  · exact whenReleased_same (loadSample_held held)
  · exact whenReleased_same (loadChain_held held _ _)
  · exact whenReleased_same (loadIr_held held _ _)

end

/-! ### What a notice leaves of a port -/

@[simp] theorem Port.take_hold (n : Notice) (d : Port) : (d.take n).hold = d.hold := by unfold Port.take; split <;> rfl
@[simp] theorem Port.take_inReset (n : Notice) (d : Port) : (d.take n).inReset = d.inReset := by unfold Port.take; split <;> rfl

/-- A fact of a port that holds of it with another notice queue too stays when a notice is queued for any port. -/
theorem portAt_portQueue_same {β : Type} (g : Port → β) (hg : ∀ n d, g (Port.take n d) = g d) (p k : Nat) (n : Notice) (s : State) :
    g (portAt (portQueue p n s) k) = g (portAt s k) := by
  unfold portQueue updPort portAt
  by_cases hp : p < 5 <;> by_cases hk : k < 5 <;> simp only [hp, hk, if_true, if_false, State.onPorts_ports, State.onPorts_eng,
    State.onEng_ports, State.onEng_eng, hg]
  unfold nth modNth
  rw [List.getD_eq_getElem?_getD, List.getD_eq_getElem?_getD, List.getElem?_modify]
  split
  next => cases s.ports[k]? <;> simp [hg]
  next => simp

/-- What the queueing of a notice and the journal do not change, the notice does not change: `raiseBut_same` for a fact that another
change of a port might break. -/
theorem notify_same {β : Type} (g : State → β) (hsub : ∀ i n t, g (subQueue i n t) = g t) (hport : ∀ p n t, g (portQueue p n t) = g t)
    (hjournal : ∀ k b t, g (journal k b t) = g t) (d : Die) (c v : Nat) (b : Bytes) (s : State) : g (notify d c v b s) = g s := by
  have hsubs := fun skip n => forEach_same g (f := fun i t => if i + 1 ≠ skip && subWants t i n then subQueue i n t else t)
    (fun i t => by split; exact hsub i n t; rfl) (List.range 8)
  have hports := fun n => forEach_same g (f := fun p t => if portWants t p n then portQueue p n t else t)
    (fun p t => by split; exact hport p n t; rfl) (List.range 4)
  unfold notify raiseBut journalNotice
  dsimp only
  split
  · rw [hjournal, hports, hsubs]
  · rw [hports, hsubs]

@[simp] theorem notify_hold (d : Die) (c v : Nat) (b : Bytes) (s : State) (k : Nat) :
    (portAt (notify d c v b s) k).hold = (portAt s k).hold :=
  notify_same (fun t => (portAt t k).hold) (fun _ _ _ => rfl)
    (fun p n t => portAt_portQueue_same Port.hold Port.take_hold p k n t) (fun _ _ t => by simp [portAt]) d c v b s

@[simp] theorem notify_inReset (d : Die) (c v : Nat) (b : Bytes) (s : State) (k : Nat) :
    (portAt (notify d c v b s) k).inReset = (portAt s k).inReset :=
  notify_same (fun t => (portAt t k).inReset) (fun _ _ _ => rfl)
    (fun p n t => portAt_portQueue_same Port.inReset Port.take_inReset p k n t) (fun _ _ t => by simp [portAt]) d c v b s

/-! ### What a load through the chain leaves alone -/

/-- What neither the test port's own record nor a notice touches, a load through the chain does not touch. -/
theorem loadChain_same {β : Type} (g : State → β) (htest : ∀ (f : TestPort → TestPort) t, g (t.onTest f) = g t)
    (hnote : ∀ d c v b t, g (notify d c v b t) = g t) (code dr : Nat) (s : State) : g (loadChain code dr s) = g s := by
  have hir : ∀ k r, g (loadIr k r s) = g s := fun k r => by
    unfold loadIr
    split
    · rfl
    · exact htest _ _
  unfold loadChain
  split
  · rfl
  · split
    · exact hir _ _
    · split
      · exact hir _ _
      · extract_lets counted due
        split
        · exact (htest _ _).trans (hir _ _)
        · exact (hnote _ _ _ _ _).trans ((htest _ _).trans ((htest _ _).trans (hir _ _)))

section
variable (code dr : Nat) (s : State)
@[simp] theorem loadChain_variant : (loadChain code dr s).variant = s.variant :=
  loadChain_same State.variant (fun _ _ => rfl) (fun d c v b t => notify_variant t d c v b) code dr s
@[simp] theorem loadChain_mem : (loadChain code dr s).mem = s.mem :=
  loadChain_same State.mem (fun _ _ => rfl) (fun d c v b t => notify_mem t d c v b) code dr s
@[simp] theorem loadChain_stackAt (n : Nat) : stackAt (loadChain code dr s) n = stackAt s n :=
  loadChain_same (stackAt · n) (fun _ _ => rfl) (fun d c v b t => by simp [stackAt]) code dr s
@[simp] theorem loadChain_quadAt (q : Nat) : quadAt (loadChain code dr s) q = quadAt s q :=
  loadChain_same (quadAt · q) (fun _ _ => rfl) (fun d c v b t => by simp [quadAt]) code dr s
@[simp] theorem loadChain_linkAt (g : Nat) : linkAt (loadChain code dr s) g = linkAt s g :=
  loadChain_same (linkAt · g) (fun _ _ => rfl) (fun d c v b t => by simp [linkAt]) code dr s
@[simp] theorem loadChain_chans : (loadChain code dr s).chans = s.chans :=
  loadChain_same State.chans (fun _ _ => rfl) (fun d c v b t => notify_chans t d c v b) code dr s
@[simp] theorem loadChain_rehomes : (loadChain code dr s).rehomes = s.rehomes :=
  loadChain_same State.rehomes (fun _ _ => rfl) (fun d c v b t => notify_rehomes t d c v b) code dr s
@[simp] theorem loadChain_hold (k : Nat) : (portAt (loadChain code dr s) k).hold = (portAt s k).hold :=
  loadChain_same (fun t => (portAt t k).hold) (fun _ _ => rfl) (fun d c v b t => notify_hold d c v b t k) code dr s
@[simp] theorem loadChain_inReset (k : Nat) : (portAt (loadChain code dr s) k).inReset = (portAt s k).inReset :=
  loadChain_same (fun t => (portAt t k).inReset) (fun _ _ => rfl) (fun d c v b t => notify_inReset d c v b t k) code dr s
end

@[simp] theorem inSlate_loadChain (code dr q : Nat) (s : State) : inSlate (loadChain code dr s) q = inSlate s q := by
  unfold inSlate
  rw [loadChain_quadAt]

@[simp] theorem quadQuiesced_loadChain (code dr q : Nat) (s : State) : quadQuiesced (loadChain code dr s) q = quadQuiesced s q := by
  unfold quadQuiesced
  rw [loadChain_quadAt, inSlate_loadChain]

@[simp] theorem fixedMapOn_loadChain (code dr : Nat) (s : State) : fixedMapOn (loadChain code dr s) = fixedMapOn s :=
  congrArg (List.all (List.range 4)) (funext fun q => inSlate_loadChain code dr q s)

/-- A load through the chain leaves every target as permitted as it was. -/
@[simp] theorem targetPermitted_loadChain (code dr mode : Nat) (tg : Target) (s : State) :
    targetPermitted (loadChain code dr s) mode tg = targetPermitted s mode tg := by
  cases tg with
  | slot n p => simp [targetPermitted]
  | bundle g b => simp [targetPermitted]

/-! ### What a load selects out of Test-Logic-Reset (Table 16.9) -/

/-- The test port once an instruction that selects a data register is loaded. -/
def TestPort.selecting (code dr : Nat) (t : TestPort) : TestPort := { t with ir := code, dr := dr, extest := false }

section
variable {s : State} (running : s.test.reset = false)
include running

theorem loadIr_running (code dr : Nat) : loadIr code dr s = s.onTest (TestPort.selecting code dr) := by
  simp only [loadIr, running]; rfl

/-- A closed chain gives the bypass register (R488, assumption 77); neither the tests nor the claims change. -/
theorem loadChain_running (code dr : Nat) :
    (loadChain code dr s).test.ir = code ∧ (loadChain code dr s).test.dr = (if chainOpen s then dr else 0) ∧
    (loadChain code dr s).test.tests = s.test.tests ∧ (loadChain code dr s).test.claims = s.test.claims := by
  cases chain : chainOpen s with
  | false => simp [loadChain, running, chain, loadIr_running running, TestPort.selecting]
  | true =>
    by_cases heldStart : s.start.state = 4
    · simp [loadChain, running, chain, heldStart, loadIr_running running, TestPort.selecting]
    · unfold loadChain
      rw [if_neg (by simp [running]), if_neg (by simp [chain]), if_neg heldStart]
      extract_lets counted due unsaid said
      split <;> simp [counted, said, loadIr_running running, TestPort.selecting]

/-- An EXTEST that is not permitted selects the bypass register (R488). -/
theorem loadExtest_running :
    (loadExtest s).test.ir = 0x00 ∧ (loadExtest s).test.extest = extestOpen s ∧
    (loadExtest s).test.dr = (if extestOpen s then 2 else 0) ∧ (loadExtest s).mem = s.mem := by
  cases open_ : extestOpen s <;> simp [loadExtest, running, open_, loadIr_running running, TestPort.selecting]

theorem loadSample_running :
    (loadSample s).test.ir = 0x02 ∧ (loadSample s).test.dr = 2 ∧ (loadSample s).test.boundary.length = 73 ∧ (loadSample s).mem = s.mem := by
  simp [loadSample, running, loadIr_running running, TestPort.selecting, State.drawn]

theorem targetBusy_loadChain (code dr : Nat) (tg : Target) : targetBusy (loadChain code dr s) tg = targetBusy s tg := by
  obtain ⟨-, -, tests, claims⟩ := loadChain_running running code dr
  cases tg <;> simp [targetBusy, tests, claims, chanAt, actionOn]

end

/-! ### Claims (R489) -/

/-- The claims after INSTRUMENTS names a target: with the chain open the port releases a claim of its own (assumption 99), and takes
a target that is free and permitted; else they stay. -/
def claimsAfter (s : State) (tg : Target) : List Target :=
  if chainOpen s && s.test.claims.contains tg then s.test.claims.filter (· != tg)
  else if !chainOpen s || targetBusy s tg || !(targetPermitted s 0 tg || targetPermitted s 3 tg) then s.test.claims
  else s.test.claims ++ [tg]

theorem targetBusy_of_claimed {s : State} {tg : Target} (h : s.test.claims.contains tg = true) : targetBusy s tg = true := by
  simp only [targetBusy, h, Bool.or_true, Bool.true_or]

theorem claimsAfter_free {s : State} {tg : Target} (chain : chainOpen s = true) (free : targetBusy s tg = false)
    (permitted : (targetPermitted s 0 tg || targetPermitted s 3 tg) = true) : claimsAfter s tg = s.test.claims ++ [tg] := by
  have unclaimed : s.test.claims.contains tg = false :=
    Bool.eq_false_iff.mpr fun h => by simp [targetBusy_of_claimed h] at free
  simp only [claimsAfter, chain, free, permitted, unclaimed]; rfl

theorem claimsAfter_closed {s : State} {tg : Target} (closed : chainOpen s = false) : claimsAfter s tg = s.test.claims := by
  simp [claimsAfter, closed]

theorem claimsAfter_othersBusy {s : State} {tg : Target} (busy : targetBusy s tg = true) (unclaimed : s.test.claims.contains tg = false) :
    claimsAfter s tg = s.test.claims := by
  simp only [claimsAfter, busy, unclaimed, Bool.and_false, Bool.or_true, Bool.true_or]; rfl

theorem execInstruments_running {s : State} (high : s.released = true) (running : s.test.reset = false) (tg : Target) :
    ∃ t, execInstruments (some tg) s = .next t ∧ t.test.ir = 0x11 ∧ t.test.dr = (if chainOpen s then 4 else 0) ∧ t.mem = s.mem ∧
      t.test.claims = claimsAfter s tg := by
  obtain ⟨ir, dr, -, claims⟩ := loadChain_running running 0x11 4
  refine ⟨_, whenReleased_high high _, ?_⟩
  simp only [claimsAfter, running, Bool.not_false, Bool.and_true, claims, targetBusy_loadChain running, targetPermitted_loadChain,
    keepFixed_test, keepFixed_mem]
  split
  · simp [ir, dr, claims]
  · split <;> simp [ir, dr, claims]

/-! ### TEST_LOGIC_RESET and TAP_INSTRUCTION_LOAD (Table 16.9) -/

theorem execTestLogicReset_high {s : State} (high : s.released = true) (held : Bool) :
    execTestLogicReset held s = .next (keepFixed s true
      (if held then s.onTest fun t => { t with ir := 0x01, reset := true, dr := 1, extest := false, claims := [] }
       else s.onTest fun t => { t with reset := false })) := whenReleased_high high _

/-- A code that Table 16.9 does not list selects the bypass register, as BYPASS does. -/
theorem execTapInstructionLoad_other {code : BitVec 8} (h : code.toNat ∉ [0x00, 0x01, 0x02, 0x10, 0x11]) (s : State) :
    execTapInstructionLoad code s = whenReleased s (loadIr code.toNat 0) := by
  unfold execTapInstructionLoad
  congr 1
  funext t
  split <;> simp_all

/-- Settles O60: no load acts in Test-Logic-Reset; out of it each instruction's load is one of loadIr, loadSample, loadExtest and
loadChain, and INSTRUMENTS leaves the claims as `claimsAfter` says. -/
theorem tapController : Obligations.TapController := by
  unfold Obligations.TapController
  refine ⟨fun s high => ⟨?_, ?_, ?_⟩, fun s high running => ⟨?_, ?_, ?_, ?_, ?_, ?_, ?_⟩⟩
  · exact ⟨_, execTestLogicReset_high high true, rfl, rfl, rfl, rfl, rfl, rfl, rfl, rfl⟩
  · exact fun held i hi => ⟨exec_load_held held hi, execTapInstructionLoad_held held, execInstruments_held held⟩
  · exact ⟨_, execTestLogicReset_high high false, rfl, rfl, rfl, rfl, rfl⟩
  · refine ⟨_, whenReleased_high high _, ?_⟩
    simp [loadIr_running running, TestPort.selecting]
  · refine ⟨_, whenReleased_high high _, ?_⟩
    simp [loadIr_running running, TestPort.selecting]
  · exact ⟨_, whenReleased_high high _, loadSample_running running⟩
  · exact ⟨_, whenReleased_high high _, loadExtest_running running⟩
  · obtain ⟨ir, dr, -, -⟩ := loadChain_running running 0x10 3
    exact ⟨_, whenReleased_high high _, ir, dr, loadChain_mem _ _ _⟩
  · intro tg
    obtain ⟨t, answer, ir, dr, mem, claims⟩ := execInstruments_running high running tg
    refine ⟨t, answer, ir, dr, mem, fun chain free permitted => ?_, ?_⟩
    · rw [claims, claimsAfter_free chain free permitted]
    · rintro (closed | ⟨busy, unclaimed⟩)
      · rw [claims, claimsAfter_closed closed]
      · rw [claims, claimsAfter_othersBusy busy unclaimed]
  · refine ⟨rfl, rfl, rfl, rfl, rfl, fun code h => ?_⟩
    refine ⟨_, (execTapInstructionLoad_other h s).trans (whenReleased_high high _), ?_⟩
    simp [loadIr_running running, TestPort.selecting]

end Sys2Proof.Machine
end

section
/-!
The passage of time with no command waiting (R36, R46, assumption 1): what each counter runs in a stretch of hub time.
-/
namespace Sys2Proof.Machine

theorem step_idle {s : State} (idle : s.pending = []) : step s = .next (tick s) := by simp [step, idle]

theorem tick_released {s : State} (high : s.released = true) : tick s = keepFixed s true (stepMoves (holdIdle (pass 1 s))) := by
  simp [tick, high]

/-! ### What a quadrant's counter runs -/

/-- A reference that is lost lets its counter run off by 5 %, one that is there by far less (R46, R47). -/
theorem rateBound_le (s : State) (die : Nat) : rateBound s die ≤ 50000 := by unfold rateBound; split <;> decide

theorem rateOf_bounds (s : State) (die : Nat) : -50000 ≤ rateOf s die ∧ rateOf s die ≤ 50000 := by
  have bound := rateBound_le s die
  have drawn : Config.rate die s.draw % (2 * rateBound s die + 1) < 2 * rateBound s die + 1 := Nat.mod_lt _ (Nat.succ_pos _)
  unfold rateOf
  omega

/-- Two counters run at most 100,000 ppm apart: over 1 ns from a phase below 1 ns, less than 2.1 ns. -/
theorem counterRun_lt {s : State} {q : Nat} (h : nth s.clk.phase q 0 < 1000000) : counterRun s 1 q < 2100000 := by
  have := rateOf_bounds s (q + 1)
  have := rateOf_bounds s 0
  unfold counterRun
  omega

theorem quadTime_pass (ns : Nat) {s : State} {q : Nat} (h : q < s.clk.quad.length) :
    quadTime (pass ns s) q = quadTime s q + (counterRun s ns q / 1000000).toNat := by
  simp [quadTime, pass, nth, h]

theorem phase_pass (ns : Nat) (s : State) {q : Nat} (h : q < 4) : nth (pass ns s).clk.phase q 0 = counterRun s ns q % 1000000 := by
  simp [pass, nth, h]

/-- Settles O2: the state between is the one in which `pass` has let a nanosecond go by. -/
theorem emptyQueueLetsTimePass : Obligations.EmptyQueueLetsTimePass := by
  unfold Obligations.EmptyQueueLetsTimePass
  intro s idle
  refine ⟨fun low => by rw [step_idle idle, tick_low low],
    fun high => ⟨pass 1 s, ?_, rfl, rfl, ?_, fun q hq => ⟨?_, fun _ below => ?_⟩, fun q hq => ?_⟩⟩
  · rw [step_idle idle, tick_released high]
  · simp [pass]
  · rw [quadTime_pass 1 hq]
    exact Nat.le_add_right _ _
  · have := counterRun_lt below
    rw [quadTime_pass 1 hq]
    omega
  · rw [phase_pass 1 s hq]
    omega

end Sys2Proof.Machine
end

section
/-!
The write of an object (R122, R123, R400, R403): a requester that may write finds its write performed, and answered with its status.
-/
namespace Sys2Proof.Machine

/-! ### A Write message -/

/-- That a frame has named a session leaves every session's role (R407). -/
theorem sessionRole_touchSession (session k : Nat) (s : State) : sessionRole (touchSession session s) k = sessionRole s k := by
  have key : ((fun x : Nat × Session => x.1 == k) ∘
      fun x => if x.1 = session then (x.1, { x.2 with lastFrame := s.clk.hub }) else x) = fun x => x.1 == k := by
    funext x
    simp only [Function.comp]
    split <;> rfl
  unfold sessionRole touchSession
  simp only [State.onSvc_svc, List.find?_map, key]
  cases s.svc.sessions.find? (·.1 == k) with
  | none => rfl
  | some x => simp only [Option.map_some]; split <;> rfl

/-- A Write message that may be served is performed on the state with its frame taken and its session touched. -/
theorem objectWrite_sp {mac : BitVec 48} {session : Nat} {txn : BitVec 16} {index sub : Nat} {value : Bytes} {s : State} {r : ObjRow}
    (ends : Bool) (may : mayWrite s (.sp mac session txn) index sub value = true) (row : objRow index sub = some r) :
    let w := performWrite (.sp mac session txn) ends index sub r value (beforeWrite (.sp mac session txn) index sub value s)
    objectWrite (.sp mac session txn) ends index sub value s = afterWrite (.sp mac session txn) index sub value w.2 w.1 := by
  intro w
  simp only [mayWrite, Bool.and_eq_true, Bool.not_eq_true', beq_iff_eq, decide_eq_true_eq] at may
  obtain ⟨-, ⟨⟨⟨alive, fresh⟩, opened⟩, permitted⟩, short⟩ := may
  have fresh' : keptAnswer (takeFrame mac.toNat session txn.toNat 3 s) mac.toNat session txn.toNat = none := by
    simpa [keptAnswer, takeFrame] using fresh
  have opened' : sessionOpen (takeFrame mac.toNat session txn.toNat 3 s) mac.toNat session = true := opened
  have permitted' : serviceStop (touchSession session (takeFrame mac.toNat session txn.toNat 3 s)) true
      (sessionRole (touchSession session (takeFrame mac.toNat session txn.toNat 3 s)) session) index sub = 0 := by
    rw [sessionRole_touchSession]
    exact permitted
  simp [objectWrite, serve, alive, fresh', opened', runWrite, permitted', Nat.not_lt.mpr short, row, afterWrite, w, beforeWrite]

/-! ### A Dictionary write -/

/-- A fact of each port that a change of one port keeps. -/
theorem portAt_updPort_same {β : Type} (g : Port → β) {f : Port → Port} (hf : ∀ d, g (f d) = g d) (p k : Nat) (s : State) :
    g (portAt (updPort p f s) k) = g (portAt s k) := by
  unfold updPort portAt
  by_cases hp : p < 5 <;> by_cases hk : k < 5 <;> simp only [hp, hk, if_true, if_false, State.onPorts_ports, State.onPorts_eng,
    State.onEng_ports, State.onEng_eng, hf]
  unfold nth modNth
  rw [List.getD_eq_getElem?_getD, List.getD_eq_getElem?_getD, List.getElem?_modify]
  split
  · cases s.ports[k]? <;> simp [hf]
  · simp

@[simp] theorem portAt_bump (i k n : Nat) (s : State) (p : Nat) : portAt (bump i k n s) p = portAt s p := by simp [portAt]

/-- The state in which a request of a port is judged: its flits are taken and their credits given back. -/
def arrived (p opcode : Nat) (r : Request) (s : State) : State := returnFlits p (takeInbox p opcode r s).1 (takeInbox p opcode r s).2

/-- A change of a port that leaves its tags, its waiting dictionary requests and its role. -/
def ArrivalKeeps (f : Port → Port) : Prop := ∀ d, (f d).tags = d.tags ∧ (f d).dict = d.dict ∧ (f d).role = d.role

/-- What no such change of a port touches, the arrival of a request does not touch. -/
theorem arrived_same {β : Type} (g : State → β) (hport : ∀ p f t, ArrivalKeeps f → g (updPort p f t) = g t) (p opcode : Nat)
    (r : Request) (s : State) : g (arrived p opcode r s) = g s := by
  have flits : g (arrived p opcode r s) = g (takeInbox p opcode r s).2 := by
    refine forEach_same g (fun id t => hport _ _ _ fun d => ?_) _ _
    split
    · exact ⟨rfl, rfl, rfl⟩
    · split
      · dsimp only
        split <;> exact ⟨rfl, rfl, rfl⟩
      · exact ⟨rfl, rfl, rfl⟩
  rw [flits]
  unfold takeInbox
  split
  · split
    · exact hport _ _ _ fun _ => ⟨rfl, rfl, rfl⟩
    · rfl
  · rfl

theorem objGet_same {s t : State} (objs : t.objs = s.objs) (image : t.image = s.image) (variant : t.variant = s.variant) :
    objGet t = objGet s := by
  funext index sub
  unfold objGet objDefault
  rw [objs, image, variant]

theorem fixedMapOn_same {s t : State} (quads : t.quads = s.quads) : fixedMapOn t = fixedMapOn s := by
  have slate : inSlate t = inSlate s := by
    funext q
    unfold inSlate quadAt
    rw [quads]
  unfold fixedMapOn
  rw [slate]

/-- The checks of a dictionary request before its object look at the quadrants and at the objects, not at the ports. -/
theorem inBandStop_same {s t : State} (quads : t.quads = s.quads) (objs : t.objs = s.objs) (image : t.image = s.image)
    (variant : t.variant = s.variant) (p opcode : Nat) (r : Request) : inBandStop t p opcode r = inBandStop s p opcode r := by
  unfold inBandStop admitted
  rw [fixedMapOn_same quads, objGet_same objs image variant]

section
variable (p k opcode : Nat) (r : Request) (s : State)

theorem arrived_tags : (portAt (arrived p opcode r s) k).tags = (portAt s k).tags :=
  arrived_same (fun t => (portAt t k).tags) (fun q _ t hf => portAt_updPort_same Port.tags (fun d => (hf d).1) q k t) p opcode r s

theorem arrived_dict : (portAt (arrived p opcode r s) k).dict = (portAt s k).dict :=
  arrived_same (fun t => (portAt t k).dict) (fun q _ t hf => portAt_updPort_same Port.dict (fun d => (hf d).2.1) q k t) p opcode r s

theorem arrived_role : (portAt (arrived p opcode r s) k).role = (portAt s k).role :=
  arrived_same (fun t => (portAt t k).role) (fun q _ t hf => portAt_updPort_same Port.role (fun d => (hf d).2.2) q k t) p opcode r s

theorem dictBusy_arrived : dictBusy (arrived p opcode r s) k = dictBusy s k :=
  arrived_same (dictBusy · k) (fun _ _ _ _ => by simp [dictBusy]) p opcode r s

theorem inBandStop_arrived (n : Nat) (x : Request) : inBandStop (arrived p opcode r s) k n x = inBandStop s k n x :=
  arrived_same (inBandStop · k n x) (fun _ _ _ _ => inBandStop_same (by simp) (by simp) (by simp) (by simp) k n x) p opcode r s

theorem takeTag_dict : (portAt (takeTag p r s) k).dict = (portAt s k).dict := by
  rw [takeTag, portAt_bump]
  exact portAt_updPort_same Port.dict (fun _ => by rfl) p k s

theorem takeTag_role : (portAt (takeTag p r s) k).role = (portAt s k).role := by
  rw [takeTag, portAt_bump]
  exact portAt_updPort_same Port.role (fun _ => by rfl) p k s

theorem dictBusy_takeTag : dictBusy (takeTag p r s) k = dictBusy s k := by simp [takeTag, dictBusy]

theorem inBandStop_takeTag (n : Nat) (x : Request) : inBandStop (takeTag p r s) k n x = inBandStop s k n x :=
  inBandStop_same (by simp [takeTag]) (by simp [takeTag]) (by simp [takeTag]) (by simp [takeTag]) k n x

end

/-- A request of the management channel that a port accepts, with a free tag in its range, comes to its turn with its tag taken. -/
theorem inBand_accepted {src : Src} {p opcode : Nat} {r : Request} {s : State} (ends : Bool) (takes : takesRequests s p = true)
    (mgmt : r.mgmt = true) (free : (portAt s p).tags.contains r.tag.toNat = false) (accepts : portAccepts p opcode = true)
    (inRange : tagInRange p r = true) {t : State} (turn : turnInBand src ends p opcode r (takeTag p r (arrived p opcode r s)) = t) :
    inBand src ends p opcode r s = answerUnlisted (portAt t p).inbox.length p t := by
  have whole : breaksSequence r = false := by simp [breaksSequence, mgmt]
  have alone : inSequence r = false := by simp [inSequence, mgmt]
  rw [← arrived_tags p p opcode r s] at free
  simp only [arrived] at free turn
  simp only [inBand, takes, whole, free, accepts, inRange, failMember, alone, turn, Bool.not_true, Bool.not_false, Bool.false_and,
    Bool.false_eq_true, if_false, if_true]

theorem leastFrom_some {p : Nat → Bool} {j : Nat} (hj : p j = true) (fuel i : Nat) (lo : i ≤ j) (hi : j < i + fuel) :
    ∃ c, leastFrom p fuel i = some c ∧ p c = true ∧ c < i + fuel := by
  induction fuel generalizing i with
  | zero => omega
  | succ n ih =>
    by_cases here : p i = true
    · exact ⟨i, by simp [leastFrom, here], here, by omega⟩
    · have : i ≠ j := fun e => here (e ▸ hj)
      obtain ⟨c, found, hc, lt⟩ := ih (i + 1) (by omega) (by omega)
      exact ⟨c, by simp [leastFrom, here, found], hc, by omega⟩

/-- A length code holds a value of at most 4,096 bytes (Table 4.4). -/
theorem lenCodeFor_some {n : Nat} (h : n ≤ 4096) : ∃ c, lenCodeFor n = some c ∧ n ≤ 2 ^ c ∧ c < 13 := by
  obtain ⟨c, found, hc, lt⟩ :=
    leastFrom_some (p := fun c => decide (n ≤ 2 ^ c)) (j := 12) (by simpa using h) 13 0 (by omega) (by omega)
  exact ⟨c, found, by simpa using hc, by omega⟩

theorem padTo_take (n : Nat) (bs : Bytes) : (padTo n bs).take bs.length = bs := by simp [padTo]
theorem padTo_drop (n : Nat) (bs : Bytes) : (padTo n bs).drop bs.length = List.replicate (n - bs.length) 0 := by simp [padTo]
theorem padTo_self (bs : Bytes) : padTo bs.length bs = bs := by simp [padTo]

theorem dictIndex_carrier (tag : BitVec 16) (domain : BitVec 6) {index : Nat} (small : index < 65536) (sub : Nat) (value : Bytes) :
    dictIndex (carrier tag domain index sub value) = index := by
  simp only [dictIndex, bits, carrier, writeRequest, BitVec.toNat_ofNat]
  omega

theorem dictSub_carrier (tag : BitVec 16) (domain : BitVec 6) {index sub : Nat} (smallIndex : index < 65536) (small : sub < 256)
    (value : Bytes) : dictSub (carrier tag domain index sub value) = sub := by
  simp only [dictSub, bits, carrier, writeRequest, BitVec.toNat_ofNat]
  omega

/-- A carried value is taken whole from its request: the write is the object's. -/
theorem inBandWrite_carrier {src : Src} {p index sub : Nat} {value : Bytes} {r : ObjRow} {s : State} (ends : Bool) (tag : BitVec 16)
    (domain : BitVec 6) (ok : fits index sub value = true) (row : objRow index sub = some r)
    (permitted : writeStop (portAt s p).role index sub = 0) :
    inBandWrite src ends p (carrier tag domain index sub value) s = performWrite src ends index sub r value s := by
  simp only [fits, row, Bool.and_eq_true, decide_eq_true_eq] at ok
  obtain ⟨⟨⟨⟨smallIndex, smallSub⟩, short⟩, sized⟩, declared⟩ := ok
  obtain ⟨c, code, -, small⟩ := lenCodeFor_some short
  have data : (carrier tag domain index sub value).data = padTo (2 ^ c) value := by simp [carrier, writeRequest, code]
  have lenCode : (carrier tag domain index sub value).lenCode.toNat = c := by
    simp only [carrier, writeRequest, code, Option.getD_some, BitVec.toNat_ofNat]
    omega
  have size : (if (variableSize index).isSome then declaredSize index (padTo (2 ^ c) value) else r.size) = value.length := by
    split
    next var => simpa [var, code] using declared
    next fixed => exact .symm (by simpa [fixed] using sized)
  unfold inBandWrite
  simp only [dictIndex_carrier tag domain smallIndex, dictSub_carrier tag domain smallIndex smallSub, permitted, row, data, lenCode, size]
  simp [code, padTo_take, padTo_drop, padTo_self]

/-- A Dictionary write that may be served is performed on the state with its flits' credits given back and its tag taken. -/
theorem objectWrite_cp {p : Fin 4} {tag : BitVec 16} {domain : BitVec 6} {index sub : Nat} {value : Bytes} {s : State} {r : ObjRow}
    (ends : Bool) (may : mayWrite s (.cp p tag domain) index sub value = true) (row : objRow index sub = some r) :
    let w := performWrite (.cp p tag domain) ends index sub r value (beforeWrite (.cp p tag domain) index sub value s)
    objectWrite (.cp p tag domain) ends index sub value s = afterWrite (.cp p tag domain) index sub value w.2 w.1 := by
  intro w
  simp only [mayWrite, Bool.and_eq_true, Bool.not_eq_true', beq_iff_eq] at may
  obtain ⟨ok, ⟨⟨⟨⟨⟨takes, free⟩, inRange⟩, passes⟩, idle⟩, alone⟩, permitted⟩ := may
  let x := carrier tag domain index sub value
  let t := takeTag p x (arrived p 0x19 x s)
  have passes' : inBandStop t p 0x19 x = 0 := by rwa [inBandStop_takeTag, inBandStop_arrived]
  have idle' : dictBusy t p = false := by rwa [dictBusy_takeTag, dictBusy_arrived]
  have alone' : (portAt t p).dict.isEmpty = true := by rwa [takeTag_dict, arrived_dict]
  have permitted' : writeStop (portAt t p).role index sub = 0 := by rwa [takeTag_role, arrived_role]
  have accepts : portAccepts p 0x19 = true := by fin_cases p <;> rfl
  have turn : turnInBand (.cp p tag domain) ends p 0x19 x t = if w.2 = 0x10 then w.1 else inBandAnswer p 0x19 x w.2 [] w.1 := by
    simp only [turnInBand, idle', alone', runInBand, passes', x, inBandWrite_carrier ends tag domain ok row permitted']
    rfl
  exact inBand_accepted ends takes rfl free accepts inRange turn

/-! ### Either way -/

/-- A write that may be served is performed on what it finds, and answered with its status (R400). -/
theorem objectWrite_performs {src : Src} {index sub : Nat} {value : Bytes} {s : State} {r : ObjRow} (ends : Bool)
    (may : mayWrite s src index sub value = true) (row : objRow index sub = some r) :
    let w := performWrite src ends index sub r value (beforeWrite src index sub value s)
    objectWrite src ends index sub value s = afterWrite src index sub value w.2 w.1 := by
  cases src with
  | sp mac session txn => exact objectWrite_sp ends may row
  | cp p tag domain => exact objectWrite_cp ends may row

/-- A row that writes an object answers with the write's effect where the write is done. -/
theorem whenReleased_wrote {src : Src} {index sub : Nat} {value : Bytes} {s : State} {r : ObjRow} {effect : State → State} (ends : Bool)
    (high : s.released = true) (may : mayWrite s src index sub value = true) (row : objRow index sub = some r)
    (done : ∀ x, performWrite src ends index sub r value x = doneWrite (effect x)) :
    whenReleased s (objectWrite src ends index sub value) = .next (wrote src index sub value effect s) := by
  rw [whenReleased_high high, objectWrite_performs ends may row, done]
  rfl

end Sys2Proof.Machine
end

section
/-!
The host date and powered time (R52, R53).
-/
namespace Sys2Proof.Machine

theorem leBytes_length (n x : Nat) : (leBytes n x).length = n := by
  induction n generalizing x with
  | zero => rfl
  | succ n ih => simp [leBytes, ih]

theorem leNat_leBytes {n x : Nat} (h : x < 256 ^ n) : leNat (leBytes n x) = x := by
  induction n generalizing x with
  | zero => simp [leBytes, leNat, Nat.lt_one_iff.mp h]
  | succ n ih =>
    rw [pow_succ] at h
    have high : x / 256 < 256 ^ n := by omega
    simp only [leBytes, leNat, ih high, BitVec.toNat_ofNat]
    omega

theorem objRow_date : objRow 0x1210 0 = some ⟨0x1210, 0, 0, 4, 8, 1, 2, 0, 0, 2 ^ 64 - 1⟩ := by decide +kernel

/-- A write of object 0x1210:00 takes every value. -/
theorem performWrite_date (src : Src) (ends : Bool) (v : BitVec 64) (x : State) :
    performWrite src ends 0x1210 0 ⟨0x1210, 0, 0, 4, 8, 1, 2, 0, 0, 2 ^ 64 - 1⟩ (leBytes 8 v.toNat) x =
      doneWrite (writeDate v.toNat x) := by
  have small := v.isLt
  have value : leNat (leBytes 8 v.toNat) = v.toNat := leNat_leBytes (by omega)
  have valueFits : valueOk x.variant 0x1210 0 v.toNat = true := by
    simp [valueOk, objRow_date]
    omega
  simp [performWrite, leBytes_length, value, valueFits, relationOk, variableSize, isBlobCommand]

section
variable (v : Nat) (x : State)

theorem writeDate_clk : (writeDate v x).clk =
    if v = 0 then { x.clk with date := 0 } else { x.clk with date := v, dateAt := x.clk.hub, dateSet := x.clk.hub % 2 ^ 61 } := by
  simp [writeDate]

theorem writeDate_hub : (writeDate v x).clk.hub = x.clk.hub := by rw [writeDate_clk]; split <;> rfl
theorem writeDate_quad : (writeDate v x).clk.quad = x.clk.quad := by rw [writeDate_clk]; split <;> rfl
theorem writeDate_nor : (writeDate v x).nor = (journal 0x81 (leBytes 8 (dateNow x) ++ leBytes 8 v) x).nor := rfl

end

/-- Settles O16: the write takes every value, the date it leaves counts from the hub time of the write, and powered time is handed to
the writer with the stamp of the moment. -/
theorem dateAndPoweredTime : Obligations.DateAndPoweredTime := by
  unfold Obligations.DateAndPoweredTime
  refine ⟨fun src v s high may => ⟨whenReleased_wrote true high may objRow_date (performWrite_date src true v),
    fun x => ⟨fun set => ?_, ?_, writeDate_nor _ x, writeDate_hub _ x, writeDate_quad _ x⟩⟩,
    fun s high there => ⟨_, whenReleased_high high _, ?_⟩⟩
  · have set' : v.toNat ≠ 0 := by simpa [← BitVec.toNat_inj] using set
    simp [dateNow, writeDate_clk, set']
  · rintro rfl
    simp [dateNow, writeDate_clk]
  · simp [ledger, there]

end Sys2Proof.Machine
end

section
/-!
The snapshot (R55): what its start captures, and what its completion shows.
-/
namespace Sys2Proof.Machine

theorem objRow_snapshot : objRow 0x1203 1 = some ⟨0x1203, 1, 1, 1, 1, 2, 2, 0, 0, 255⟩ := by decide +kernel

/-- A write of 1 to object 0x1203:01 starts a snapshot. -/
theorem performWrite_snapshot (src : Src) (ends : Bool) (x : State) :
    performWrite src ends 0x1203 1 ⟨0x1203, 1, 1, 1, 1, 2, 2, 0, 0, 255⟩ [1] x = doneWrite (startSnapshot x) := by
  simp [performWrite, variableSize, isBlobCommand, writeCommand, onlyIf, leNat]

theorem startSnapshot_busy {x : State} (busy : x.clk.running.isSome = true) : startSnapshot x = x := by simp [startSnapshot, busy]

/-- What each quadrant's capture holds: its time, where it is not held in reset and a route reaches it. -/
def capturesOf (x : State) : List (Option Nat) := (List.range 4).map fun q => if captures x q then some (quadTime x q) else none

theorem startSnapshot_idle {x : State} (idle : x.clk.running = none) :
    startSnapshot x = x.onClk fun c => { c with running := some ⟨c.hub, capturesOf x⟩ } := by
  simp [startSnapshot, idle, capturesOf]

theorem nth_capturesOf (x : State) {q : Nat} (h : q < 4) : nth (capturesOf x) q none =
    if (quadAt x q).st ≠ .held ∧ (quadAt x q).resetAt = none ∧ reachable x q = true then some (quadTime x q) else none := by
  simp [nth, capturesOf, h, captures, and_assoc]

/-- A start moves neither hub time nor the values shown. -/
theorem startSnapshot_keeps (x : State) : (startSnapshot x).clk.snap = x.clk.snap ∧ (startSnapshot x).clk.hub = x.clk.hub := by
  cases running : x.clk.running with
  | none => simp [startSnapshot_idle running]
  | some y => simp [startSnapshot_busy (x := x) (by simp [running])]

/-! ### The completion -/

/-- What a capture can read at completion: 0 where there is none, else a time of the round trip that began with it (R55). -/
def CaptureReads (x : Snapshot) (trips : List Nat) (q v : Nat) : Prop :=
  (nth x.times q none = none → v = 0) ∧ ∀ c, nth x.times q none = some c → ∃ d, d ≤ nth trips q 0 ∧ v = (c + d) % 2 ^ 61

/-- One quadrant's capture joins those read before it: the time of the capture lies freely within its round trip. -/
def readCapture (x : Snapshot) (trips : List Nat) (a : List Nat × State) (q : Nat) : List Nat × State :=
  match nth x.times q none with
  | none => (a.1 ++ [0], a.2)
  | some t => (a.1 ++ [(t + (drawUpTo (nth trips q 0) a.2).1) % 2 ^ 61], (drawUpTo (nth trips q 0) a.2).2)

/-- The round trips shown: 0 for a quadrant that was not captured. -/
def tripsShown (x : Snapshot) (trips : List Nat) : List Nat :=
  (List.range 4).map fun q => if (nth x.times q none).isSome then nth trips q 0 else 0

theorem nth_tripsShown (x : Snapshot) (trips : List Nat) {q : Nat} (h : q < 4) :
    nth (tripsShown x trips) q 0 = if (nth x.times q none).isSome then nth trips q 0 else 0 := by
  simp [nth, tripsShown, h]

theorem readCapture_reads (x : Snapshot) (trips : List Nat) (a : List Nat × State) (q : Nat) :
    ∃ v, CaptureReads x trips q v ∧ (readCapture x trips a q).1 = a.1 ++ [v] ∧ (readCapture x trips a q).2.clk = a.2.clk := by
  unfold readCapture CaptureReads
  cases nth x.times q none with
  | none => exact ⟨0, by simp, rfl, rfl⟩
  | some c =>
    refine ⟨_, ⟨by simp, ?_⟩, rfl, rfl⟩
    rintro _ ⟨⟩
    exact ⟨_, Nat.lt_succ_iff.mp (Nat.mod_lt _ (Nat.succ_pos _)), rfl⟩

/-- The captures are read one after another; reading moves no clock. -/
theorem foldl_readCapture (x : Snapshot) (trips qs : List Nat) (a : List Nat × State) :
    ∃ vs, List.Forall₂ (CaptureReads x trips) qs vs ∧ (qs.foldl (readCapture x trips) a).1 = a.1 ++ vs ∧
      (qs.foldl (readCapture x trips) a).2.clk = a.2.clk := by
  induction qs generalizing a with
  | nil => exact ⟨[], .nil, by simp, rfl⟩
  | cons q qs ih =>
    obtain ⟨v, reads, appended, same⟩ := readCapture_reads x trips a q
    obtain ⟨vs, all, rest, kept⟩ := ih (readCapture x trips a q)
    exact ⟨v :: vs, .cons reads all, by simp [rest, appended], kept.trans same⟩

section
variable {trips : List Nat} {s : State} {x : Snapshot} (high : s.released = true) (running : s.clk.running = some x)
  (four : trips.length = 4) (bounded : ∀ r ∈ trips, r ≤ 200)
include high running four bounded

theorem execSnapshotComplete_eq : execSnapshotComplete trips s = .next (keepFixed s true
    (((List.range 4).foldl (readCapture x trips) ([], s)).2.onClk fun c => { c with
      running := none, snap := [x.issued % 2 ^ 61] ++ ((List.range 4).foldl (readCapture x trips) ([], s)).1 ++ tripsShown x trips })) := by
  have accepted : (trips.length ≠ 4 || trips.any fun r => decide (200 < r)) = false := by simpa [four] using bounded
  rw [execSnapshotComplete, whenReleased_high high]
  simp only [running, accepted]
  rfl

/-- The completion of a running snapshot: the values it shows, and the rest of the clocks as they were. -/
theorem execSnapshotComplete_shows : ∃ caps t, List.Forall₂ (CaptureReads x trips) (List.range 4) caps ∧
    execSnapshotComplete trips s = .next t ∧
    t.clk = { s.clk with running := none, snap := [x.issued % 2 ^ 61] ++ caps ++ tripsShown x trips } := by
  obtain ⟨caps, reads, shown, clk⟩ := foldl_readCapture x trips (List.range 4) ([], s)
  refine ⟨caps, _, reads, execSnapshotComplete_eq high running four bounded, ?_⟩
  simp only [keepFixed_clk, State.onClk_clk, shown, clk, List.nil_append]

end

theorem captureReads_nth {x : Snapshot} {trips caps : List Nat} (reads : List.Forall₂ (CaptureReads x trips) (List.range 4) caps)
    {q : Nat} (h : q < 4) : CaptureReads x trips q (nth caps q 0) := by
  obtain ⟨len, each⟩ := List.forall₂_iff_get.mp reads
  have here : q < caps.length := by rw [← len]; simpa using h
  simpa [nth, here] using each q (by simpa using h) here

/-- The values shown hold the issue's time, then the four captures, then the four round trips (object 0x1203:02 to 0x1203:0A). -/
theorem nth_shown_capture (i : Nat) {caps : List Nat} (shown : List Nat) (four : caps.length = 4) {q : Nat} (h : q < 4) :
    nth ([i] ++ caps ++ shown) (q + 1) 0 = nth caps q 0 := by
  simp [nth, List.getElem?_append_left (four.symm ▸ h : q < caps.length)]

theorem nth_shown_trip (i : Nat) {caps : List Nat} (shown : List Nat) (four : caps.length = 4) (q : Nat) :
    nth ([i] ++ caps ++ shown) (q + 5) 0 = nth shown q 0 := by
  simp [nth, List.getElem?_append_right (show caps.length ≤ q + 4 by omega), four]

/-- Settles O15: a start captures, and the completion shows for each capture a time of its round trip. -/
theorem snapshotsRunAndComplete : Obligations.SnapshotsRunAndComplete := by
  unfold Obligations.SnapshotsRunAndComplete
  refine ⟨fun src s high may => ⟨whenReleased_wrote true high may objRow_snapshot (performWrite_snapshot src true), fun x => ?_⟩,
    fun trips s x high running four bounded => ?_⟩
  · obtain ⟨snap, hub⟩ := startSnapshot_keeps x
    refine ⟨snap, hub, startSnapshot_busy, fun idle => ⟨capturesOf x, ?_, fun q hq => nth_capturesOf x hq⟩⟩
    rw [startSnapshot_idle idle]
    rfl
  · obtain ⟨caps, t, reads, answer, clk⟩ := execSnapshotComplete_shows high running four bounded
    have lenCaps : caps.length = 4 := reads.length_eq.symm
    refine ⟨t, answer, ?_, ?_, ?_, ?_, ?_, ?_, fun q hq => ?_⟩
    all_goals rw [clk]
    · simp [lenCaps, tripsShown]
    · simp [nth]
    · obtain ⟨absent, present⟩ := captureReads_nth reads hq
      rw [nth_shown_capture _ _ lenCaps hq, nth_shown_trip _ _ lenCaps q, nth_tripsShown x trips hq]
      exact ⟨fun h => ⟨absent h, by simp [h]⟩, fun c h => ⟨by simp [h], present c h⟩⟩

end Sys2Proof.Machine
end

section
/-!
What the traffic of requests and commands leaves alone: the part of the state that no request, unit of the tree, channel command or
notice changes, and for each operation of that traffic the fact that it keeps this part.
-/
namespace Sys2Proof.Machine

/-- A quadrant without what the traffic of requests and commands counts in it: its row-hammer epochs, its NRFs, its offenders. -/
def Quad.calm (k : Quad) : Quad := { k with epochs := 0, nrfs := 0, offenders := (0, 0, 0) }

/-- The part of the state that the traffic of requests and commands leaves alone: every field that it can change is blanked, but for
the number of ports and of stacks, and for the quadrants' own states. -/
def steady (s : State) : State :=
  { s with nor := {}, map := {}, ports := s.ports.map fun _ => {}, eng := {}, reqs := [], nextReq := 0, reg := {}, tree := {},
           chans := [], stk := s.stk.map fun _ => {}, mem := [], touch := [], rehomes := [], codec := {}, engines := {}, fabric := {},
           quads := s.quads.map Quad.calm, power := {}, svc := {}, cnt := {}, draw := 0 }

theorem steady_forEach {α : Type} {f : α → State → State} (turn : ∀ x s, steady (f x s) = steady s) (xs : List α) (s : State) :
    steady (forEach xs f s) = steady s := forEach_same steady turn xs s

/-- A value of each element that a change of one element keeps. -/
theorem map_modNth {α β : Type} (g : α → β) {f : α → α} (hf : ∀ x, g (f x) = g x) (xs : List α) (n : Nat) :
    (modNth xs n f).map g = xs.map g := by
  unfold modNth
  induction xs generalizing n with
  | nil => simp
  | cons x xs ih => cases n <;> simp [hf, ih]

/-! ### What other states with the same steady part have in common -/

theorem nth_map {α β : Type} (g : α → β) (xs : List α) (n : Nat) (d : α) : nth (xs.map g) n (g d) = g (nth xs n d) := by
  simp only [nth, List.getD_eq_getElem?_getD, List.getElem?_map]
  cases xs[n]? <;> rfl

section
variable {s t : State} (same : steady t = steady s)
include same

theorem clk_of_steady : t.clk = s.clk := by
  change (steady t).clk = (steady s).clk
  rw [same]

theorem quads_length_of_steady : t.quads.length = s.quads.length := by
  simpa [steady] using congrArg (fun x : State => x.quads.length) same

theorem lostAt_of_steady (q : Nat) : (quadAt t q).lostAt = (quadAt s q).lostAt := by
  have calm : ∀ x : State, (nth (steady x).quads q (Quad.calm {})).lostAt = (quadAt x q).lostAt := fun x => by
    rw [show (steady x).quads = x.quads.map Quad.calm from rfl, nth_map]
    rfl
  rw [← calm, ← calm, same]

end

/-! ### Updates of one part of the state -/

@[simp] theorem steady_drawn (s : State) : steady s.drawn = steady s := by rfl
@[simp] theorem steady_onReg (f) (s : State) : steady (s.onReg f) = steady s := by rfl
@[simp] theorem steady_onEngines (f) (s : State) : steady (s.onEngines f) = steady s := by rfl
@[simp] theorem steady_onFabric (f) (s : State) : steady (s.onFabric f) = steady s := by rfl
@[simp] theorem steady_onRehomes (f) (s : State) : steady (s.onRehomes f) = steady s := by rfl
@[simp] theorem steady_onCodec (f) (s : State) : steady (s.onCodec f) = steady s := by rfl
@[simp] theorem steady_onChans (f) (s : State) : steady (s.onChans f) = steady s := by rfl
@[simp] theorem steady_onPower (f) (s : State) : steady (s.onPower f) = steady s := by rfl
@[simp] theorem steady_onTouch (f) (s : State) : steady (s.onTouch f) = steady s := by rfl

@[simp] theorem steady_updPort (p : Nat) (f : Port → Port) (s : State) : steady (updPort p f s) = steady s := by
  unfold updPort
  split
  · simp [steady, State.onPorts, map_modNth]
  · rfl

@[simp] theorem steady_updStack (n : Nat) (f : Stack → Stack) (s : State) : steady (updStack n f s) = steady s := by
  simp [steady, updStack, State.onStk, map_modNth]

theorem steady_updQuad (q : Nat) {f : Quad → Quad} (hf : ∀ k, (f k).calm = k.calm) (s : State) : steady (updQuad q f s) = steady s := by
  simp [steady, updQuad, State.onQuads, map_modNth Quad.calm hf]

@[simp] theorem steady_journal (k : Nat) (b : Bytes) (s : State) : steady (journal k b s) = steady s := by
  unfold journal
  extract_lets
  (repeat' split) <;> rfl

@[simp] theorem steady_raiseBut (skip : Nat) (n : Notice) (s : State) : steady (raiseBut skip n s) = steady s :=
  raiseBut_same steady (fun _ _ _ => rfl) steady_updPort steady_journal skip n s

@[simp] theorem steady_notify (d : Die) (c v : Nat) (b : Bytes) (s : State) : steady (notify d c v b s) = steady s := steady_raiseBut _ _ _

/-! ### Requests, responses, notices and stored bytes -/

@[simp] theorem steady_updEntry (e : Nat) (f : RegEntry → RegEntry) (s : State) : steady (updEntry e f s) = steady s := by rfl
@[simp] theorem steady_updChan (c : Nat) (f : Chan → Chan) (s : State) : steady (updChan c f s) = steady s := by rfl
@[simp] theorem steady_bump (index sub n : Nat) (s : State) : steady (bump index sub n s) = steady s := by
  unfold bump
  split <;> rfl

@[simp] theorem steady_updReq (id : Nat) (f : Req → Req) (s : State) : steady (updReq id f s) = steady s := by rfl
@[simp] theorem steady_updPart (id n : Nat) (f : Part → Part) (s : State) : steady (updPart id n f s) = steady s := by rfl
@[simp] theorem steady_addReq (r : Req) (s : State) : steady (addReq r s) = steady s := by rfl
@[simp] theorem steady_dropReq (id : Nat) (s : State) : steady (dropReq id s) = steady s := by rfl
@[simp] theorem steady_freeTag (p tag : Nat) (s : State) : steady (freeTag p tag s) = steady s := by simp [freeTag]

@[simp] theorem steady_serveCollective (p bytes : Nat) (places : List Nat) (s : State) :
    steady (serveCollective p bytes places s) = steady s := by simp [serveCollective]

@[simp] theorem steady_serveRequest (q : Req) (r : Resp) (s : State) : steady (serveRequest q r s) = steady s := by
  unfold serveRequest
  split <;> simp

@[simp] theorem steady_endResponse (p : Nat) (r : Resp) (s : State) : steady (endResponse p r s) = steady s := by
  unfold endResponse
  (repeat' split) <;> simp

@[simp] theorem steady_respond (p : Nat) (r : Resp) (s : State) : steady (respond p r s) = steady s := by
  unfold respond
  (repeat' split) <;> simp

@[simp] theorem steady_lastError (p status opcode : Nat) (r : Request) (s : State) :
    steady (lastError p status opcode r s) = steady s := by simp [lastError]

@[simp] theorem steady_putSlot (c bank row slot : Nat) (v : Slot) (s : State) : steady (putSlot c bank row slot v s) = steady s := by rfl
@[simp] theorem steady_lineDue (key : Nat) (s : State) : steady (lineDue key s) = steady s := by rfl
@[simp] theorem steady_setTouch (gch bank row : Nat) (s : State) : steady (setTouch gch bank row s) = steady s := by
  unfold setTouch
  extract_lets
  (repeat' split) <;> simp +zetaDelta

@[simp] theorem steady_setSw (c word v : Nat) (s : State) : steady (setSw c word v s) = steady s := by simp [setSw]

/-! ### Rows as they are stored -/

@[simp] theorem steady_putParity (a : RowAt) (st : Nat) (parity : Bytes) (s : State) : steady (putParity a st parity s) = steady s := by
  simp [putParity, steady_forEach]

@[simp] theorem steady_pushWritten (a : RowAt) (st : Nat) (s : State) : steady (pushWritten a st s) = steady s := by rfl
@[simp] theorem steady_writeRow (a : RowAt) (st : Nat) (sectors : List (Bytes × Nat)) (s : State) :
    steady (writeRow a st sectors s) = steady s := by simp [writeRow, steady_forEach]

@[simp] theorem steady_initRow (a : RowAt) (asked : Nat) (given : List (Nat × Bytes × Nat)) (s : State) :
    steady (initRow a asked given s) = steady s := by simp [initRow, steady_forEach]

@[simp] theorem steady_putSector (a : RowAt) (i : Nat) (new : Bytes × Nat) (s : State) : steady (putSector a i new s) = steady s := by
  unfold putSector
  extract_lets
  (repeat' split) <;> simp +zetaDelta

@[simp] theorem steady_writeFrame (a : RowAt) (i0 st : Nat) (mine : List (Bytes × Nat)) (s : State) :
    steady (writeFrame a i0 st mine s) = steady s := by
  unfold writeFrame
  split <;> simp

@[simp] theorem steady_writeHomes (g bank row st : Nat) (v : List (Bytes × Nat)) (s : State) :
    steady (writeHomes g bank row st v s) = steady s := by
  unfold writeHomes
  extract_lets
  refine steady_forEach (fun j t => ?_) _ _
  split <;> simp

@[simp] theorem steady_rebuildRow (r : Nat × Nat × Nat) (s : State) : steady (rebuildRow r s) = steady s := by
  obtain ⟨g, bank, row⟩ := r
  unfold rebuildRow
  dsimp only
  split <;> simp +zetaDelta

@[simp] theorem steady_ensureBuilt (a : RowAt) (s : State) : steady (ensureBuilt a s) = steady s := by simp [ensureBuilt, steady_forEach]

@[simp] theorem steady_sayShort (a : RowAt) (st top want : Nat) (s : State) : steady (sayShort a st top want s) = steady s := by
  unfold sayShort
  extract_lets
  (repeat' split) <;> simp +zetaDelta

@[simp] theorem steady_raiseStrength (a : RowAt) (want : Nat) (s : State) : steady (raiseStrength a want s) = steady s := by
  unfold raiseStrength
  extract_lets st top r t
  have ht : steady t = steady s := by
    unfold t
    (repeat' split) <;> simp
  split
  · rfl
  · simp [ht]

@[simp] theorem steady_storeHere (a : RowAt) (i : Nat) (want : Nat) (f : Bytes × Nat → Bytes × Nat) (s : State) :
    steady (storeHere a i want f s) = steady s := by
  unfold storeHere
  extract_lets t prior u
  have hu : steady u = steady s := by simp [u, t, steady_forEach]
  split
  · refine (steady_forEach (fun b v => ?_) _ _).trans hu
    split <;> simp
  · simp [hu]

@[simp] theorem steady_storeSector (a : RowAt) (i : Nat) (want : Nat) (f : Bytes × Nat → Bytes × Nat) (s : State) :
    steady (storeSector a i want f s) = steady s := by
  unfold storeSector
  split <;> simp

/-! ### The arbiter tree -/

@[simp] theorem steady_updArb (k : Nat) (f : Arbiter → Arbiter) (s : State) : steady (updArb k f s) = steady s := by rfl
@[simp] theorem steady_onUnits (f : List TUnit → List TUnit) (s : State) : steady (onUnits f s) = steady s := by rfl
@[simp] theorem steady_addUnit (u : TUnit) (s : State) : steady (addUnit u s) = steady s := by rfl
@[simp] theorem steady_addJob (c gch input : Nat) (j : Job) (s : State) : steady (addJob c gch input j s) = steady s := by rfl
@[simp] theorem steady_addCopies (id : Nat) (p : Part) (s : State) : steady (addCopies id p s) = steady s := by
  unfold addCopies
  (repeat' split) <;> simp

@[simp] theorem steady_placeParts (r : Req) (s : State) : steady (placeParts r s) = steady s := by
  unfold placeParts
  extract_lets
  refine steady_forEach (fun l t => ?_) _ _
  dsimp only
  split
  · rfl
  · split
    · rfl
    · simp [steady_forEach]

@[simp] theorem steady_placeReq (r : Req) (s : State) : steady (placeReq r s) = steady s := by
  unfold placeReq
  extract_lets
  (repeat' split) <;> simp +zetaDelta

@[simp] theorem steady_pumpHub (s : State) : steady (pumpHub s) = steady s := by
  unfold pumpHub
  refine steady_forEach (fun id t => ?_) _ _
  split <;> simp

@[simp] theorem steady_lapseTicket (k : Nat) (s : State) : steady (lapseTicket k s) = steady s := by
  unfold lapseTicket
  (repeat' split) <;> simp

@[simp] theorem steady_lapseTickets (s : State) : steady (lapseTickets s) = steady s := by simp [lapseTickets, steady_forEach]

/-! ### Basket -/

@[simp] theorem steady_flushLine (l : Line) (forced : Bool) (s : State) : steady (flushLine l forced s) = steady s := by simp [flushLine]

@[simp] theorem steady_flushWhere (forced : Bool) (p : Line → Bool) (s : State) : steady (flushWhere forced p s) = steady s := by
  simp [flushWhere, steady_forEach]

@[simp] theorem steady_joinLine (r : Req) (s : State) : steady (joinLine r s) = steady s := by
  unfold joinLine
  extract_lets
  (repeat' split) <;> simp +zetaDelta

@[simp] theorem steady_openLine (r : Req) (s : State) : steady (openLine r s) = steady s := by rfl
@[simp] theorem steady_basketFull (r : Req) (s : State) : steady (basketFull r s) = steady s := by
  unfold basketFull
  extract_lets
  (repeat' split) <;> simp +zetaDelta

@[simp] theorem steady_makeRoom (r : Req) (s : State) : steady (makeRoom r s) = steady s := by
  unfold makeRoom
  (repeat' split) <;> simp

@[simp] theorem steady_placeInBasket (r : Req) (s : State) : steady (placeInBasket r s).1 = steady s := by
  unfold placeInBasket
  extract_lets
  split
  · rfl
  · split
    · split
      · simp
      · extract_lets
        split <;> simp +zetaDelta
    · split
      · rfl
      · split <;> simp +zetaDelta

@[simp] theorem steady_bypassBasket (rs : List Req) (s : State) : steady (bypassBasket rs s) = steady s := by simp [bypassBasket]

/-! ### Regulation -/

@[simp] theorem steady_returnFlits (p : Nat) (ids : List Nat) (s : State) : steady (returnFlits p ids s) = steady s := by
  simp [returnFlits, steady_forEach]

@[simp] theorem steady_acceptOuting (r : Req) (q i : Nat) (s : State) : steady (acceptOuting r q i s) = steady s := by rfl
@[simp] theorem steady_sendOn (r : Req) (s : State) : steady (sendOn r s).1 = steady s := by
  unfold sendOn
  extract_lets
  (repeat' split) <;> simp +zetaDelta

@[simp] theorem steady_endSamples (s : State) : steady (endSamples s) = steady s := by
  unfold endSamples
  extract_lets
  (repeat' split) <;> simp +zetaDelta

@[simp] theorem steady_releaseHead (e : Nat) (r : Req) (cls : Nat) (s : State) : steady (releaseHead e r cls s) = steady s := by
  simp [releaseHead, steady_forEach]

@[simp] theorem steady_examineOnce (e : Nat) (s : State) : steady (examineOnce e s).1 = steady s := by
  unfold examineOnce
  split
  · rfl
  · extract_lets t free gate verdict
    clear_value gate verdict
    split
    · simp +zetaDelta
    · split
      · dsimp only
        split <;> simp +zetaDelta
      · simp +zetaDelta

@[simp] theorem steady_examineQueue (e : Nat) (s : State) : steady (examineQueue e s) = steady s := by
  suffices h : ∀ n t, steady (examineQueue.go e n t) = steady t from h _ s
  intro n
  induction n with
  | zero => exact fun _ => rfl
  | succ n ih =>
    intro t
    unfold examineQueue.go
    dsimp only
    split <;> simp [ih]

@[simp] theorem steady_examineStuck (s : State) : steady (examineStuck s) = steady s := by
  unfold examineStuck
  refine steady_forEach (fun i t => ?_) _ _
  split <;> simp

@[simp] theorem steady_examine (e : Nat) (s : State) : steady (examine e s) = steady s := by
  unfold examine
  split <;> simp

@[simp] theorem steady_enterQueue (id : Nat) (s : State) : steady (enterQueue id s) = steady s := by
  unfold enterQueue
  split
  · rfl
  · extract_lets
    split <;> simp +zetaDelta [steady_forEach]

@[simp] theorem steady_endLatencyWindow (entry : Nat) (s : State) : steady (endLatencyWindow entry s) = steady s := by
  unfold endLatencyWindow
  extract_lets
  (repeat' split) <;> simp +zetaDelta

@[simp] theorem steady_recordLatency (e : Nat) (since : Option Nat) (s : State) : steady (recordLatency e since s) = steady s := by
  unfold recordLatency
  split <;> simp

/-! ### The engines' requests -/

@[simp] theorem steady_updOuting (q i : Nat) (f : Outing → Outing) (s : State) : steady (updOuting q i f s) = steady s := by rfl
@[simp] theorem steady_updActive (q i idx : Nat) (f : Active → Active) (s : State) : steady (updActive q i idx f s) = steady s := by rfl
@[simp] theorem steady_failDesc (q i idx err : Nat) (s : State) : steady (failDesc q i idx err s) = steady s := by
  unfold failDesc
  (repeat' split) <;> simp

@[simp] theorem steady_endDesc (q i idx : Nat) (s : State) : steady (endDesc q i idx s) = steady s := by
  unfold endDesc
  split <;> simp

@[simp] theorem steady_engIssue (w : Req) (s : State) : steady (engIssue w s) = steady s := by simp [engIssue]

@[simp] theorem steady_dueFails (q i idx err : Nat) (s : State) : steady (dueFails q i idx err s) = steady s := by
  unfold dueFails
  extract_lets
  (repeat' split) <;> simp +zetaDelta

@[simp] theorem steady_issueDue (q i idx : Nat) (s : State) : steady (issueDue q i idx s) = steady s := by
  unfold issueDue
  split
  · rfl
  · split
    extract_lets
    split
    · rfl
    · split
      · split <;> simp
      · simp +zetaDelta

@[simp] theorem steady_pumpDue (s : State) : steady (pumpDue s) = steady s := by simp [pumpDue, steady_forEach]

@[simp] theorem steady_updMove (seg : Nat) (f : Move → Move) (s : State) : steady (updMove seg f s) = steady s := by rfl
@[simp] theorem steady_moveRead (r : Req) (err : Nat) (s : State) : steady (moveRead r err s) = steady s := by
  unfold moveRead
  (repeat' split) <;> simp

@[simp] theorem steady_updRehome (g : Nat) (f : Rehome → Rehome) (s : State) : steady (updRehome g f s) = steady s := by rfl
@[simp] theorem steady_frameRead (r : Req) (err : Nat) (s : State) : steady (frameRead r err s) = steady s := by
  unfold frameRead
  (repeat' split) <;> simp

@[simp] theorem steady_engOver (r : Req) (s : State) : steady (engOver r s) = steady s := by
  unfold engOver
  extract_lets q idx t u
  have ht : steady t = steady s := by
    unfold t
    split <;> simp
  have hu : steady u = steady t := by
    unfold u
    (repeat' split) <;> simp
  simp [hu, ht]

@[simp] theorem steady_engReadDone (r : Req) (err : Nat) (s : State) : steady (engReadDone r err s) = steady s := by
  unfold engReadDone
  split <;> simp

/-! ### Held requests and locked sequences -/

@[simp] theorem steady_wakeHeld (p : Nat) (s : State) : steady (wakeHeld p s) = steady s := by
  unfold wakeHeld
  refine steady_forEach (fun id t => ?_) _ _
  split
  · split <;> simp
  · rfl

@[simp] theorem steady_answerMember (p : Nat) (m : Nat × Option Nat) (s : State) : steady (answerMember p m s) = steady s := by
  unfold answerMember
  split <;> simp

end Sys2Proof.Machine
end

section
/-!
What the channels' commands, units and returning data leave alone: each operation keeps the steady part of the state.
-/
namespace Sys2Proof.Machine

/-! ### What a channel's units bring in and give back -/

@[simp] theorem steady_answerPart (id n : Nat) (s : State) : steady (answerPart id n s) = steady s := by
  unfold answerPart
  split
  · rfl
  · split
    · rfl
    · extract_lets final t u v
      have hu : steady u = steady s := by
        unfold u
        split <;> simp [t]
      have hv : steady v = steady s := by simp [v, hu]
      split
      · split <;> simp [hu]
      · split <;> simp [hv]

@[simp] theorem steady_deliverSector (id n k : Nat) (v : Bytes × Nat) (fixed : Bool) (s : State) :
    steady (deliverSector id n k v fixed s) = steady s := by
  unfold deliverSector
  (repeat' split) <;> simp

@[simp] theorem steady_releaseTouch (id n : Nat) (s : State) : steady (releaseTouch id n s) = steady s := by
  unfold releaseTouch
  (repeat' split) <;> simp

@[simp] theorem steady_sendXor (id : Option Nat) (t : RowAt × Nat) (data : Bytes) (mask : Nat) (flip : Bool)
    (guard input strength : Nat) (s : State) :
    steady (sendXor id t data mask flip guard input strength s) = steady s := by
  unfold sendXor
  split <;> simp

@[simp] theorem steady_sendGuard (id : Option Nat) (pl : Place) (G k strength : Nat) (old new : Bytes × Nat) (s : State) :
    steady (sendGuard id pl G k strength old new s) = steady s := by
  unfold sendGuard
  (repeat' split) <;> simp

@[simp] theorem steady_sendSum (id : Option Nat) (pl : Place) (G k : Nat) (old new : Bytes × Nat) (s : State) :
    steady (sendSum id pl G k old new s) = steady s := by
  unfold sendSum
  extract_lets
  (repeat' split) <;> simp

@[simp] theorem steady_sendDeltas (id : Option Nat) (e : Entry) (G k : Nat) (old new : Bytes × Nat) (s : State) :
    steady (sendDeltas id e G k old new s) = steady s := by
  unfold sendDeltas
  (repeat' split) <;> simp

@[simp] theorem steady_enterSect (a : RowAt) (e : Sect) (s : State) : steady (enterSect a e s) = steady s := by
  unfold enterSect
  extract_lets
  (repeat' split) <;> simp +zetaDelta [steady_forEach]

@[simp] theorem steady_landWrite (r : Req) (en : Entry) (G k8 : Nat) (at_ : Option (RowAt × Nat)) (e : Sect) (s : State) :
    steady (landWrite r en G k8 at_ e s) = steady s := by
  unfold landWrite
  extract_lets
  (repeat' split) <;> simp +zetaDelta

@[simp] theorem steady_writeSector (r : Req) (p : Part) (k : Nat) (e : Sect) (s : State) : steady (writeSector r p k e s) = steady s := by
  simp [writeSector]

@[simp] theorem steady_sendMirror (r : Req) (p : Part) (k : Nat) (e : Sect) (s : State) : steady (sendMirror r p k e s) = steady s := by
  unfold sendMirror
  extract_lets
  refine steady_forEach (fun en t => ?_) _ _
  split <;> simp

@[simp] theorem steady_readStripe (a : RowAt) (i : Nat) (s : State) : steady (readStripe a i s) = steady s := by
  simp [readStripe, steady_forEach]

@[simp] theorem steady_finishAtomic (c id n : Nat) (s : State) : steady (finishAtomic c id n s) = steady s := by
  unfold finishAtomic
  split
  · rfl
  · extract_lets
    split
    · rfl
    · (repeat' split) <;> simp +zetaDelta

@[simp] theorem steady_storePart (r : Req) (p : Part) (k : Nat) (f : Bytes × Nat → Bytes × Bool) (s : State) :
    steady (storePart r p k f s) = steady s := by
  unfold storePart
  extract_lets
  split
  · simp
  · extract_lets
    split <;> simp +zetaDelta

@[simp] theorem steady_runPart (id n : Nat) (s : State) : steady (runPart id n s) = steady s := by
  unfold runPart
  split
  · rfl
  · extract_lets
    split
    · simp [steady_forEach]
    · split
      · split
        · simp +zetaDelta
        · rw [steady_bump, steady_updPart, steady_forEach]
          · simp +zetaDelta
          · intro k t
            split <;> simp
      · rw [steady_updPart, steady_forEach]
        intro k t
        split <;> simp

@[simp] theorem steady_runMember (id : Nat) (s : State) : steady (runMember id s) = steady s := by
  unfold runMember
  split <;> simp [steady_forEach]

@[simp] theorem steady_runMembers (id : Nat) (s : State) : steady (runMembers id s) = steady s := by
  unfold runMembers
  extract_lets ids t hits
  have ht : steady t = steady s := by simp [t, steady_forEach]
  clear_value hits
  split <;> simp [steady_forEach, ht]

@[simp] theorem steady_enterOne (u : TUnit) (e : Sect) (s : State) : steady (enterOne u e s) = steady s := by
  unfold enterOne
  extract_lets a part t
  have entered : steady t = steady s := by
    unfold t
    split <;> simp
  split
  · simp
  · split <;> simp [entered]

@[simp] theorem steady_enterSects (u : TUnit) (s : State) : steady (enterSects u s) = steady s := by
  unfold enterSects
  (repeat' split) <;> simp [steady_forEach]

/-! ### Commands to a channel -/

@[simp] theorem steady_epochAt (q k : Nat) (s : State) : steady (epochAt q k s) = steady s := by
  unfold epochAt
  refine steady_forEach (fun u t => ?_) _ _
  dsimp only
  split <;> simp

@[simp] theorem steady_endEpoch (q : Nat) (s : State) : steady (endEpoch q s) = steady s := by
  unfold endEpoch
  extract_lets
  split
  · rfl
  · rw [steady_forEach fun k t => steady_epochAt q k t]
    exact steady_updQuad q (fun _ => by rfl) s

@[simp] theorem steady_doAct (c bank row : Nat) (req : Option Nat) (s : State) : steady (doAct c bank row req s) = steady s := by
  simp [doAct]

@[simp] theorem steady_doWr (c bank : Nat) (auto : Bool) (s : State) : steady (doWr c bank auto s) = steady s := by rfl
@[simp] theorem steady_noticeChannel (c : Nat) (s : State) : steady (noticeChannel c s).2 = steady s := by
  unfold noticeChannel
  split <;> simp

@[simp] theorem steady_offend (c bank row : Nat) (blame : Nat × Nat) (s : State) : steady (offend c bank row blame s) = steady s := by
  unfold offend
  extract_lets q now t
  have ht : steady t = steady s := by simp [t]
  split
  extract_lets used u
  have hu : steady u = steady t := steady_updQuad q (fun _ => by rfl) t
  split
  · rw [hu, ht]
  · simp [hu, ht]

@[simp] theorem steady_doNrf (c bank row : Nat) (s : State) : steady (doNrf c bank row s) = steady s := by
  unfold doNrf
  extract_lets t n b blame k u v
  have hv : steady v = steady s := by
    refine (steady_updQuad _ (fun _ => by rfl) _).trans ?_
    simp [u, t]
  split <;> simp [hv]

@[simp] theorem steady_doRef (c bank : Nat) (s : State) : steady (doRef c bank s) = steady s := by rfl
@[simp] theorem steady_doSww (c word value : Nat) (s : State) : steady (doSww c word value s) = steady s := by simp [doSww]

@[simp] theorem steady_passTo (c : Nat) (favoured : Bool) (m : Cmd) (s : State) : steady (passTo c favoured m s) = steady s := by
  simp [passTo]

@[simp] theorem steady_doPrea (c : Nat) (s : State) : steady (doPrea c s) = steady s := by rfl
@[simp] theorem steady_doCmd (c : Nat) (m : Cmd) (req : Option Nat) (s : State) : steady (doCmd c m req s) = steady s := by
  unfold doCmd
  split <;> simp

@[simp] theorem steady_sendAs (favoured : Bool) (c : Nat) (m : Cmd) (s : State) : steady (sendAs favoured c m s) = steady s := by
  simp [sendAs]

@[simp] theorem steady_sendNow (c : Nat) (m : Cmd) (s : State) : steady (sendNow c m s) = steady s := by simp [sendNow]

@[simp] theorem steady_sendParity (c bank row st : Nat) (s : State) : steady (sendParity c bank row st s) = steady s := by
  simp [sendParity, steady_forEach]

/-! ### Units of work -/

@[simp] theorem steady_rewriteRow (a : RowAt) (r : RowRead) (over_ : List Sect) (s : State) :
    steady (rewriteRow a r over_ s) = steady s := by simp [rewriteRow]

@[simp] theorem steady_dropWrites (c : Nat) (p : Sect → Bool) (s : State) : steady (dropWrites c p s) = steady s := by rfl
@[simp] theorem steady_unitStore (c g : Nat) (u : ChanUnit) (s : State) : steady (unitStore c g u s) = steady s := by
  unfold unitStore
  extract_lets
  (repeat' split) <;> simp +zetaDelta

@[simp] theorem steady_updUnit (c : Nat) (u : ChanUnit) (f : ChanUnit → ChanUnit) (s : State) :
    steady (updUnit c u f s) = steady s := by rfl
@[simp] theorem steady_settleUnits (c : Nat) (s : State) : steady (settleUnits c s) = steady s := by
  unfold settleUnits
  split
  · rfl
  · extract_lets
    refine steady_forEach (fun u t => ?_) _ _
    extract_lets
    (repeat' split) <;> simp +zetaDelta

/-! ### Bursts that return -/

@[simp] theorem steady_escalate (a : RowAt) (seqs : List Nat) (s : State) : steady (escalate a seqs s) = steady s := by
  unfold escalate
  extract_lets
  (repeat' split) <;> simp +zetaDelta

@[simp] theorem steady_serveMerged (c g : Nat) (bank row slot : Nat) (old : Bytes × Nat) (s : State) :
    steady (serveMerged c g bank row slot old s) = steady s := by
  unfold serveMerged
  extract_lets
  refine steady_forEach (fun e t => ?_) _ _
  extract_lets
  split
  · simp +zetaDelta
  · rfl

@[simp] theorem steady_entryValue (c g seq : Nat) (v : Bytes × Nat) (fixed : Bool) (s : State) :
    steady (entryValue c g seq v fixed s) = steady s := by
  unfold entryValue
  extract_lets
  (repeat' split) <;> simp +zetaDelta

@[simp] theorem steady_burstArrives (c : Nat) (b : Burst) (v : Slot) (s : State) : steady (burstArrives c b v s) = steady s := by
  unfold burstArrives
  extract_lets g a blank ok t
  have ht : steady t = steady s := by
    unfold t
    split <;> simp
  split
  · (repeat' split) <;> simp [ht]
  · split
    · exact ht
    · (repeat' split) <;> simp [steady_forEach, ht]

@[simp] theorem steady_countCorrected (c : Nat) (lanes : List Nat) (s : State) : steady (countCorrected c lanes s) = steady s := by
  simp [countCorrected]

@[simp] theorem steady_countUncorrectable (a : RowAt) (bad lost : List Nat) (s : State) :
    steady (countUncorrectable a bad lost s) = steady s := by
  unfold countUncorrectable
  extract_lets
  (repeat' split) <;> simp +zetaDelta

@[simp] theorem steady_finishEscalation (a : RowAt) (u : ChanUnit) (s : State) : steady (finishEscalation a u s) = steady s := by
  unfold finishEscalation
  extract_lets r t seqs slotOfSeq t' got lost u v value writes held w
  have ht : steady t = steady s := by simp [t]
  have ht' : steady t' = steady s := by
    unfold t'
    split <;> simp [ht]
  have hu : steady u = steady s := by
    refine (steady_forEach (fun i x => ?_) _ _).trans ht
    split <;> simp
  have hv : steady v = steady s := by simp [v, hu]
  have hw : steady w = steady s := by
    refine (steady_forEach (fun q x => ?_) _ _).trans hv
    (repeat' split) <;> simp
  split
  · refine (steady_forEach (fun q x => ?_) _ _).trans ht'
    split <;> simp
  · split <;> simp [hw]

/-! ### Accumulators, precharge and refresh -/

@[simp] theorem steady_flushAccum (c : Nat) (u : Accum) (s : State) : steady (flushAccum c u s) = steady s := by
  unfold flushAccum
  split <;> simp

@[simp] theorem steady_flushAccums (c : Nat) (s : State) : steady (flushAccums c s) = steady s := by simp [flushAccums, steady_forEach]

@[simp] theorem steady_prechargeAll (c : Nat) (s : State) : steady (prechargeAll c s) = steady s := by
  unfold prechargeAll
  split <;> simp

@[simp] theorem steady_closeBank (c b : Nat) (s : State) : steady (closeBank c b s) = steady s := by
  unfold closeBank
  split <;> simp [steady_forEach]

@[simp] theorem steady_issueOwed (c least : Nat) (s : State) : steady (issueOwed c least s) = steady s := by
  simp [issueOwed, steady_forEach]

@[simp] theorem steady_completeUnit (c g : Nat) (u : ChanUnit) (s : State) : steady (completeUnit c g u s) = steady s := by
  unfold completeUnit
  extract_lets reads writes n t v done w
  have hv : steady v = steady s := by
    unfold v
    split <;> simp [t]
  split <;> simp [w, hv]

@[simp] theorem steady_enterSelfRefresh (c : Nat) (s : State) : steady (enterSelfRefresh c s) = steady s := by
  unfold enterSelfRefresh
  split <;> simp

/-! ### A quadrant at rest (R450) -/

@[simp] theorem steady_completeAtomics (c g : Nat) (s : State) : steady (completeAtomics c g s) = steady s := by
  simp [completeAtomics, steady_forEach]

@[simp] theorem steady_completeOnce (c g : Nat) (s : State) : steady (completeOnce c g s) = steady s := by
  simp [completeOnce, steady_forEach]

@[simp] theorem steady_completeChannel (c : Nat) (s : State) : steady (completeChannel c s) = steady s := by
  unfold completeChannel
  split <;> simp

@[simp] theorem steady_enterBacks (q : Nat) (s : State) : steady (enterBacks q s) = steady s := by simp [enterBacks, steady_forEach]

@[simp] theorem steady_restQuad (q : Nat) (s : State) : steady (restQuad q s) = steady s := by simp [restQuad, steady_forEach]

end Sys2Proof.Machine
end

section
/-!
A reference that is lost or restored (R47, R450).
-/
namespace Sys2Proof.Machine

theorem nth_modNth_same {α : Type} {xs : List α} {n : Nat} (h : n < xs.length) (f : α → α) (d : α) :
    nth (modNth xs n f) n d = f (nth xs n d) := by
  simp [nth, modNth, h]

theorem nth_modNth_other {α : Type} {n k : Nat} (h : k ≠ n) (xs : List α) (f : α → α) (d : α) :
    nth (modNth xs n f) k d = nth xs k d := by
  simp [nth, modNth, h.symm]

theorem quadAt_updQuad_same {q : Nat} {s : State} (h : q < s.quads.length) (f : Quad → Quad) :
    quadAt (updQuad q f s) q = f (quadAt s q) := nth_modNth_same h f {}

theorem dieNo_lt (die : Die) : dieNo die < 5 := by
  cases die with
  | hub => decide
  | med q => simp only [dieNo]; omega

/-- A die's bit of object 0x1202 takes a value. -/
def setLost (die : Die) (v : Bool) (s : State) : State := s.onClk fun c => { c with lost := modNth c.lost (dieNo die) fun _ => v }

section
variable (die : Die) (v : Bool) (s : State)

theorem setLost_same (five : s.clk.lost.length = 5) : nth (setLost die v s).clk.lost (dieNo die) false = v :=
  nth_modNth_same (five ▸ dieNo_lt die) _ _

theorem setLost_other {d : Nat} (h : d ≠ dieNo die) : nth (setLost die v s).clk.lost d false = nth s.clk.lost d false :=
  nth_modNth_other h _ _ _

end

/-- What the loss of a die's reference does once its bit is set: notice 0x7020 goes out, and a MED's quadrant begins its holdover, with
its stacks in self-refresh and the tickets lapsed that no unit can use. -/
def loseReference (die : Die) (s : State) : State :=
  let s := notify die 0x7020 2 (leBytes 1 (dieCode die)) s
  match die with
  | .hub => s
  | .med q => lapseTickets (updQuad q (fun k => { k with lostAt := some s.clk.hub }) (restQuad q s))

theorem loseReference_clk (die : Die) (s : State) : (loseReference die s).clk = s.clk := by
  cases die with
  | hub => exact notify_clk _ _ _ _ _
  | med q =>
    refine (clk_of_steady (steady_lapseTickets _)).trans ?_
    refine (clk_of_steady (steady_restQuad q _)).trans ?_
    exact notify_clk _ _ _ _ _

theorem loseReference_lostAt (q : Fin 4) {s : State} (four : s.quads.length = 4) :
    (quadAt (loseReference (.med q) s) q).lostAt = some s.clk.hub := by
  refine (lostAt_of_steady (steady_lapseTickets _) q).trans ?_
  rw [quadAt_updQuad_same, notify_clk]
  rw [quads_length_of_steady (steady_restQuad q _), notify_quads, four]
  exact q.isLt

theorem exec_referenceLost {die : Die} {s : State} (high : s.released = true) (there : nth s.clk.lost (dieNo die) false = false) :
    exec (.referenceLost die) s = .next (keepFixed s true (loseReference die (setLost die true s))) := by
  change execReferenceLost die s = _
  rw [execReferenceLost, whenReleased_high high]
  simp only [there, Bool.false_eq_true, if_false]
  rfl

theorem exec_referenceRestored {die : Die} {s : State} (high : s.released = true) (lost : nth s.clk.lost (dieNo die) false = true) :
    exec (.referenceRestored die) s =
      .next (keepFixed s true (notify .hub 0x7021 0 (leBytes 1 (dieCode die)) (setLost die false s))) := by
  change execReferenceRestored die s = _
  rw [execReferenceRestored, whenReleased_high high]
  simp only [lost, Bool.not_true, Bool.false_eq_true, if_false]
  rfl

/-- Settles O10: the traffic that the loss of a reference ends moves no clock and no quadrant's own state. -/
theorem referenceRowsSetAndClearTheDiesBit : Obligations.ReferenceRowsSetAndClearTheDiesBit := by
  unfold Obligations.ReferenceRowsSetAndClearTheDiesBit
  refine fun die s high five =>
    ⟨fun there => ⟨_, exec_referenceLost high there, ?_⟩, fun lost => ⟨_, exec_referenceRestored high lost, ?_⟩⟩
  · rw [keepFixed_clk, loseReference_clk]
    refine ⟨setLost_same die true s five, fun d hd => setLost_other die true s hd, rfl, ?_⟩
    rintro q rfl four
    exact loseReference_lostAt q four
  · rw [keepFixed_clk, notify_clk]
    refine ⟨setLost_same die false s five, fun d hd => setLost_other die false s hd, rfl, ?_, ?_, ?_⟩
    · rw [keepFixed_mem, notify_mem]
      rfl
    · rw [keepFixed_quads, notify_quads]
      rfl
    · rw [keepFixed_reqs, notify_reqs]
      rfl

end Sys2Proof.Machine
end

section
/-!
The segment map (R58, R79, R82): what a segment's current entry is after a change of its copies, and what the allocator leaves alone.
-/
namespace Sys2Proof.Machine

/-! ### Keyed lists -/

theorem look_filter_append {κ α : Type} [DecidableEq κ] (d : α) (k : κ) (m r : List (κ × α)) :
    look d k (m.filter (fun e => !decide (e.1 = k)) ++ r) = look d k r := by
  induction m with
  | nil => rfl
  | cons x m ih => by_cases h : x.1 = k <;> simp [h, look, ih]

theorem look_put_same {κ α : Type} [DecidableEq κ] [DecidableEq α] (d : α) (k : κ) (v : α) (m : List (κ × α)) :
    look d k (put d k v m) = v := by
  unfold put
  split
  next isDefault => simpa [isDefault, look] using look_filter_append d k m []
  next => simp [look_filter_append, look]

/-! ### The current entry of a segment -/

/-- A segment's current entry is a matter of the map's entries alone. -/
theorem curEntry_of_segs {s t : State} (same : t.map.segs = s.map.segs) (n : Nat) : curEntry t n = curEntry s n := by
  unfold curEntry segAt
  rw [same]

theorem curEntry_updSeg (n : Nat) (f : Seg → Seg) (s : State) : curEntry (updSeg n f s) n = (f (segAt s n)).current := by
  unfold curEntry segAt updSeg
  rw [State.onMap_map, look_put_same]

theorem Seg.current_flip (e : Entry) (g : Seg) : (g.flip e).current = { e with phase := false } := by
  unfold Seg.flip
  split <;> simp [Seg.current]

/-- After "Ivory and Sable" the entry written is the current one. -/
@[simp] theorem curEntry_flip (n : Nat) (e : Entry) (s : State) :
    curEntry (updSeg n (Seg.flip e) s) n = { e with phase := false } := by
  rw [curEntry_updSeg, Seg.current_flip]

/-- A value of each entry that a change of both copies keeps, whatever the phase bit. -/
theorem Seg.current_setBoth_same {β : Type} (v : Entry → β) (anyPhase : ∀ e p, v { e with phase := p } = v e) {f : Entry → Entry}
    (kept : ∀ e, v (f e) = v e) (g : Seg) : v (g.setBoth f).current = v g.current := by
  unfold Seg.current Seg.setBoth
  dsimp only
  split
  · exact kept _
  · exact (anyPhase _ _).trans (kept _)

/-! ### What a slot's allocation and freeing leave of the map -/

theorem joinGuard_segs {p : Place} {s t : State} (joined : joinGuard p s = some t) : t.map.segs = s.map.segs := by
  unfold joinGuard at joined
  extract_lets scope room at joined
  split at joined
  · cases joined
    rfl
  · obtain ⟨par, -, rfl⟩ := Option.map_eq_some_iff.mp joined
    rfl

theorem takeSlot_segs {e : Entry} {p : Place} {s t : State} (taken : takeSlot e s = some (p, t)) : t.map.segs = s.map.segs := by
  unfold takeSlot at taken
  split at taken
  · cases taken
  · split at taken
    · obtain ⟨u, joined, same⟩ := Option.map_eq_some_iff.mp taken
      cases same
      exact joinGuard_segs joined
    · cases taken
      rfl

/-- The slot freed is listed with the segment that held it, and with whether a retire pass is due. -/
theorem freePlace_freed (p : Place) (e : Entry) (n : Nat) (next : Option Entry) (s : State) :
    ∃ f ∈ (freePlace p e n next s).map.freed, f.place = p ∧ f.seg = n ∧ f.retire = e.guarded :=
  ⟨{ place := p, retire := e.guarded, seg := n, waits := lookedUp s n, entry := e, next := next },
    by simp [freePlace], rfl, rfl, rfl⟩

/-- Abandoning a move leaves a segment every value of its entry but its state. -/
theorem abandonMove_same {β : Type} (v : Entry → β) (anyPhase : ∀ e p, v { e with phase := p } = v e)
    (anyState : ∀ e st, v { e with state := st } = v e) (n cause : Nat) (s : State) :
    v (curEntry (abandonMove n cause s) n) = v (curEntry s n) := by
  unfold abandonMove
  split
  · rfl
  · extract_lets ended freed live
    rw [curEntry_of_segs (congrArg SegMap.segs (notify_map _ _ _ _ _)) n, curEntry_updSeg]
    refine Seg.current_setBoth_same v anyPhase (fun e => ?_) _
    split
    · exact anyState _ _
    · rfl

/-! ### Invalidations -/

theorem respond_mem (p : Nat) (r : Resp) (s : State) : (respond p r s).mem = s.mem := by
  unfold respond
  split
  · rfl
  · split
    · unfold endResponse freeTag
      split
      · rw [updPort_mem]
        split
        · unfold serveRequest
          split <;> simp [dropReq, serveCollective]
        · rfl
      · rfl
    · exact updPort_mem _ _ _

theorem invalidate_mem (n off len : Nat) (s : State) : (invalidate n off len s).mem = s.mem := by
  unfold invalidate
  extract_lets mask m body counted numbered
  split
  · rfl
  · rw [respond_mem]
    simp [numbered, counted]

theorem dropSharers_mem (n : Nat) (s : State) : (dropSharers n s).mem = s.mem := invalidate_mem n 0 (2 ^ 22) s

end Sys2Proof.Machine
end

section
/-!
What a store into the stacks leaves alone (R221, R222, R232, R234): each of its operations is made of a few changes of the state, and
keeps every value that these keep.
-/
namespace Sys2Proof.Machine

/-- A value of the state that each change a store is made of keeps: a change of a controller, of a stored slot, of a touch bit, of the
channels that change their home, of the decoder's records, and a notice. -/
structure StoreKeeps {β : Type} (g : State → β) : Prop where
  chan    : ∀ c f s, g (updChan c f s) = g s
  slot    : ∀ c bank row k v s, g (putSlot c bank row k v s) = g s
  touch   : ∀ gch bank row s, g (setTouch gch bank row s) = g s
  rehomes : ∀ f s, g (s.onRehomes f) = g s
  codec   : ∀ f s, g (s.onCodec f) = g s
  notice  : ∀ d c v b s, g (notify d c v b s) = g s

section
variable {β : Type} {g : State → β} (keeps : StoreKeeps g)
include keeps

theorem putParity_keeps (a : RowAt) (st : Nat) (parity : Bytes) (s : State) : g (putParity a st parity s) = g s :=
  forEach_same g (fun _ _ => keeps.slot _ _ _ _ _ _) _ _

theorem writeRow_keeps (a : RowAt) (st : Nat) (sectors : List (Bytes × Nat)) (s : State) : g (writeRow a st sectors s) = g s :=
  (putParity_keeps keeps _ _ _ _).trans
    ((forEach_same g (fun _ _ => keeps.slot _ _ _ _ _ _) _ _).trans (keeps.chan _ _ _))

theorem initRow_keeps (a : RowAt) (asked : Nat) (given : List (Nat × Bytes × Nat)) (s : State) : g (initRow a asked given s) = g s :=
  (keeps.touch _ _ _ _).trans (forEach_same g (fun _ _ => writeRow_keeps keeps _ _ _ _) _ _)

theorem putSector_keeps (a : RowAt) (i : Nat) (new : Bytes × Nat) (s : State) : g (putSector a i new s) = g s := by
  unfold putSector
  extract_lets st _ old delta parity stored
  have hstored : g stored = g s := keeps.slot _ _ _ _ _ _
  split
  · exact (keeps.chan _ _ _).trans hstored
  · exact (putParity_keeps keeps _ _ _ _).trans hstored

/-! ### Rows that are rebuilt -/

theorem writeFrame_keeps (a : RowAt) (i0 st : Nat) (mine : List (Bytes × Nat)) (s : State) : g (writeFrame a i0 st mine s) = g s := by
  unfold writeFrame pushWritten
  split
  · exact (keeps.chan _ _ _).trans (writeRow_keeps keeps _ _ _ _)
  · exact (keeps.chan _ _ _).trans (initRow_keeps keeps _ _ _ _)

theorem writeHomes_keeps (gch bank row st : Nat) (v : List (Bytes × Nat)) (s : State) : g (writeHomes gch bank row st v s) = g s := by
  refine forEach_same g (fun j t => ?_) _ _
  split
  · rfl
  · exact writeFrame_keeps keeps _ _ _ _ _

theorem rebuildRow_keeps (r : Nat × Nat × Nat) (s : State) : g (rebuildRow r s) = g s := by
  obtain ⟨gch, bank, row⟩ := r
  unfold rebuildRow
  dsimp only
  split
  · exact (keeps.chan _ _ _).trans ((writeRow_keeps keeps _ _ _ _).trans (keeps.rehomes _ _))
  · exact (writeHomes_keeps keeps _ _ _ _ _ _).trans (keeps.rehomes _ _)

theorem ensureBuilt_keeps (a : RowAt) (s : State) : g (ensureBuilt a s) = g s :=
  forEach_same g (rebuildRow_keeps keeps) _ _

/-! ### Strength and sectors -/

theorem sayShort_keeps (a : RowAt) (st top want : Nat) (s : State) : g (sayShort a st top want s) = g s := by
  unfold sayShort
  extract_lets key rest
  split
  · exact keeps.codec _ _
  · split
    · rfl
    · exact (keeps.notice _ _ _ _ _).trans (keeps.codec _ _)

theorem raiseStrength_keeps (a : RowAt) (want : Nat) (s : State) : g (raiseStrength a want s) = g s := by
  unfold raiseStrength
  extract_lets st top r raised
  split
  · rfl
  · refine (sayShort_keeps keeps _ _ _ _ _).trans ?_
    unfold raised
    split
    · split
      · rfl
      · exact (putParity_keeps keeps _ _ _ _).trans (keeps.chan _ _ _)
    · rfl

theorem storeHere_keeps (a : RowAt) (i want : Nat) (f : Bytes × Nat → Bytes × Nat) (s : State) : g (storeHere a i want f s) = g s := by
  unfold storeHere
  extract_lets built prior t
  have ht : g t = g s := (forEach_same g (fun _ _ => keeps.chan _ _ _) _ _).trans (ensureBuilt_keeps keeps _ _)
  split
  · refine (forEach_same g (fun b u => ?_) _ _).trans ht
    split
    · exact (putSector_keeps keeps _ _ _ _).trans (raiseStrength_keeps keeps _ _ _)
    · exact writeRow_keeps keeps _ _ _ _
  · exact (initRow_keeps keeps _ _ _ _).trans ht

theorem storeSector_keeps (a : RowAt) (i want : Nat) (f : Bytes × Nat → Bytes × Nat) (s : State) :
    g (storeSector a i want f s) = g s := by
  unfold storeSector
  split
  · exact (storeHere_keeps keeps _ _ _ _ _).trans (storeHere_keeps keeps _ _ _ _ _)
  · exact storeHere_keeps keeps _ _ _ _ _

/-! ### Block words -/

theorem storeBlockWord_keeps (p : Place) (b : Nat) (f : Nat → Nat) (s : State) : g (storeBlockWord p b f s) = g s := by
  unfold storeBlockWord
  split
  split
  · rfl
  · split
    · rfl
    · exact storeSector_keeps keeps _ _ _ _ _

theorem clearBlockWords_keeps (p : Place) (s : State) : g (clearBlockWords p s) = g s :=
  forEach_same g (fun _ _ => storeBlockWord_keeps keeps _ _ _ _) _ _

end

/-! ### The segment map -/

/-- A touch bit that changes makes its line due, and no other part of the segment map is changed by a store. -/
theorem setTouch_map (gch bank row : Nat) (s : State) :
    ∃ due, (setTouch gch bank row s).map = { s.map with touchDue := due } := by
  unfold setTouch
  extract_lets k
  split
  · exact ⟨s.map.touchDue, rfl⟩
  · exact ⟨_, rfl⟩

/-- A part of the segment map in which the due touch lines have no share. -/
theorem storeKeeps_map {β : Type} {v : SegMap → β} (apart : ∀ m due, v { m with touchDue := due } = v m) :
    StoreKeeps fun s => v s.map where
  chan _ _ _ := rfl
  slot _ _ _ _ _ _ := rfl
  touch gch bank row s := by
    obtain ⟨due, same⟩ := setTouch_map gch bank row s
    rw [same, apart]
  rehomes _ _ := rfl
  codec _ _ := rfl
  notice _ _ _ _ _ := congrArg v (notify_map _ _ _ _ _)

theorem clearBlockWords_segs (p : Place) (s : State) : (clearBlockWords p s).map.segs = s.map.segs :=
  clearBlockWords_keeps (storeKeeps_map (v := SegMap.segs) fun _ _ => rfl) p s

theorem clearBlockWords_moves (p : Place) (s : State) : (clearBlockWords p s).map.moves = s.map.moves :=
  clearBlockWords_keeps (storeKeeps_map (v := SegMap.moves) fun _ _ => rfl) p s

end Sys2Proof.Machine
end

section
/-!
The segment commands (R69, R80, R494): what each does where it is accepted, and that a rejected one changes nothing.
-/
namespace Sys2Proof.Machine

/-- A command is judged: either it is rejected, and changes nothing, or it has its effect and the result 0. -/
def Verdict (s : State) (effect : State → Prop) (r : State × Nat) : Prop := (r.1 = s ∧ r.2 ≠ 0) ∨ (r.2 = 0 ∧ effect r.1)

theorem verdict_rejected {s : State} {effect : State → Prop} {r : Nat} (h : r ≠ 0) : Verdict s effect (s, r) := .inl ⟨rfl, h⟩

theorem verdict_accepted {s t : State} {effect : State → Prop} (h : effect t) : Verdict s effect (t, 0) := .inr ⟨rfl, h⟩

theorem Verdict.of_zero {s : State} {effect : State → Prop} {r : State × Nat} (h : Verdict s effect r) (ok : r.2 = 0) : effect r.1 :=
  h.elim (fun rejected => absurd ok rejected.2) And.right

theorem Verdict.of_ne_zero {s : State} {effect : State → Prop} {r : State × Nat} (h : Verdict s effect r) (bad : r.2 ≠ 0) : r.1 = s :=
  h.elim And.left fun accepted => absurd accepted.1 bad

/-! ### The four commands -/

/-- A Create: an Absent segment is Live with the image's fields, at the place that the allocator found. -/
def Creates (n : Nat) (e : Entry) (s t : State) : Prop :=
  (curEntry s n).state = .absent ∧
    ∃ p fostered, curEntry t n = { e with state := .live, place := p, fostered := fostered, phase := false }

theorem createSeg_verdict (n : Nat) (e : Entry) (s : State) : Verdict s (Creates n e s) (createSeg n e s) := by
  unfold createSeg
  split
  next => exact verdict_rejected (by decide)
  next absent =>
    extract_lets checks
    split
    next failed => exact verdict_rejected failed
    next =>
      split
      next => exact verdict_rejected (by decide)
      next p t _ => exact verdict_accepted ⟨not_not.mp absent, p, slotFostered t p, curEntry_flip n _ _⟩

/-- A Free: a segment is Absent, and its slot is on its way back to the allocator. -/
def Frees (n : Nat) (s t : State) : Prop :=
  (curEntry s n).state ≠ .absent ∧ (curEntry t n).state = .absent ∧
    ∃ f ∈ t.map.freed, f.place = (curEntry s n).place ∧ f.seg = n ∧ f.retire = (curEntry s n).guarded

theorem freeSeg_verdict (n : Nat) (s : State) : Verdict s (Frees n s) (freeSeg n s) := by
  unfold freeSeg
  extract_lets e abandoned alone freed forgotten
  split
  next => exact verdict_rejected (by decide)
  next present =>
    refine verdict_accepted ⟨present, ?_, freePlace_freed e.place e n none alone⟩
    rw [curEntry_flip]

/-- A Modify: a segment that does not move takes domain, pinned, format tag and class of the image. -/
def Modifies (n : Nat) (i : Entry) (s t : State) : Prop :=
  (curEntry s n).state = .live → t.mem = s.mem ∧
    curEntry t n = { curEntry s n with domain := i.domain, pinned := i.pinned, fmt := i.fmt, replica := i.replica, phase := false }

theorem modifySeg_verdict (n : Nat) (i : Entry) (s : State) : Verdict s (Modifies n i s) (modifySeg n i s) := by
  unfold modifySeg
  extract_lets e sameScope f unshared sharing retargeted
  split
  next => exact verdict_rejected (by decide)
  next =>
    split
    next => exact verdict_rejected (by decide)
    next =>
      refine verdict_accepted fun live => ?_
      have live : e.state = .live := live
      have stays : e.state ≠ .moving := by simp [live]
      have kept : retargeted.mem = s.mem := by
        simp only [retargeted, sharing, unshared, State.onMap_mem, apply_ite State.mem, dropSharers_mem, ite_self]
      rw [if_neg stays, curEntry_flip]
      exact ⟨kept, by simp [f, live, e]⟩

/-! ### A move begins -/

/-- A Move: the segment is Moving at its place, with a running move of the host to the image's strength, guard and block sum. -/
def Moves (n : Nat) (i : Entry) (s t : State) : Prop :=
  (curEntry s n).state ≠ .absent ∧ (curEntry t n).state = .moving ∧ (curEntry t n).place = (curEntry s n).place ∧
    ∃ m ∈ t.map.moves, m.seg = n ∧ m.cause = 1 ∧ m.cursor = 0 ∧ m.source = (curEntry s n).place ∧ m.target.strength = i.strength ∧
      m.target.guarded = i.guarded ∧ m.target.blockSum = i.blockSum ∧ m.target.domain = (curEntry s n).domain

/-- Both copies of a segment whose move begins: its current entry and the target's. -/
def Seg.moving (target : Entry) (g : Seg) : Seg :=
  let c := { g.current with state := .moving }
  if g.ivory.phase then { ivory := { target with phase := true }, sable := c } else { ivory := { c with phase := false }, sable := target }

/-- What a move's beginning leaves of the current entry. -/
theorem Seg.current_moving (target : Entry) (g : Seg) :
    (g.moving target).current.state = .moving ∧ (g.moving target).current.place = g.current.place := by
  unfold Seg.moving
  extract_lets c
  split <;> exact ⟨rfl, rfl⟩

/-- The target of a move as its entry begins. -/
def movingTarget (target : Entry) (s : State) : Entry := { target with state := .moving, fostered := slotFostered s target.place }

/-- The state once a move is listed, before the block words of its target are cleared. -/
def moveListed (n : Nat) (target : Entry) (cause : Nat) (s : State) : State :=
  (updSeg n (Seg.moving (movingTarget target s)) s).onMap fun m => { m with
    moves := m.moves ++ [{ seg := n, cause := cause, source := (curEntry s n).place, target := movingTarget target s }] }

theorem startMove_eq (n : Nat) (target : Entry) (cause : Nat) (s : State) :
    startMove n target cause s =
      if target.blockSum then clearBlockWords target.place (moveListed n target cause s) else moveListed n target cause s := rfl

/-- A move's beginning leaves the segment Moving at its place, with the move listed. -/
theorem startMove_begins (n : Nat) (target : Entry) (cause : Nat) (s : State) :
    (curEntry (startMove n target cause s) n).state = .moving ∧
      (curEntry (startMove n target cause s) n).place = (curEntry s n).place ∧
      { seg := n, cause := cause, source := (curEntry s n).place, target := movingTarget target s } ∈
        (startMove n target cause s).map.moves := by
  have segs : (startMove n target cause s).map.segs = (updSeg n (Seg.moving (movingTarget target s)) s).map.segs := by
    rw [startMove_eq]
    split
    · exact clearBlockWords_segs _ _
    · rfl
  have moves : (startMove n target cause s).map.moves = (moveListed n target cause s).map.moves := by
    rw [startMove_eq]
    split
    · exact clearBlockWords_moves _ _
    · rfl
  rw [curEntry_of_segs segs, curEntry_updSeg, moves]
  obtain ⟨state, place⟩ := Seg.current_moving (movingTarget target s) (segAt s n)
  exact ⟨state, place, List.mem_append_right _ (List.mem_singleton_self _)⟩

theorem moveSeg_verdict (n : Nat) (i : Entry) (s : State) : Verdict s (Moves n i s) (moveSeg n i s) := by
  unfold moveSeg
  extract_lets e checks
  split
  next => exact verdict_rejected (by decide)
  next present =>
    split
    next => exact verdict_rejected (by decide)
    next =>
      split
      next failed => exact verdict_rejected failed
      next =>
        split
        next => exact verdict_rejected (by decide)
        next p t taken =>
          have same : curEntry t n = curEntry s n := curEntry_of_segs (takeSlot_segs taken) n
          have place : (curEntry (abandonMove n 2 t) n).place = (curEntry s n).place :=
            same ▸ abandonMove_same Entry.place (fun _ _ => rfl) (fun _ _ => rfl) n 2 t
          have domain : (curEntry (abandonMove n 2 t) n).domain = (curEntry s n).domain :=
            same ▸ abandonMove_same Entry.domain (fun _ _ => rfl) (fun _ _ => rfl) n 2 t
          obtain ⟨state, stays, listed⟩ := startMove_begins n { curEntry (abandonMove n 2 t) n with
            strength := i.strength, guarded := i.guarded, blockSum := i.blockSum, place := p } 1 (abandonMove n 2 t)
          exact verdict_accepted
            ⟨present, state, stays.trans place, _, listed, rfl, rfl, rfl, place, rfl, rfl, rfl, domain⟩

/-! ### Any of them -/

/-- The effect of a segment command by its number (Table 3.5). -/
def Executes (cmd n : Nat) (e : Entry) (s t : State) : Prop :=
  match cmd with
  | 1 => Creates n e s t
  | 2 => Frees n s t
  | 3 => Modifies n e s t
  | 4 => Moves n e s t
  | _ => False

theorem segCommand_verdict {c : SegCmd} {e : Entry} (image : entryOfImage c.image.toNat = some e) (cmd : Nat) (s : State) :
    Verdict s (Executes cmd c.segment.toNat e s) (segCommand cmd c s) := by
  unfold segCommand
  simp only [image]
  split
  next => exact verdict_rejected (by decide)
  next =>
    split
    next => exact createSeg_verdict _ _ _
    next => exact freeSeg_verdict _ _
    next => exact modifySeg_verdict _ _ _
    next => exact moveSeg_verdict _ _ _
    next => exact verdict_rejected (by decide)

/-- Settles O37: each command has its effect where its result is 0, and changes nothing where not. -/
theorem segmentCommandsChangeTheirEntry : Obligations.SegmentCommandsChangeTheirEntry := by
  unfold Obligations.SegmentCommandsChangeTheirEntry
  intro c e x image n old
  have verdict := fun cmd => segCommand_verdict image cmd x
  refine ⟨fun ok => ?_, fun ok => ?_, fun ok live => ?_, fun ok => ?_, fun cmd => (verdict cmd).of_ne_zero⟩
  · obtain ⟨absent, p, fostered, created⟩ : Creates n e x _ := (verdict 1).of_zero ok
    dsimp only
    rw [created]
    exact ⟨absent, rfl, rfl, rfl, rfl, rfl, rfl, rfl, rfl⟩
  · exact (show Frees n x _ from (verdict 2).of_zero ok)
  · exact (show Modifies n e x _ from (verdict 3).of_zero ok) live
  · exact (show Moves n e x _ from (verdict 4).of_zero ok)

end Sys2Proof.Machine
end

section
/-!
The rows CREATE, FREE, MODIFY and MOVE (R68, R494): the bytes of a command give the command back, and the write runs it.
-/
namespace Sys2Proof.Machine

/-! ### The bytes of a command (Table 3.5) -/

/-- A number written into n bytes is the field read back from them. -/
theorem field_leBytes {n x : Nat} (small : x < 256 ^ n) (before after : Bytes) :
    field (before ++ leBytes n x ++ after) before.length n = x := by
  have taken : ((before ++ leBytes n x ++ after).drop before.length).take n = leBytes n x := by
    simp [leBytes_length]
  unfold field slice
  dsimp only
  rw [taken, leBytes_length, Nat.sub_self, List.replicate_zero, List.append_nil, leNat_leBytes small]

/-- The command that 16 bytes name. -/
def commandOf (bs : Bytes) : SegCmd :=
  { reserved1 := BitVec.ofNat 8 (field bs 1 1), reserved2 := BitVec.ofNat 16 (field bs 2 2),
    segment := BitVec.ofNat 32 (field bs 4 4), image := BitVec.ofNat 64 (field bs 8 8) }

theorem segBytes_length (k : Nat) (c : SegCmd) : (segBytes k c).length = 16 := by simp [segBytes, leBytes_length]

theorem field_segBytes_command {k : Nat} (small : k < 256) (c : SegCmd) : field (segBytes k c) 0 1 = k := by
  simpa [segBytes] using field_leBytes (n := 1) (by omega) [] (leBytes 1 c.reserved1.toNat ++ leBytes 2 c.reserved2.toNat ++
    leBytes 4 c.segment.toNat ++ leBytes 8 c.image.toNat)

theorem commandOf_segBytes (k : Nat) (c : SegCmd) : commandOf (segBytes k c) = c := by
  obtain ⟨reserved1, reserved2, segment, image⟩ := c
  let b0 := leBytes 1 k
  let b1 := leBytes 1 reserved1.toNat
  let b2 := leBytes 2 reserved2.toNat
  let b4 := leBytes 4 segment.toNat
  let b8 := leBytes 8 image.toNat
  have at1 : field (b0 ++ b1 ++ (b2 ++ b4 ++ b8)) 1 1 = _ := field_leBytes reserved1.isLt b0 _
  have at2 : field (b0 ++ b1 ++ b2 ++ (b4 ++ b8)) 2 2 = _ := field_leBytes reserved2.isLt (b0 ++ b1) _
  have at4 : field (b0 ++ b1 ++ b2 ++ b4 ++ b8) 4 4 = _ := field_leBytes segment.isLt (b0 ++ b1 ++ b2) _
  have at8 : field (b0 ++ b1 ++ b2 ++ b4 ++ b8 ++ []) 8 8 = _ := field_leBytes image.isLt (b0 ++ b1 ++ b2 ++ b4) _
  simp only [List.append_assoc, List.append_nil, b0, b1, b2, b4, b8] at at1 at2 at4 at8
  simp only [commandOf, segBytes, List.append_assoc, at1, at2, at4, at8, BitVec.ofNat_toNat, BitVec.setWidth_eq]

/-! ### The write that runs it -/

theorem objRow_segment : objRow 0x2010 0 = some ⟨0x2010, 0, 0, 8, 16, 2, 2, 0, 0, 0⟩ := by decide +kernel

/-- A segment command executed, with its result 0 kept for the requester (R68). -/
def runSegment (src : Src) (k : Nat) (c : SegCmd) (x : State) : State :=
  updWin (windowOf src) (fun w => { w with result := 0 }) (segCommand k c x).1

theorem performWrite_segment (src : Src) (ends : Bool) {k : Nat} (small : k < 256) {c : SegCmd} {x : State}
    (passes : (segCommand k c x).2 = 0) :
    performWrite src ends 0x2010 0 ⟨0x2010, 0, 0, 8, 16, 2, 2, 0, 0, 0⟩ (segBytes k c) x = doneWrite (runSegment src k c x) := by
  have written : writeSegment (windowOf src) (segBytes k c) x = judged
      (updWin (windowOf src) (fun w => { w with result := (segCommand k c x).2 }) (segCommand k c x).1, (segCommand k c x).2 == 0) := by
    unfold writeSegment
    rw [field_segBytes_command small, ← commandOf, commandOf_segBytes]
  simp [performWrite, segBytes_length, variableSize, isBlobCommand, writeBlob, written, passes, judged, doneWrite, runSegment]

/-- A segment command that its checks pass is the write that it is. -/
theorem segWrite_runs {src : Src} {k : Nat} (small : k < 256) {c : SegCmd} {s : State} (high : s.released = true)
    (may : mayWrite s src 0x2010 0 (segBytes k c) = true)
    (passes : (segCommand k c (beforeWrite src 0x2010 0 (segBytes k c) s)).2 = 0) :
    whenReleased s (segWrite k src c) = .next (wrote src 0x2010 0 (segBytes k c) (runSegment src k c) s) := by
  rw [whenReleased_high high, segWrite, objectWrite_performs true may objRow_segment, performWrite_segment src true small passes]
  rfl

/-- Settles O36: each of the four rows is a segment command's write. -/
theorem segmentCommandsRun : Obligations.SegmentCommandsRun := by
  unfold Obligations.SegmentCommandsRun
  intro src c i k s row high may passes
  simp only [List.mem_cons, Prod.mk.injEq, List.not_mem_nil, or_false] at row
  rcases row with ⟨rfl, rfl⟩ | ⟨rfl, rfl⟩ | ⟨rfl, rfl⟩ | ⟨rfl, rfl⟩
  all_goals exact segWrite_runs (by decide) high may passes

end Sys2Proof.Machine
end

section
/-!
What the segment map does after a command: freed slots (R74), the end of a move (R78, R79, R85), of a pass over the map (R82) and of
an evaluation period (R81).
-/
namespace Sys2Proof.Machine

/-! ### A freed slot -/

theorem execFreedSlotCleared_ready {s : State} {k : Nat} {f : Freed} (high : s.released = true) (listed : s.map.freed[k]? = some f)
    (unused : ∀ id ∈ f.waits, ∀ r ∈ s.reqs, r.id ≠ id) (serve : quadsServe s f.place = true) :
    let s1 := clearPlace f (s.onMap fun m => { m with freed := m.freed.eraseIdx k })
    let s2 := if f.retire then leaveGuard f.place s1 else s1
    execFreedSlotCleared k s = .next (keepFixed s true (startWaiting (if mapOuts s2 = 0 then s2 else fosterNotice s2))) := by
  have idle : (f.waits.any fun id => s.reqs.any (·.id == id)) = false := by
    simpa only [List.any_eq_false, List.any_eq_true, not_exists, not_and, beq_iff_eq] using unused
  rw [execFreedSlotCleared, whenReleased_high high]
  simp only [listed, idle, serve, Bool.not_true, Bool.or_false, Bool.false_eq_true, if_false]

/-! ### The end of a move -/

/-- The conditions under which a move ends: its copies are done, its segment has no open Basket line, and the quadrants of both slots
serve (R79, R313). -/
def moveEnds (n : Nat) (m : Move) (s : State) : Bool :=
  decide (16384 ≤ m.cursor) && m.busy.isNone && !lineOpen s n && quadsServe s m.source && quadsServe s m.target.place

theorem moveEnds_iff {n : Nat} {m : Move} {s : State} : moveEnds n m s = true ↔ 16384 ≤ m.cursor ∧ m.busy = none ∧
    lineOpen s n = false ∧ quadsServe s m.source = true ∧ quadsServe s m.target.place = true := by
  simp [moveEnds, and_assoc]

theorem execMoveComplete_running {s : State} {n : Nat} {m : Move} (high : s.released = true)
    (running : (pumpMove n s).map.moves.find? (·.seg == n) = some m) :
    execMoveComplete n s = .next (keepFixed s true
      (if moveEnds n m (pumpMove n s) then startWaiting (finishMove n (pumpMove n s)) else pumpMove n s)) := by
  rw [execMoveComplete, whenReleased_high high]
  simp only [beq_eq_decide] at running
  simp only [running]
  rfl

/-- What the end of a move changes of the map beside its segment's entry: the move is no longer listed, and is counted. -/
def SegMap.endMove (n hub : Nat) (m : SegMap) : SegMap :=
  { m with moves := m.moves.filter (·.seg ≠ n), moved := (m.moved + 1) % 2 ^ 32, movedAt := put 0 n (hub + 1) m.movedAt }

theorem finishMove_eq {s : State} {n : Nat} {m : Move} (running : s.map.moves.find? (·.seg == n) = some m) :
    let target := { (segAt s n).other with state := .live }
    finishMove n s = notify .hub 0x2020 0 (leBytes 4 n ++ leBytes 4 target.place.code)
      (freePlace m.source (curEntry s n) n (some target) (updSeg n (Seg.flip target) (s.onMap (SegMap.endMove n s.clk.hub)))) := by
  simp only [beq_eq_decide] at running
  unfold finishMove
  split
  next absent => rw [running] at absent; cases absent
  next found => rw [running] at found; cases found; rfl

/-- A move that has ended: the segment is Live at the target's entry, the source is on its way to the allocator, and the move is
counted and no longer listed. -/
theorem finishMove_ends {s : State} {n : Nat} {m : Move} (running : s.map.moves.find? (·.seg == n) = some m) :
    (curEntry (finishMove n s) n).state = .live ∧ (∀ x ∈ (finishMove n s).map.moves, x.seg ≠ n) ∧
      (∃ f ∈ (finishMove n s).map.freed, f.place = m.source ∧ f.seg = n) ∧
      (finishMove n s).map.moved = (s.map.moved + 1) % 2 ^ 32 := by
  rw [finishMove_eq running, curEntry_of_segs (congrArg SegMap.segs (notify_map _ _ _ _ _)), notify_map]
  refine ⟨congrArg Entry.state (curEntry_flip n _ _), fun x listed => ?_, ?_, rfl⟩
  · simpa using (List.mem_filter.mp listed).2
  · obtain ⟨f, listed, place, seg, -⟩ := freePlace_freed m.source (curEntry s n) n _ _
    exact ⟨f, listed, place, seg⟩

/-! ### The end of a pass over the map -/

/-- What the end of a pass changes of the map: the pass that waits behind it is the one that runs, and passes are counted. -/
def SegMap.endPass (m : SegMap) : SegMap := { m with rebuild := m.later.head?, later := m.later.drop 1, passes := (m.passes + 1) % 2 ^ 32 }

theorem execMapRebuildComplete_running {s : State} {n : Nat} (high : s.released = true) (running : s.map.rebuild = some n) :
    execMapRebuildComplete s = .next (keepFixed s true (notify .hub 0x2001 0 (leBytes 4 n) (s.onMap SegMap.endPass))) := by
  rw [execMapRebuildComplete, whenReleased_high high]
  simp only [running]
  rfl

/-! ### The end of an evaluation period -/

/-- The segments that qualify, in the order of their moves: most samples first, the lowest number on a tie (R81); none with placement
off. -/
def placementPicks (s : State) : List (Nat × Nat) :=
  if objGet s 0x2020 0 = 1 && bit (complexCaps s) 11 then
    (sortBy (fun x => (2 ^ 40 - x.2.2) * 2 ^ 20 + x.1) (qualifying s (placementParams s))).map fun x => (x.1, x.2.1)
  else []

theorem execPlacementEvaluation_due {s : State} (high : s.released = true) (due : periodEnd s ≤ s.clk.hub) :
    execPlacementEvaluation s = .next (keepFixed s true (startWaiting (s.onMap fun m => { m with
      samples := [], period := s.clk.hub, queued := placementPicks s, starts := 64,
      params := (List.range 4).map fun i => objGet s 0x2021 (i + 1) }))) := by
  rw [execPlacementEvaluation, whenReleased_high high]
  simp only [Nat.not_lt.mpr due, if_false]
  rfl

/-- A segment qualifies only with samples enough, the share from one port, a quadrant it may be moved to, and its hold-off over. -/
theorem mem_qualifying {s : State} {ps : List Nat} {x : Nat × Nat × Nat} (mem : x ∈ qualifying s ps) :
    ∃ counts, (x.1, counts) ∈ s.map.samples ∧ x.2.2 = nth counts x.2.1 0 ∧ nth ps 1 0 ≤ total counts ∧
      nth ps 0 0 * total counts ≤ 100 * x.2.2 ∧ movable (curEntry s x.1) x.2.1 = true ∧
      (look 0 x.1 s.map.movedAt = 0 ∨ look 0 x.1 s.map.movedAt - 1 + nth ps 3 0 * 1000000000 ≤ s.clk.hub) := by
  obtain ⟨⟨n, counts⟩, sampled, picked⟩ := List.mem_filterMap.mp mem
  dsimp only at picked
  split at picked
  next => cases picked
  next ok =>
    obtain ⟨q, found, rfl⟩ := Option.map_eq_some_iff.mp picked
    simp only [Bool.not_eq_true, Bool.not_eq_false', Bool.and_eq_true, Bool.or_eq_true, beq_iff_eq, decide_eq_true_eq] at ok
    obtain ⟨enough, rested⟩ := ok
    have share := List.find?_some found
    simp only [Bool.and_eq_true, decide_eq_true_eq] at share
    exact ⟨counts, sampled, rfl, enough, share.1, share.2, rested⟩

/-- Settles O38, row by row: the clause of each row and what its end leaves. -/
theorem slotsMovesAndPlacement : Obligations.SlotsMovesAndPlacement := by
  unfold Obligations.SlotsMovesAndPlacement
  refine ⟨fun s high => ⟨fun k f listed unused serve => execFreedSlotCleared_ready high listed unused serve, ?_, ?_⟩,
    fun s high due => ⟨execPlacementEvaluation_due high due, fun x mem => mem_qualifying mem⟩⟩
  · intro n m s1 running
    have answer : exec (.moveComplete n) s = _ := execMoveComplete_running high running
    refine ⟨fun goesOn => ?_, fun copied idle closed source target => ⟨?_, finishMove_ends running⟩⟩
    · have waits : moveEnds n m s1 = false := Bool.eq_false_iff.mpr fun ends => by
        obtain ⟨copied, idle, closed, source, target⟩ := moveEnds_iff.mp ends
        simp [idle, closed, source, target, copied.not_gt] at goesOn
      rw [answer, waits]
      rfl
    · rw [answer, moveEnds_iff.mpr ⟨copied, idle, closed, source, target⟩]
      rfl
  · intro n running
    refine ⟨_, execMapRebuildComplete_running high running, rfl, ?_⟩
    simp [SegMap.endPass]

end Sys2Proof.Machine
end

section
/-!
A port's record after the changes that the commands of chapter 4 are made of: the changed port has its new value, and what neither a
notice nor another part of the state touches stays.
-/
namespace Sys2Proof.Machine

/-! ### A change of one port -/

/-- Each of the five ports, and ENG, has its record changed. -/
theorem portAt_updPort_self {s : State} (five : s.ports.length = 5) (p : Nat) (f : Port → Port) :
    portAt (updPort p f s) p = f (portAt s p) := by
  unfold portAt updPort
  split
  next small => exact nth_modNth_same (five.symm ▸ small) f {}
  next => rfl

@[simp] theorem updPort_ports_length (p : Nat) (f : Port → Port) (s : State) : (updPort p f s).ports.length = s.ports.length := by
  unfold updPort
  split <;> simp [modNth]

theorem modNth_eq_self {α : Type} {xs : List α} {n : Nat} {f : α → α} {d : α} (h : f (nth xs n d) = nth xs n d) : modNth xs n f = xs := by
  refine List.ext_getElem? fun i => ?_
  unfold modNth
  rw [List.getElem?_modify]
  split
  next here =>
    subst here
    by_cases lt : n < xs.length
    · simpa [nth, lt] using h
    · simp [lt]
  next => simp

/-- A change that finds a port as it leaves it changes nothing. -/
theorem updPort_eq_self {p : Nat} {f : Port → Port} {s : State} (h : f (portAt s p) = portAt s p) : updPort p f s = s := by
  unfold updPort
  unfold portAt at h
  split at h
  next small => simp [small, State.onPorts, modNth_eq_self h]
  next big => simp [big, State.onEng, h]

/-! ### Changes of other parts of the state -/

@[simp] theorem portAt_keepFixed (s t : State) (pin : Bool) (p : Nat) : portAt (keepFixed s pin t) p = portAt t p := rfl
@[simp] theorem portAt_onFabric (f) (s : State) (p : Nat) : portAt (s.onFabric f) p = portAt s p := rfl
@[simp] theorem portAt_onTree (f) (s : State) (p : Nat) : portAt (s.onTree f) p = portAt s p := rfl

/-! ### Notices -/

section
variable (n : Notice) (d : Port)
@[simp] theorem Port.take_resps : (d.take n).resps = d.resps := by unfold Port.take; split <;> rfl
@[simp] theorem Port.take_tags : (d.take n).tags = d.tags := by unfold Port.take; split <;> rfl
@[simp] theorem Port.take_inbox : (d.take n).inbox = d.inbox := by unfold Port.take; split <;> rfl
@[simp] theorem Port.take_up : (d.take n).up = d.up := by unfold Port.take; split <;> rfl
@[simp] theorem Port.take_quiet : (d.take n).quiet = d.quiet := by unfold Port.take; split <;> rfl
@[simp] theorem Port.take_cause : (d.take n).cause = d.cause := by unfold Port.take; split <;> rfl
@[simp] theorem Port.take_chatter : (d.take n).chatter = d.chatter := by unfold Port.take; split <;> rfl
@[simp] theorem Port.take_role : (d.take n).role = d.role := by unfold Port.take; split <;> rfl
end

/-- What the queueing of a notice leaves of a port, a notice leaves of each port. -/
theorem portAt_notify_same {β : Type} (g : Port → β) (hg : ∀ n d, g (Port.take n d) = g d) (d : Die) (c v : Nat) (b : Bytes) (s : State)
    (p : Nat) : g (portAt (notify d c v b s) p) = g (portAt s p) :=
  notify_same (fun t => g (portAt t p)) (fun _ _ _ => rfl) (fun q n t => portAt_portQueue_same g hg q p n t)
    (fun _ _ t => by simp [portAt]) d c v b s

section
variable (d : Die) (c v : Nat) (b : Bytes) (s : State) (p : Nat)
@[simp] theorem notify_resps : (portAt (notify d c v b s) p).resps = (portAt s p).resps := portAt_notify_same Port.resps Port.take_resps d c v b s p
@[simp] theorem notify_tags : (portAt (notify d c v b s) p).tags = (portAt s p).tags := portAt_notify_same Port.tags Port.take_tags d c v b s p
@[simp] theorem notify_inbox : (portAt (notify d c v b s) p).inbox = (portAt s p).inbox := portAt_notify_same Port.inbox Port.take_inbox d c v b s p
@[simp] theorem notify_quiet : (portAt (notify d c v b s) p).quiet = (portAt s p).quiet := portAt_notify_same Port.quiet Port.take_quiet d c v b s p
@[simp] theorem notify_cause : (portAt (notify d c v b s) p).cause = (portAt s p).cause := portAt_notify_same Port.cause Port.take_cause d c v b s p
@[simp] theorem notify_chatter : (portAt (notify d c v b s) p).chatter = (portAt s p).chatter := portAt_notify_same Port.chatter Port.take_chatter d c v b s p
@[simp] theorem notify_role : (portAt (notify d c v b s) p).role = (portAt s p).role := portAt_notify_same Port.role Port.take_role d c v b s p
@[simp] theorem notify_mute : (portAt (notify d c v b s) p).mute = (portAt s p).mute := by simp [Port.mute]
@[simp] theorem notify_ports_length : (notify d c v b s).ports.length = s.ports.length :=
  notify_same (fun t => t.ports.length) (fun _ _ _ => rfl) (fun _ _ _ => updPort_ports_length _ _ _) (fun _ _ _ => by simp) d c v b s
end

/-! ### A response that waits, and one that has left -/

/-- A response joins the queue of a port whose client-facing side speaks. -/
theorem respond_heard {p : Nat} {s : State} (small : p < 5) (heard : (portAt s p).mute = false) (r : Resp) :
    respond p r s = updPort p (fun d => { d with resps := d.resps ++ [r] }) s := by
  simp [respond, Nat.not_le.mpr small, heard]

theorem serveRequest_port_same {β : Type} (g : Port → β) (hg : ∀ d n, g { d with collective := n } = g d) (q : Req) (r : Resp) (s : State)
    (p : Nat) : g (portAt (serveRequest q r s) p) = g (portAt s p) := by
  unfold serveRequest
  split
  · exact portAt_updPort_same g (fun d => hg d _) _ _ _
  · rfl

end Sys2Proof.Machine
end

section
/-!
Requests that fail a check or reuse a tag (R98, R100, Table 4.7).
-/
namespace Sys2Proof.Machine

/-- A row that is a request of the request channel is that request's arrival at its port. -/
theorem exec_memoryRow {i : Instr} {p : PortId} {op : Op} {r : Request} (row : memoryRow i = some (p, op, r)) (s : State) :
    exec i s = whenReleased s (arriveNext p op r) := by
  unfold memoryRow at row
  split at row <;> cases row <;> rfl

/-! ### The arrival of a header on a port with nothing received and no locked sequence -/

theorem takeInbox_empty {p : Nat} {s : State} (empty : (portAt s p).inbox = []) (opcode : Nat) (r : Request) :
    takeInbox p opcode r s = ([], s) := by simp [takeInbox, empty]

theorem answerUnlisted_empty {p : Nat} {s : State} (empty : (portAt s p).inbox = []) :
    answerUnlisted (portAt s p).inbox.length p s = s := by rw [empty]; rfl

@[simp] theorem returnFlits_nil (p : Nat) (s : State) : returnFlits p [] s = s := rfl

theorem breakSequence_none {p : Nat} {s : State} (none_ : (portAt s p).assembly = none) : breakSequence p s = s := by
  have failed : failSequence p s = s := by simp [failSequence, none_]
  rw [breakSequence, failed]
  exact updPort_eq_self (by rw [← none_])

theorem failMember_unlocked {r : Request} (unlocked : r.lock = false) (p : Nat) (s : State) : failMember p r s = s := by
  simp [failMember, inSequence, unlocked]

section
variable {p : Nat} {op : Op} {r : Request} {s : State} (takes : takesRequests s p = true) (unlocked : r.lock = false)
  (empty : (portAt s p).inbox = []) (alone : (portAt s p).assembly = none) (inRange : tagInRange p r = true)
include takes unlocked empty alone inRange

/-- A request whose tag is in use is dropped (R98). -/
theorem arrive_reused (used : (portAt s p).tags.contains r.tag.toNat = true) : arrive p op r s = tagReuse p r s := by
  have seq : inSequence r = false := by simp [inSequence, unlocked]
  simp only [arrive, takes, seq, takeInbox_empty empty, breakSequence_none alone, ite_self, used, inRange, returnFlits_nil,
    failMember_unlocked unlocked, Bool.not_true, Bool.false_and, Bool.and_self, Bool.false_eq_true, if_false, if_true]

/-- A request that fails a check of Table 4.7 holds its tag and is rejected (R100). -/
theorem arrive_fails {st : Nat} (free : (portAt s p).tags.contains r.tag.toNat = false) (accepts : portAccepts p (opcodeOf op) = true)
    (fails : memChecks (countCombined op (takeTag p r s)) p op r true = some st) :
    arrive p op r s = rejectHeld p op st r [] (countCombined op (takeTag p r s)) := by
  have seq : inSequence r = false := by simp [inSequence, unlocked]
  simp only [arrive, takes, seq, takeInbox_empty empty, breakSequence_none alone, ite_self, free, inRange, accepts, fails,
    Bool.not_true, Bool.false_and, Bool.false_eq_true, if_false]

end

/-! ### The answer -/

/-- A value of the state that neither a counter, nor Basket's counts, nor a notice changes. -/
structure CountKeeps {β : Type} (g : State → β) : Prop where
  count  : ∀ i k n s, g (bump i k n s) = g s
  fabric : ∀ f s, g (s.onFabric f) = g s
  notice : ∀ d c v b s, g (notify d c v b s) = g s

section
variable {β : Type} {g : State → β} (keeps : CountKeeps g)
include keeps

theorem misdirected_keeps (r : Request) (s : State) : g (misdirected r s) = g s := by
  unfold misdirected
  extract_lets n due t u
  have counted : g t = g s := keeps.count _ _ _ _
  split
  · exact (keeps.notice _ _ _ _ _).trans ((keeps.fabric _ _).trans counted)
  · exact (keeps.fabric _ _).trans counted

theorem countCombined_keeps (op : Op) (s : State) : g (countCombined op s) = g s := by
  unfold countCombined
  split
  · exact keeps.count _ _ _ _
  · rfl

end

theorem countKeeps_portAt {β : Type} {g : Port → β} (hg : ∀ n d, g (Port.take n d) = g d) (p : Nat) : CountKeeps fun t => g (portAt t p) where
  count := by simp
  fabric := by simp
  notice := fun d c v b s => portAt_notify_same g hg d c v b s p

/-- The state in which a rejected request is answered: a misdirected one is counted first (R298). -/
def judgedBad (p : Nat) (r : Request) (st : Nat) (s : State) : State := if st = 0x01 && wrongPackage s p r then misdirected r s else s

theorem judgedBad_keeps {β : Type} {g : State → β} (keeps : CountKeeps g) (p : Nat) (r : Request) (st : Nat) (s : State) :
    g (judgedBad p r st s) = g s := by
  unfold judgedBad
  split
  · exact misdirected_keeps keeps r s
  · rfl

theorem rejectHeld_noFlits (p : Nat) (op : Op) (st : Nat) (r : Request) (s : State) :
    rejectHeld p op st r [] s = reject p st (opcodeOf op) r (judgedBad p r st s) := rfl

/-- The response of a rejected request: one Error response, in its port's order unless it came on the management channel (R100, R105). -/
def rejection (nextReq status opcode : Nat) (r : Request) : Resp :=
  { kind := 3, tag := r.tag.toNat, status := status, opcode := opcode, order := if r.mgmt then none else some (nextReq, r.group.val) }

theorem reject_eq (p status opcode : Nat) (r : Request) (s : State) :
    reject p status opcode r s = respond p (rejection s.nextReq status opcode r) (lastError p status opcode r s) := by
  simp [reject, rejection, lastError]

theorem portAt_lastError_same {β : Type} (g : Port → β) (hg : ∀ d e, g { d with lastErr := e } = g d) (q status opcode : Nat) (r : Request)
    (s : State) (p : Nat) : g (portAt (lastError q status opcode r s) p) = g (portAt s p) :=
  portAt_updPort_same g (fun d => hg d _) q p s

section
variable {p : Nat} {s : State} (small : p < 5) (five : s.ports.length = 5) (heard : (portAt s p).mute = false)
include small five heard

/-- A port that speaks holds the response of a rejected request. -/
theorem portAt_reject (status opcode : Nat) (r : Request) : portAt (reject p status opcode r s) p =
    let d := portAt (lastError p status opcode r s) p
    { d with resps := d.resps ++ [rejection s.nextReq status opcode r] } := by
  have heard' : (portAt (lastError p status opcode r s) p).mute = false := by
    rw [portAt_lastError_same Port.mute fun _ _ => rfl, heard]
  rw [reject_eq, respond_heard small heard', portAt_updPort_self]
  simp [lastError, five]

theorem reject_resps (status opcode : Nat) (r : Request) :
    (portAt (reject p status opcode r s) p).resps = (portAt s p).resps ++ [rejection s.nextReq status opcode r] := by
  rw [portAt_reject small five heard]
  simp only [portAt_lastError_same Port.resps fun _ _ => rfl]

/-- A port that speaks keeps, but for its responses and its last error, what it has. -/
theorem reject_port_same {β : Type} (g : Port → β) (hresps : ∀ d l, g { d with resps := l } = g d) (herr : ∀ d e, g { d with lastErr := e } = g d)
    (status opcode : Nat) (r : Request) : g (portAt (reject p status opcode r s) p) = g (portAt s p) := by
  rw [portAt_reject small five heard]
  exact (hresps _ _).trans (portAt_lastError_same g herr _ _ _ _ _ _)

end

/-- What is no part of the ports, a rejection on a port that speaks leaves alone. -/
theorem reject_same {β : Type} (g : State → β) (hport : ∀ p f t, g (updPort p f t) = g t) {p : Nat} {s : State} (small : p < 5)
    (heard : (portAt s p).mute = false) (status opcode : Nat) (r : Request) : g (reject p status opcode r s) = g s := by
  have heard' : (portAt (lastError p status opcode r s) p).mute = false := by
    rw [portAt_lastError_same Port.mute fun _ _ => rfl, heard]
  rw [reject_eq, respond_heard small heard', hport]
  exact hport _ _ _

/-! ### The obligation -/

theorem takesRequests_heard {s : State} {p : Nat} (takes : takesRequests s p = true) : (portAt s p).mute = false := by
  simp only [takesRequests, Bool.and_eq_true, Bool.not_eq_true'] at takes
  exact takes.1.2

/-- The part of the state that no rejection changes. -/
def untouched (s : State) := (s.reqs, s.mem, s.map, s.tree, s.chans, s.reg, s.engines, s.objs)

theorem untouched_countKeeps : CountKeeps untouched := ⟨by simp [untouched], by simp [untouched], by simp [untouched]⟩

theorem untouched_updPort (p : Nat) (f : Port → Port) (s : State) : untouched (updPort p f s) = untouched s := by simp [untouched]

theorem portAt_takeTag {s : State} (five : s.ports.length = 5) (p : Nat) (r : Request) :
    portAt (takeTag p r s) p = { portAt s p with tags := (portAt s p).tags ++ [r.tag.toNat] } := by
  simp [takeTag, portAt_updPort_self five]

/-- Settles O18: a request that fails a check is rejected with its tag taken, and one whose tag is in use is only said. -/
theorem requestsThatFailOrReuseATag : Obligations.RequestsThatFailOrReuseATag := by
  unfold Obligations.RequestsThatFailOrReuseATag
  refine ⟨fun i p op r s st row high five takes unlocked empty alone free inRange accepts fails => ?_,
    fun i p op r s row high five takes unlocked empty alone used inRange => ?_⟩
  · let x := judgedBad p r st (countCombined op (takeTag p r s))
    have whole : ∀ {β : Type} {g : State → β}, CountKeeps g → g x = g (takeTag p r s) := fun keeps =>
      (judgedBad_keeps keeps _ _ _ _).trans (countCombined_keeps keeps _ _)
    have port : ∀ {β : Type} (g : Port → β), (∀ n d, g (Port.take n d) = g d) → g (portAt x p) = g (portAt (takeTag p r s) p) :=
      fun g hg => whole (countKeeps_portAt hg p)
    have small : p.val < 5 := p.isLt
    have heard : (portAt x p).mute = false := by
      rw [port Port.mute fun n d => by simp [Port.mute], portAt_takeTag five]
      exact takesRequests_heard takes
    have five' : x.ports.length = 5 := by
      rw [whole (g := fun t => t.ports.length) ⟨by simp, by simp, by simp⟩]
      simpa [takeTag] using five
    have next : x.nextReq = s.nextReq := by
      rw [whole (g := State.nextReq) ⟨by simp, by simp, by simp⟩]
      simp [takeTag]
    have answer : arriveNext p op r s = reject p st (opcodeOf op) r x := by
      rw [arriveNext, arrive_fails takes unlocked empty alone inRange free accepts fails, rejectHeld_noFlits]
      refine answerUnlisted_empty ?_
      rw [reject_port_same small five' heard Port.inbox (fun _ _ => rfl) (fun _ _ => rfl), port Port.inbox Port.take_inbox,
        portAt_takeTag five, empty]
    have rest : untouched (reject p st (opcodeOf op) r x) = untouched s := by
      rw [reject_same untouched untouched_updPort small heard, whole untouched_countKeeps]
      simp [takeTag, untouched]
    refine ⟨_, (exec_memoryRow row s).trans (whenReleased_high high _), ?_, ?_, ?_⟩
    · rw [portAt_keepFixed, answer, reject_resps small five' heard, port Port.resps Port.take_resps, portAt_takeTag five, next]
      rfl
    · rw [portAt_keepFixed, answer, reject_port_same small five' heard Port.tags (fun _ _ => rfl) (fun _ _ => rfl),
        port Port.tags Port.take_tags, portAt_takeTag five]
    · rw [answer]
      simpa [untouched] using rest
  · have answer : arriveNext p op r s = tagReuse p r s := by
      rw [arriveNext, arrive_reused takes unlocked empty alone inRange used]
      exact answerUnlisted_empty (by simp [tagReuse, empty])
    refine ⟨_, (exec_memoryRow row s).trans (whenReleased_high high _), ?_⟩
    rw [answer]
    simp [tagReuse]

end Sys2Proof.Machine
end

section
/-!
The end of a locked sequence's time (R113), and the markers and acknowledgements of sweeps (R106, R107).
-/
namespace Sys2Proof.Machine

/-- Settles O20, by whether the port assembles a sequence and how old that is. -/
theorem lockTimeoutTakesEffect : Obligations.LockTimeoutTakesEffect := by
  unfold Obligations.LockTimeoutTakesEffect
  intro p s high
  refine ⟨fun a assembled => ⟨fun late => ?_, fun early => ?_⟩, fun none_ => ?_⟩
  all_goals
    change execLockTimeout p s = _
    rw [execLockTimeout]
  · rw [whenReleased_high high]
    simp only [assembled, Nat.not_lt.mpr late, if_false]
  · exact whenReleased_same (by simp only [assembled, early, if_true])
  · exact whenReleased_same (by simp only [none_])

/-! ### Sweeps -/

theorem execSweepAcknowledge_over {m : Fin 6} {q : Fin 4} {s : State} {w : Sweep} (high : s.released = true)
    (oldest : (portAt s m).sweeps.find? (·.quad == q.val) = some w) (there : w.arrived = true) (over_ : generationDone s m q w.gen = true) :
    execSweepAcknowledge m q s = .next (keepFixed s true
      (pendingReroutes q (updPort m (fun d => { d with sweeps := dropFirst (· == w) d.sweeps }) s))) := by
  rw [execSweepAcknowledge, whenReleased_high high]
  simp only [oldest, there, over_, Bool.and_self, if_true]

/-- Settles O27: a marker's row changes one sweep of its path, an acknowledgement's takes one off, and a reroute that waited goes on where
no path is full. -/
theorem sweepsArriveAndAreAcknowledged : Obligations.SweepsArriveAndAreAcknowledged := by
  unfold Obligations.SweepsArriveAndAreAcknowledged
  refine fun m q s high five => ⟨fun i oldest => ⟨_, whenReleased_high high _, ?_⟩,
    fun w oldest there over_ => execSweepAcknowledge_over high oldest there over_, fun x none_ => ?_, fun x c rest waits room => ?_⟩
  · rw [portAt_keepFixed, portAt_updPort_self five]
    simp only [oldest]
    simp
  · simp only [pendingReroutes, none_]
  · simp only [pendingReroutes, waits, room, Bool.false_eq_true, if_false]

end Sys2Proof.Machine
end

section
/-!
Responses and notices that leave a port (R42, R89, R97, R124, R315).
-/
namespace Sys2Proof.Machine

/-! ### Flits -/

/-- What waits at a port to be sent: responses, notices with the drops not said yet, and the tags of what is not answered. -/
def Port.waiting (d : Port) := (d.resps, d.tags, d.notices, d.unsaid)

/-- A value of the state that no change of a port's link layer and no count changes. -/
structure LinkKeeps {β : Type} (g : State → β) : Prop where
  port  : ∀ p f s, (∀ d, (f d).waiting = d.waiting) → g (updPort p f s) = g s
  count : ∀ i k n s, g (bump i k n s) = g s

section
variable {β : Type} {g : State → β} (keeps : LinkKeeps g)
include keeps

theorem sendFlit_keeps (p : Nat) (slots : List (Bool × Bytes)) (s : State) : g (sendFlit p slots s) = g s := by
  unfold sendFlit
  split
  · rfl
  · exact (keeps.count _ _ _ _).trans (keeps.port _ _ _ fun _ => rfl)

theorem sendResponse_keeps {p : Nat} {r : Resp} {s t : State} (sent : sendResponse p r s = some t) : g t = g s := by
  unfold sendResponse at sent
  extract_lets groups at sent
  split at sent
  · cases sent
  · cases sent
    exact forEach_same g (fun slots x => sendFlit_keeps keeps p slots x) _ _

theorem countResponse_keeps (p : Nat) (r : Resp) (s : State) : g (countResponse p r s) = g s := by
  have counted : ∀ (c : Prop) [Decidable c] (i k n : Nat) (x : State), g (if c then bump i k n x else x) = g x := fun c _ i k n x => by
    split
    · exact keeps.count _ _ _ _
    · rfl
  unfold countResponse
  extract_lets read t u v w
  have ht : g t = g s := counted _ _ _ _ _
  have hu : g u = g t := counted _ _ _ _ _
  have hv : g v = g u := counted _ _ _ _ _
  have hw : g w = g v := counted _ _ _ _ _
  exact (counted _ _ _ _ _).trans (hw.trans (hv.trans (hu.trans ht)))

end

theorem linkKeeps_waiting (p : Nat) : LinkKeeps fun t => (portAt t p).waiting where
  port := fun q f s hf => portAt_updPort_same Port.waiting hf q p s
  count := by simp

/-- The part of the state that neither sends nor frees anything. -/
def beside (s : State) := (s.mem, s.objs, s.map, s.ports.length)

theorem beside_updPort (p : Nat) (f : Port → Port) (s : State) : beside (updPort p f s) = beside s := by simp [beside]

theorem ports_length_of_beside {s t : State} (same : beside t = beside s) : t.ports.length = s.ports.length := congrArg (·.2.2.2) same

theorem linkKeeps_beside : LinkKeeps beside := ⟨by simp [beside], by simp [beside]⟩

theorem linkKeeps_reqs : LinkKeeps State.reqs := ⟨by simp, by simp⟩

/-! ### A response's request is over -/

/-- The latency of the request that a final response answers (R209). -/
def timed (r : Resp) (s : State) : State :=
  match r.req with
  | some id => if r.final then requestServed id s else s
  | none => s

theorem timed_same {β : Type} (g : State → β) (hreg : ∀ f s, g (State.onReg s f) = g s) (hnotice : ∀ d c v b s, g (notify d c v b s) = g s)
    (r : Resp) (s : State) : g (timed r s) = g s := by
  have window : ∀ e t, g (endLatencyWindow e t) = g t := fun e t => by
    unfold endLatencyWindow
    extract_lets last x u v
    have hv : g v = g t := (hreg _ _).trans (hreg _ _)
    split
    · rfl
    · split
      · exact hv
      · exact (hnotice _ _ _ _ _).trans hv
  have recorded : ∀ e since t, g (recordLatency e since t) = g t := fun e since t => by
    unfold recordLatency
    split
    · rfl
    · exact (hreg _ _).trans (window e t)
  unfold timed requestServed
  split
  · split
    · split
      · rfl
      · exact recorded _ _ _
    · rfl
  · rfl

theorem timed_notFinal {r : Resp} (more : r.final = false) (s : State) : timed r s = s := by
  unfold timed
  split <;> simp [more]

theorem endResponse_notFinal {r : Resp} (more : r.final = false) (p : Nat) (s : State) : endResponse p r s = s := by
  simp [endResponse, more]

/-- The state once a response's request, where it has one, is served and forgotten. -/
def requestOver (r : Resp) (s : State) : State :=
  match r.req.bind (reqAt s) with
  | some q => dropReq q.id (serveRequest q r s)
  | none => s

theorem endResponse_final {r : Resp} (last : r.final = true) (noNotice : r.kind ≠ 8) (p : Nat) (s : State) :
    endResponse p r s = freeTag p r.tag (requestOver r s) := by
  simp only [endResponse, last, noNotice, ne_eq, not_false_eq_true, decide_true, Bool.and_self, if_true]
  rfl

theorem requestOver_port_same {β : Type} (g : Port → β) (hg : ∀ d n, g { d with collective := n } = g d) (r : Resp) (s : State) (p : Nat) :
    g (portAt (requestOver r s) p) = g (portAt s p) := by
  unfold requestOver
  split
  · exact serveRequest_port_same g hg _ _ _ _
  · rfl

theorem requestOver_beside (r : Resp) (s : State) : beside (requestOver r s) = beside s := by
  unfold requestOver serveRequest
  split
  · split
    · simp [beside, serveCollective, dropReq]
    · rfl
  · rfl

theorem endResponse_resps (p : Nat) (r : Resp) (s : State) : (portAt (endResponse p r s) p).resps = (portAt s p).resps := by
  by_cases over_ : r.final = true ∧ r.kind ≠ 8
  · rw [endResponse_final over_.1 over_.2, freeTag]
    exact (portAt_updPort_same Port.resps (fun _ => by rfl) _ _ _).trans (requestOver_port_same Port.resps (fun _ _ => rfl) _ _ _)
  · simp [endResponse, over_]

theorem endResponse_beside (p : Nat) (r : Resp) (s : State) : beside (endResponse p r s) = beside s := by
  by_cases over_ : r.final = true ∧ r.kind ≠ 8
  · rw [endResponse_final over_.1 over_.2, freeTag]
    exact (beside_updPort _ _ _).trans (requestOver_beside r s)
  · simp [endResponse, over_]

/-! ### The oldest response -/

/-- A response once its flits have left and before its request is over: it waits no more, and is counted and timed. -/
def departed (p : Nat) (r : Resp) (s : State) : State :=
  timed r (countResponse p r (updPort p (fun d => { d with resps := dropFirst (· == r) d.resps }) s))

theorem sendOldest_sends {p : Nat} {r : Resp} {s t : State} (oldest : (portAt s p).resps.find? (mayLeave s) = some r)
    (sent : sendResponse p r s = some t) : sendOldest p s = endResponse p r (departed p r t) := by
  simp only [sendOldest, oldest, sent]
  rfl

section
variable {p : Nat} {r : Resp} {s t : State} (sent : sendResponse p r s = some t)
include sent

theorem departed_beside : beside (departed p r t) = beside s := by
  have counted : ∀ x, beside (countResponse p r x) = beside x := countResponse_keeps linkKeeps_beside p r
  rw [departed, timed_same beside (fun _ _ => rfl) fun d c v b y => by simp [beside], counted, beside_updPort]
  exact sendResponse_keeps linkKeeps_beside sent

theorem departed_reqs (more : r.final = false) : (departed p r t).reqs = s.reqs := by
  rw [departed, timed_notFinal more, countResponse_keeps linkKeeps_reqs, updPort_reqs, sendResponse_keeps linkKeeps_reqs sent]

theorem departed_port {rest : List Resp} (five : s.ports.length = 5) (waits : (portAt s p).resps = r :: rest) : (portAt (departed p r t) p).resps = rest ∧ (portAt (departed p r t) p).tags = (portAt s p).tags := by
  have same : (portAt t p).waiting = (portAt s p).waiting := sendResponse_keeps (linkKeeps_waiting p) sent
  have five' : t.ports.length = 5 := (ports_length_of_beside (sendResponse_keeps linkKeeps_beside sent)).trans five
  have timedPort : ∀ {β : Type} (g : Port → β), (∀ n d, g (Port.take n d) = g d) → ∀ x, g (portAt (timed r x) p) = g (portAt x p) :=
    fun g hg x => timed_same (fun y => g (portAt y p)) (fun _ _ => rfl) (fun d c v b y => portAt_notify_same g hg d c v b y p) r x
  have counted : ∀ x, (portAt (countResponse p r x) p).waiting = (portAt x p).waiting := countResponse_keeps (linkKeeps_waiting p) p r
  simp only [Port.waiting, Prod.mk.injEq] at same counted
  obtain ⟨resps, tags, -, -⟩ := same
  rw [departed, timedPort Port.resps Port.take_resps, timedPort Port.tags Port.take_tags, (counted _).1, (counted _).2.1,
    portAt_updPort_self five']
  exact ⟨by simp [resps, waits, dropFirst], tags⟩

end

/-! ### The oldest notice -/

theorem sendNotice_sends {p : Nat} {n : Notice} {rest : List Notice} {s t : State} (waits : (portAt s p).notices = n :: rest)
    (sent : sendResponse p { kind := 8, tag := n.code, data := noticeBody n false } s = some t) :
    sendNotice p s = saidDrops p (updPort p (fun d => { d with notices := rest }) t) := by
  simp only [sendNotice, waits, sent]

theorem saidDrops_none {p : Nat} {s : State} (none_ : (portAt s p).unsaid = 0) : saidDrops p s = s := by simp [saidDrops, none_]

/-! ### The obligation -/

theorem execResponseSent_free {p : PortId} {s : State} (high : s.released = true) (up : (portAt s p).up = true)
    (heard : (portAt s p).mute = false) (none_ : (portAt s p).again = []) (notice : Bool) :
    execResponseSent p notice s = .next (keepFixed s true (if notice then sendNotice p s else sendOldest p s)) := by
  rw [execResponseSent, whenReleased_high high]
  simp [up, heard, none_]

/-- Settles O22: the flits that carry a response or a notice change neither what waits at the port nor what is beside the ports. -/
theorem responsesLeaveInOrder : Obligations.ResponsesLeaveInOrder := by
  unfold Obligations.ResponsesLeaveInOrder
  intro p s high five up heard none_
  refine ⟨fun r rest waits may can => ?_, fun n rest waits said can => ?_⟩
  · obtain ⟨u, sent⟩ := Option.isSome_iff_exists.mp can
    have oldest : (portAt s p).resps.find? (mayLeave s) = some r := by simp [waits, may]
    obtain ⟨resps, tags⟩ := departed_port sent five waits
    have same : beside (endResponse p r (departed p r u)) = beside s := (endResponse_beside _ _ _).trans (departed_beside sent)
    simp only [beside, Prod.mk.injEq] at same
    obtain ⟨mem, objs, map, -⟩ := same
    have five' : (requestOver r (departed p r u)).ports.length = 5 :=
      (ports_length_of_beside ((requestOver_beside r (departed p r u)).trans (departed_beside sent))).trans five
    refine ⟨_, execResponseSent_free high up heard none_ false, ?_⟩
    simp only [Bool.false_eq_true, if_false, sendOldest_sends oldest sent, portAt_keepFixed, keepFixed_mem, keepFixed_objs, keepFixed_map,
      keepFixed_reqs, endResponse_resps]
    refine ⟨resps, mem, objs, map, fun last noNotice => ?_, fun more => ?_⟩
    · rw [endResponse_final last noNotice, freeTag, portAt_updPort_self five', requestOver_port_same Port.tags fun _ _ => rfl, tags]
    · rw [endResponse_notFinal more]
      exact ⟨tags, departed_reqs sent more⟩
  · obtain ⟨u, sent⟩ := Option.isSome_iff_exists.mp can
    have waiting : (portAt u p).waiting = (portAt s p).waiting := sendResponse_keeps (linkKeeps_waiting p) sent
    have same : beside u = beside s := sendResponse_keeps linkKeeps_beside sent
    simp only [Port.waiting, beside, Prod.mk.injEq] at waiting same
    obtain ⟨resps, tags, -, unsaid⟩ := waiting
    obtain ⟨mem, -, map, length⟩ := same
    have five' : u.ports.length = 5 := length.trans five
    have silent : saidDrops p (updPort p (fun d => { d with notices := rest }) u) = updPort p (fun d => { d with notices := rest }) u :=
      saidDrops_none (by rw [portAt_updPort_self five', unsaid, said])
    refine ⟨_, execResponseSent_free high up heard none_ true, ?_⟩
    simp only [if_true, sendNotice_sends waits sent, silent, portAt_keepFixed, keepFixed_reqs, keepFixed_mem, keepFixed_map,
      portAt_updPort_self five', updPort_reqs, updPort_mem, updPort_map]
    exact ⟨trivial, resps, tags, sendResponse_keeps linkKeeps_reqs sent, mem, map⟩

end Sys2Proof.Machine
end

section
/-!
Fences, visible writes and Basket flushes (R103, R105, R108, R308, R310, R315).
-/
namespace Sys2Proof.Machine

/-! ### The rows -/

section
variable {s : State} (high : s.released = true)
include high

theorem execFenceComplete_ready {p : PortId} {tag : BitVec 16} {f : Req}
    (oldest : s.reqs.find? (fun r => r.port == p.val && r.r.tag == tag && (r.op = .fence || r.op = .fullFence) && r.status.isNone) = some f)
    (ready : fenceReady s f = true) : execFenceComplete p tag s = .next (keepFixed s true
      (wakeHeld p (respond p (doneOf f 0) (updReq f.id (fun q => { q with status := some 0 }) s)))) := by
  rw [execFenceComplete, whenReleased_high high]
  simp only [oldest, ready, Bool.not_true, Bool.false_eq_true, if_false]

/-- A visible write of a port is answered, behind its invalidation (R103, R315). -/
theorem execVisibilityPoint_port {id : Nat} {r : Req} (there : reqAt s id = some r) (visible : writeVisible r = true) (plain : r.op ≠ .flush)
    (filled : fillsPending s r = false) (small : r.port < 5) : execVisibilityPoint id s = .next (keepFixed s true
      (let s0 := (invalidateFor r s).1
       let resp := { withFar s0 r (writeResponse r) with behind := (invalidateFor r s).2 }
       let s1 := updReq r.id (fun q => { q with status := some resp.status }) s0
       wakeHeld r.port (respond r.port resp (if resp.status = 0 then s1 else lastError r.port resp.status (opcodeOf r.op) r.r s1)))) := by
  rw [execVisibilityPoint, whenReleased_high high]
  simp only [there, visible, plain, filled, Nat.not_le.mpr small, Bool.not_true, decide_false, Bool.or_self, Bool.false_eq_true,
    if_false]

/-- A visible write of an engine goes on as its invalidation lets it (R315). -/
theorem execVisibilityPoint_engine {id : Nat} {r : Req} (there : reqAt s id = some r) (visible : writeVisible r = true)
    (plain : r.op ≠ .flush) (filled : fillsPending s r = false) (big : 5 ≤ r.port) :
    execVisibilityPoint id s = .next (keepFixed s true (engineVisible r s)) := by
  rw [execVisibilityPoint, whenReleased_high high]
  simp only [there, visible, plain, filled, big, Bool.not_true, decide_false, Bool.or_self, Bool.false_eq_true, if_false, if_true]

theorem execBasketFlushVisible_over {id : Nat} {f : Req} (there : reqAt s id = some f) (visible : writeVisible f = true) (flush : f.op = .flush)
    (filled : fillsPending s f = false) : execBasketFlushVisible id s = .next (keepFixed s true
      (wakeHeld 4 (dropReq f.id (forEach f.merged (answerMerged f) (invalidateFor f s).1)))) := by
  rw [execBasketFlushVisible, whenReleased_high high]
  simp only [there, visible, flush, filled, ne_eq, not_true_eq_false, Bool.not_true, decide_false, Bool.or_self, Bool.false_eq_true, if_false]

theorem execCombiningWindowExpiry_over {a : Nat} {l : Line} (opened : s.fabric.lines.find? (·.addr = a) = some l)
    (over_ : l.opened + l.window ≤ s.clk.hub) :
    execCombiningWindowExpiry a s = .next (keepFixed s true (retryHeads (flushLine l false s))) := by
  rw [execCombiningWindowExpiry, whenReleased_high high]
  simp only [opened, Nat.not_lt.mpr over_, if_false]

end

/-! ### A write of an engine -/

section
variable {r : Req} {s : State}

theorem engineVisible_free (fresh : r.behind = none) (none_ : (invalidateFor r s).2 = none) :
    engineVisible r s = engineWriteDone r (invalidateFor r s).1 := by
  unfold engineVisible
  rw [fresh]
  generalize invalidateFor r s = v at none_ ⊢
  obtain ⟨t, m⟩ := v
  cases none_
  rfl

theorem engineVisible_waits {m : Nat} (fresh : r.behind = none) (sent : (invalidateFor r s).2 = some m) :
    engineVisible r s = updReq r.id (fun q => { q with behind := some m }) (invalidateFor r s).1 := by
  unfold engineVisible
  rw [fresh]
  generalize invalidateFor r s = v at sent ⊢
  obtain ⟨t, m'⟩ := v
  cases sent
  rfl

theorem engineVisible_left {m : Nat} (waits : r.behind = some m) (left : leftHub s m = true) : engineVisible r s = engineWriteDone r s := by
  simp only [engineVisible, waits, left, if_true]

end

/-! ### Responses -/

/-- A Write, a Write zero and a Poison are answered with Done (R100). -/
theorem writeResponse_plain {r : Req} (plain : r.op = .write ∨ r.op = .zero ∨ r.op = .poison) : writeResponse r = doneOf r (r.charge / 32) := by
  rcases plain with h | h | h <;> simp [writeResponse, h, Op.isAtomic, Op.fetches]

/-- The status of a request that Basket merged into a flush: 0x05 where an atomic line's poisoned sector holds its bytes (R119, R310). -/
def mergedStatus (f : Req) (m : Nat × Nat × Nat) : Nat :=
  if (f.line.bind (·.atomic)).isSome && hitByPoison (((f.parts.head?).map (·.poison)).getD 0) m then 0x05 else 0

/-- The response of a merged request with a status. -/
def mergedResponse (r : Req) (st : Nat) : Resp := if st = 0 then doneOf r (r.charge / 32) else errorOf r st (r.charge / 32)

theorem answerMerged_resps (f : Req) (m : Nat × Nat × Nat) {x : State} {r : Req} (there : reqAt x m.1 = some r) (five : x.ports.length = 5)
    (heard : (portAt x 4).mute = false) : ∃ y, (portAt (answerMerged f m x) 4).resps =
      (portAt x 4).resps ++ [withFar y r (mergedResponse r (mergedStatus f m))] := by
  let st := mergedStatus f m
  let t := updReq r.id (fun q => { q with status := some st }) x
  let y := if st = 0 then t else lastError 4 st (opcodeOf r.op) r.r t
  have answer : answerMerged f m x = respond 4 (withFar y r (mergedResponse r st)) y := by
    simp only [answerMerged, there]
    rfl
  have port : ∀ {β : Type} (g : Port → β), (∀ d e, g { d with lastErr := e } = g d) → g (portAt y 4) = g (portAt x 4) := fun g hg => by
    unfold y
    split
    · rfl
    · exact portAt_lastError_same g hg _ _ _ _ _ _
  have five' : y.ports.length = 5 := by
    unfold y
    split
    · exact five
    · exact (updPort_ports_length _ _ _).trans five
  refine ⟨y, ?_⟩
  rw [answer, respond_heard (by decide) ((port Port.mute fun _ _ => rfl).trans heard), portAt_updPort_self five']
  exact congrArg (· ++ _) (port Port.resps fun _ _ => rfl)

/-- Settles O21, row by row. -/
theorem fencesWritesAndFlushes : Obligations.FencesWritesAndFlushes := by
  unfold Obligations.FencesWritesAndFlushes
  refine ⟨fun p tag s f high oldest ready => execFenceComplete_ready high oldest ready,
    fun id s r high there visible plain filled => ⟨fun small => execVisibilityPoint_port high there visible plain filled small,
      fun big => ?_, fun done => ?_⟩,
    fun s high => ⟨fun id f there visible flush filled => execBasketFlushVisible_over high there visible flush filled,
      fun f m x r there five heard => ?_, fun a l opened over_ => execCombiningWindowExpiry_over high opened over_⟩⟩
  · have answer : exec (.visibilityPoint id) s = _ := execVisibilityPoint_engine high there visible plain filled big
    refine ⟨fun fresh none_ => ?_, fun m fresh sent => ?_, fun m waits left => ?_⟩
    · rw [answer, engineVisible_free fresh none_]
    · rw [answer, engineVisible_waits fresh sent]
    · rw [answer, engineVisible_left waits left]
  · rw [writeResponse_plain done]
    exact ⟨rfl, rfl, rfl⟩
  · obtain ⟨y, resps⟩ := answerMerged_resps f m there five heard
    refine ⟨_, resps, ?_⟩
    by_cases hit : mergedStatus f m = 0
    · rw [hit]
      exact ⟨rfl, .inl ⟨rfl, rfl⟩, fun _ => rfl⟩
    · have poisoned : mergedStatus f m = 0x05 := by
        unfold mergedStatus at hit ⊢
        split
        · rfl
        · next no => simp [no] at hit
      refine ⟨by simp [mergedResponse, poisoned, withFar, errorOf], .inr (by simp [mergedResponse, poisoned, withFar, errorOf]), fun store => ?_⟩
      exact absurd (by simp [mergedStatus, store]) hit

end Sys2Proof.Machine
end

section
/-!
Dictionary requests in band (R122, R123): how one comes to its turn on its port, and what a read is answered.
-/
namespace Sys2Proof.Machine

/-! ### A header that takes its tag -/

/-- The state in which a header's tag is judged: its flits are taken, and a sequence that it is no member of is broken (R113). -/
def headerTaken (p opcode : Nat) (r : Request) (s : State) : State :=
  if breaksSequence r then breakSequence p (arrived p opcode r s) else arrived p opcode r s

/-- The end of a header's row: a locked one fails its sequence (R112), and unlisted opcodes behind it are answered (R93). -/
def headerOver (p : Nat) (r : Request) (s : State) : State :=
  answerUnlisted (portAt (failMember p r s) p).inbox.length p (failMember p r s)

section
variable {src : Src} {ends : Bool} {p opcode : Nat} {r : Request} {s : State} (takes : takesRequests s p = true)
  (inRange : tagInRange p r = true) (free : (portAt (headerTaken p opcode r s) p).tags.contains r.tag.toNat = false)
include takes inRange free

theorem inBand_runs (accepts : portAccepts p opcode = true) :
    inBand src ends p opcode r s = headerOver p r (turnInBand src ends p opcode r (takeTag p r (headerTaken p opcode r s))) := by
  simp only [headerTaken, arrived] at free ⊢
  simp only [inBand, takes, free, accepts, inRange, Bool.not_true, Bool.false_and, Bool.false_eq_true, if_false]
  rfl

theorem inBand_refused (refuses : portAccepts p opcode = false) :
    inBand src ends p opcode r s = headerOver p r (reject p 0x04 opcode r (takeTag p r (headerTaken p opcode r s))) := by
  simp only [headerTaken, arrived] at free ⊢
  simp only [inBand, takes, free, refuses, inRange, Bool.not_true, Bool.not_false, Bool.false_and, Bool.false_eq_true, if_false, if_true]
  rfl

end

theorem portAccepts_dictionary (p : PortId) {opcode : Nat} (dict : opcode = 0x18 ∨ opcode = 0x19) :
    portAccepts p opcode = decide (p.val < 4) := by
  rcases dict with rfl | rfl <;> fin_cases p <;> rfl

/-! ### Its turn -/

/-- An earlier dictionary request of the port is at work or waits (R122). -/
def DictWaits (s : State) (p : Nat) : Prop := dictBusy s p = true ∨ (portAt s p).dict ≠ []

section
variable {src : Src} {ends : Bool} {p opcode : Nat} {r : Request} {s : State}

theorem turnInBand_first (first : ¬ DictWaits s p) : turnInBand src ends p opcode r s = runInBand src ends p opcode r s := by
  simp only [DictWaits, not_or, not_not] at first
  simp [turnInBand, first]

theorem turnInBand_behind (waits : DictWaits s p) :
    turnInBand src ends p opcode r s = updPort p (fun d => { d with dict := d.dict ++ [(opcode, r, ends)] }) s := by
  have here : (dictBusy s p || !(portAt s p).dict.isEmpty) = true := by simpa [DictWaits] using waits
  simp only [turnInBand, here, if_true]

theorem runInBand_stopped (stops : inBandStop s p opcode r ≠ 0) :
    runInBand src ends p opcode r s = inBandAnswer p opcode r (inBandStop s p opcode r) [] s := by
  simp only [runInBand, stops, ne_eq, not_false_eq_true, if_true]

theorem runInBand_read (passes : inBandStop s p 0x18 r = 0) :
    runInBand src ends p 0x18 r s = inBandAnswer p 0x18 r (inBandRead p r s).2.1 (inBandRead p r s).2.2 (inBandRead p r s).1 := by
  simp only [runInBand, passes, ne_eq, not_true_eq_false, if_false, if_true]

theorem runInBand_write (passes : inBandStop s p 0x19 r = 0) :
    runInBand src ends p 0x19 r s = if (inBandWrite src ends p r s).2 = 0x10 then (inBandWrite src ends p r s).1
      else inBandAnswer p 0x19 r (inBandWrite src ends p r s).2 [] (inBandWrite src ends p r s).1 := by
  simp only [runInBand, passes, ne_eq, not_true_eq_false, if_false, Nat.reduceEqDiff]

end

/-! ### A read that no flit delivered -/

/-- A read of another object than the challenge changes nothing. -/
theorem inBandRead_state {r : Request} (other : dictIndex r ≠ 0x1122) (p : Nat) (s : State) : (inBandRead p r s).1 = s := by
  unfold inBandRead
  extract_lets i sub n stop v
  (repeat' split) <;> rfl

/-- The response to a Dictionary read: the value, behind the invalidation that a command has sent (R318), or the status. -/
def readResponse (r : Request) (status : Nat) (value : Bytes) (behind : Option Nat) : Resp :=
  if status = 0 then { kind := 2, tag := r.tag.toNat, data := value, opcode := 0x18, behind := behind }
  else { kind := 3, tag := r.tag.toNat, status := status, opcode := 0x18 }

/-- The state in which a read's response joins its queue: the command's mark is taken, and an error is the port's last. -/
def readJudged (p : Nat) (r : Request) (status : Nat) (s : State) : State :=
  let s := s.onFabric fun f => { f with commandMark := none }
  if status = 0 then s else lastError p status 0x18 r s

theorem readJudged_port_same {β : Type} (g : Port → β) (hg : ∀ d e, g { d with lastErr := e } = g d) (p : Nat) (r : Request) (status : Nat)
    (s : State) : g (portAt (readJudged p r status s) p) = g (portAt s p) := by
  unfold readJudged
  split
  · rfl
  · exact portAt_lastError_same g hg _ _ _ _ _ _

theorem readJudged_untouched (p : Nat) (r : Request) (status : Nat) (s : State) : untouched (readJudged p r status s) = untouched s := by
  unfold readJudged
  split
  · rfl
  · exact untouched_updPort _ _ _

theorem readJudged_ports_length (p : Nat) (r : Request) (status : Nat) (s : State) :
    (readJudged p r status s).ports.length = s.ports.length := by
  unfold readJudged
  split
  · rfl
  · exact updPort_ports_length _ _ _

theorem inBandAnswer_read {p : Nat} {r : Request} {s : State} (small : p < 5) (up : (portAt s p).up = true)
    (heard : (portAt s p).mute = false) (mgmt : r.mgmt = true) (status : Nat) (value : Bytes) :
    inBandAnswer p 0x18 r status value s =
      updPort p (fun d => { d with resps := d.resps ++ [readResponse r status value s.fabric.commandMark] }) (readJudged p r status s) := by
  have heard' : (portAt (readJudged p r status s) p).mute = false := (readJudged_port_same Port.mute (fun _ _ => rfl) _ _ _ _).trans heard
  rw [← respond_heard small heard']
  by_cases ok : status = 0 <;> simp [inBandAnswer, up, ok, readJudged, readResponse, reject_eq, rejection, mgmt]

/-- What a management request leaves where its port has nothing received: its tag is taken. -/
theorem headerTaken_mgmt {p : Nat} {r : Request} {s : State} (empty : (portAt s p).inbox = []) (mgmt : r.mgmt = true) (opcode : Nat) :
    headerTaken p opcode r s = s := by
  simp [headerTaken, arrived, breaksSequence, mgmt, takeInbox_empty empty]

theorem failMember_mgmt {r : Request} (mgmt : r.mgmt = true) (p : Nat) (s : State) : failMember p r s = s := by
  simp [failMember, inSequence, mgmt]

section
variable {p : PortId} {r : Request} {s : State} (takes : takesRequests s p = true) (inRange : tagInRange p r = true) (small : p.val < 4)
  (five : s.ports.length = 5) (empty : (portAt s p).inbox = []) (mgmt : r.mgmt = true)
  (free : (portAt s p).tags.contains r.tag.toNat = false) (first : ¬ DictWaits s p) (passes : inBandStop (takeTag p r s) p 0x18 r = 0)
  (other : dictIndex r ≠ 0x1122)
include takes inRange small five empty mgmt free first passes other

/-- A read that no flit delivered is answered in its turn. -/
theorem inBand_reads (src : Src) (ends : Bool) :
    let x := takeTag p r s
    let a := inBandRead p r x
    inBand src ends p 0x18 r s = updPort p (fun d => { d with resps := d.resps ++ [readResponse r a.2.1 a.2.2 s.fabric.commandMark] })
      (readJudged p r a.2.1 x) := by
  intro x a
  have accepts : portAccepts p 0x18 = true := by simpa [small] using portAccepts_dictionary p (.inl rfl)
  have turn : ¬ DictWaits x p := by rwa [DictWaits, dictBusy_takeTag, takeTag_dict]
  have same : a.1 = x := inBandRead_state other p x
  have port : portAt x p = { portAt s p with tags := (portAt s p).tags ++ [r.tag.toNat] } := portAt_takeTag five p r
  have up : (portAt x p).up = true := by
    rw [port]
    simp only [takesRequests, Bool.and_eq_true] at takes
    exact takes.1.1
  have heard : (portAt x p).mute = false := by
    rw [port]
    exact takesRequests_heard takes
  have five' : x.ports.length = 5 := by simpa [x, takeTag] using five
  have mark : x.fabric.commandMark = s.fabric.commandMark := by simp [x, takeTag]
  rw [inBand_runs takes inRange (by rwa [headerTaken_mgmt empty mgmt]) accepts, headerTaken_mgmt empty mgmt, turnInBand_first turn,
    runInBand_read passes, headerOver, failMember_mgmt mgmt]
  change answerUnlisted (portAt (inBandAnswer p 0x18 r a.2.1 a.2.2 a.1) p).inbox.length p (inBandAnswer p 0x18 r a.2.1 a.2.2 a.1) = _
  rw [same, inBandAnswer_read p.isLt up heard mgmt, mark]
  refine answerUnlisted_empty ?_
  rw [portAt_updPort_self (by rw [readJudged_ports_length, five'])]
  refine (readJudged_port_same Port.inbox (fun _ _ => rfl) p r _ x).trans ?_
  rw [port]
  exact empty

end

/-- Settles O23: the header takes its tag, and what it runs is its turn; a read's response is the only one it brings. -/
theorem dictionaryRequestsRunInBand : Obligations.DictionaryRequestsRunInBand := by
  unfold Obligations.DictionaryRequestsRunInBand
  intro p r s high takes inRange before free ended busy i opcode row isFree x
  have listed : (i = .dictionaryRead p r ∧ opcode = 0x18) ∨ (i = .dictionaryWrite p r ∧ opcode = 0x19) := by simpa using row
  have dict : opcode = 0x18 ∨ opcode = 0x19 := listed.imp And.right And.right
  have answer : exec i s = .next (keepFixed s true (inBand (portSrc p r) true p opcode r s)) := by
    rcases listed with ⟨rfl, rfl⟩ | ⟨rfl, rfl⟩ <;> exact whenReleased_high high _
  have runs : p.val < 4 → inBand (portSrc p r) true p opcode r s = headerOver p r (turnInBand (portSrc p r) true p opcode r x) := fun small =>
    inBand_runs takes inRange isFree (by simpa [small] using portAccepts_dictionary p dict)
  refine ⟨fun small first => ?_, fun small waits => ?_, fun fp => ?_, fun small five empty mgmt first passes other => ?_⟩
  · rw [answer, runs small, turnInBand_first first]
    refine ⟨fun stops => ?_, fun passes read => ?_, fun passes write => ?_⟩
    · rw [runInBand_stopped stops]
      rfl
    · subst read
      rw [runInBand_read passes]
      rfl
    · subst write
      rw [runInBand_write passes]
      rfl
  · rw [answer, runs small, turnInBand_behind waits]
    rfl
  · rw [answer, inBand_refused takes inRange isFree (by simpa [fp] using portAccepts_dictionary p dict)]
    rfl
  · have start : x = takeTag p r s := congrArg (takeTag p r) (headerTaken_mgmt empty mgmt opcode)
    have free' : (portAt s p).tags.contains r.tag.toNat = false := by
      rw [← headerTaken_mgmt empty mgmt opcode]
      exact isFree
    rw [start] at passes ⊢
    intro a
    have reads := inBand_reads takes inRange small five empty mgmt free' first passes other (portSrc p r) true
    have length : (readJudged p r a.2.1 (takeTag p r s)).ports.length = 5 := by
      rw [readJudged_ports_length]
      simpa [takeTag] using five
    have rest : untouched (readJudged p r a.2.1 (takeTag p r s)) = untouched s := by
      rw [readJudged_untouched]
      simp [untouched, takeTag]
    refine ⟨_, whenReleased_high high _, ?_⟩
    rw [reads, portAt_keepFixed, portAt_updPort_self length]
    simp only [untouched, Prod.mk.injEq] at rest
    obtain ⟨reqs, mem, map, -, -, -, -, objs⟩ := rest
    refine ⟨?_, ?_, ?_, ?_, ?_, ?_⟩
    · refine (readJudged_port_same Port.tags (fun _ _ => rfl) p r _ _).trans ?_
      rw [portAt_takeTag five]
    · refine congrArg (· ++ _) ((readJudged_port_same Port.resps (fun _ _ => rfl) p r _ _).trans ?_)
      rw [portAt_takeTag five]
    · exact (updPort_objs _ _ _).trans objs
    · exact (updPort_mem _ _ _).trans mem
    · exact (updPort_map _ _ _).trans map
    · exact (updPort_reqs _ _ _).trans reqs

end Sys2Proof.Machine
end

section
/-!
What the requests of the ports leave alone on their way in and when they are retired (R100 to R113, R118, R183, R188, R305 to R311):
each operation is made of a few changes of the state, and keeps every value that these keep.
-/
namespace Sys2Proof.Machine

/-- The mode of a port's client-facing side, which only quiet, a reset, a hold and a link that comes up change. -/
def Port.side (d : Port) := (d.quiet, d.inReset, d.hold)

theorem Port.take_side (n : Notice) (d : Port) : (d.take n).side = d.side := by simp [Port.side]

/-- A value of the state that each change the traffic of requests is made of keeps. -/
structure TrafficKeeps {β : Type} (g : State → β) : Prop where
  port    : ∀ p f s, (∀ d, (f d).side = d.side) → g (updPort p f s) = g s
  reqs    : ∀ f s, g (State.onReqs s f) = g s
  add     : ∀ r s, g (addReq r s) = g s
  reg     : ∀ f s, (∀ r, (f r).urgency = r.urgency) → g (State.onReg s f) = g s
  tree    : ∀ f s, g (State.onTree s f) = g s
  fabric  : ∀ f s, g (State.onFabric s f) = g s
  map     : ∀ f s, g (State.onMap s f) = g s
  engines : ∀ f s, g (State.onEngines s f) = g s
  power   : ∀ f s, g (State.onPower s f) = g s
  count   : ∀ i k n s, g (bump i k n s) = g s
  notice  : ∀ d c v b s, g (notify d c v b s) = g s

namespace TrafficKeeps

section
variable {β : Type} {g : State → β} (keeps : TrafficKeeps g)
include keeps

theorem counts : CountKeeps g := ⟨keeps.count, keeps.fabric, keeps.notice⟩

theorem entry (e : Nat) (f : RegEntry → RegEntry) (s : State) : g (updEntry e f s) = g s := keeps.reg _ _ fun _ => rfl

/-! ### Responses -/

theorem requestOver (r : Resp) (s : State) : g (requestOver r s) = g s := by
  unfold Machine.requestOver serveRequest
  split
  · refine (keeps.reqs _ _).trans ?_
    split
    · unfold serveCollective
      exact (keeps.power _ _).trans (keeps.port _ _ _ fun _ => by rfl)
    · rfl
  · rfl

theorem endResponse (p : Nat) (r : Resp) (s : State) : g (endResponse p r s) = g s := by
  by_cases over_ : r.final = true ∧ r.kind ≠ 8
  · rw [endResponse_final over_.1 over_.2]
    exact (keeps.port _ _ _ fun _ => by rfl).trans (keeps.requestOver r s)
  · simp [Machine.endResponse, over_]

theorem respond (p : Nat) (r : Resp) (s : State) : g (respond p r s) = g s := by
  unfold Machine.respond
  split
  · rfl
  · split
    · exact keeps.endResponse _ _ _
    · exact keeps.port _ _ _ fun _ => by rfl

theorem lastError (p status opcode : Nat) (r : Request) (s : State) : g (lastError p status opcode r s) = g s :=
  keeps.port _ _ _ fun _ => by rfl

theorem reject (p status opcode : Nat) (r : Request) (s : State) : g (reject p status opcode r s) = g s :=
  (keeps.respond _ _ _).trans (keeps.lastError _ _ _ _ _)

/-! ### The front end -/

theorem addUnit (u : TUnit) (s : State) : g (addUnit u s) = g s := by
  unfold Machine.addUnit stampUnit updArb
  exact (keeps.tree _ _).trans (keeps.tree _ _)

theorem addCopies (id : Nat) (p : Part) (s : State) : g (addCopies id p s) = g s := by
  unfold Machine.addCopies
  split
  · rfl
  · split
    · rfl
    · exact keeps.reqs _ _

theorem placeParts (r : Req) (s : State) : g (placeParts r s) = g s := by
  refine forEach_same g (fun l t => ?_) _ _
  dsimp only
  split
  · rfl
  · split
    · rfl
    · refine (keeps.addUnit _ _).trans (forEach_same g (fun y u => ?_) _ _)
      exact (keeps.addCopies _ _ _).trans (keeps.reqs _ _)

theorem placeReq (r : Req) (s : State) : g (placeReq r s) = g s := by
  unfold Machine.placeReq
  extract_lets t
  split
  · exact (keeps.placeParts _ _).trans (keeps.placeParts _ _)
  · exact keeps.placeParts _ _

theorem pumpHub (s : State) : g (pumpHub s) = g s := by
  refine forEach_same g (fun id t => ?_) _ _
  split
  · exact keeps.placeReq _ _
  · rfl

/-! ### Basket -/

theorem flushLine (l : Line) (forced : Bool) (s : State) : g (flushLine l forced s) = g s :=
  (keeps.pumpHub _).trans ((keeps.add _ _).trans (keeps.fabric _ _))

theorem flushWhere (forced : Bool) (p : Line → Bool) (s : State) : g (flushWhere forced p s) = g s :=
  forEach_same g (fun _ _ => keeps.flushLine _ _ _) _ _

theorem joinLine (r : Req) (s : State) : g (joinLine r s) = g s := by
  unfold Machine.joinLine
  extract_lets a t u
  have joined : g u = g s := (keeps.reqs _ _).trans (keeps.fabric _ _)
  split
  · split
    · exact (keeps.flushLine _ _ _).trans joined
    · split
      · exact (keeps.flushLine _ _ _).trans joined
      · exact joined
  · exact joined

theorem openLine (r : Req) (s : State) : g (openLine r s) = g s := keeps.fabric _ _

theorem basketFull (r : Req) (s : State) : g (basketFull r s) = g s := by
  unfold Machine.basketFull
  extract_lets due
  split
  · exact (keeps.notice _ _ _ _ _).trans (keeps.fabric _ _)
  · rfl

theorem makeRoom (r : Req) (s : State) : g (makeRoom r s) = g s := by
  unfold Machine.makeRoom
  split
  · rfl
  · split
    · exact keeps.flushLine _ _ _
    · rfl

theorem placeInBasket (r : Req) (s : State) : g (placeInBasket r s).1 = g s := by
  unfold Machine.placeInBasket
  extract_lets a fits
  have opened : ∀ t, g (Machine.joinLine r (Machine.openLine r t)) = g t := fun t => (keeps.joinLine _ _).trans (keeps.openLine _ _)
  split
  · rfl
  · split
    · split
      · exact keeps.joinLine _ _
      · extract_lets t
        have flushed : g t = g s := keeps.flushLine _ _ _
        split
        · exact flushed
        · exact (opened t).trans flushed
    · split
      · rfl
      · split
        · exact (opened _).trans (keeps.makeRoom _ _)
        · exact (keeps.basketFull _ _).trans (keeps.makeRoom _ _)

theorem fenceFlush (p : Nat) (op : Op) (r : Request) (s : State) : g (fenceFlush p op r s) = g s := by
  unfold Machine.fenceFlush
  split
  · exact keeps.flushWhere _ _ _
  · rfl

/-! ### Regulation -/

theorem returnFlits (p : Nat) (ids : List Nat) (s : State) : g (returnFlits p ids s) = g s := by
  refine forEach_same g (fun id t => keeps.port _ _ _ fun d => ?_) _ _
  split
  · rfl
  · split
    · dsimp only
      split <;> rfl
    · rfl

theorem acceptOuting (r : Req) (q i : Nat) (s : State) : g (acceptOuting r q i s) = g s := by
  unfold Machine.acceptOuting
  exact (keeps.engines _ _).trans (keeps.reqs _ _)

theorem sendOn (r : Req) (s : State) : g (sendOn r s).1 = g s := by
  unfold Machine.sendOn
  split
  · extract_lets q
    split
    · exact keeps.acceptOuting _ _ _ _
    · rfl
  · split
    · exact (keeps.respond _ _ _).trans ((keeps.reqs _ _).trans (keeps.port _ _ _ fun _ => by rfl))
    · split
      · exact (keeps.respond _ _ _).trans (keeps.reqs _ _)
      · split
        · exact keeps.placeInBasket _ _
        · dsimp only
          split
          · exact keeps.flushWhere _ _ _
          · rfl

theorem endSamples (s : State) : g (endSamples s) = g s := by
  unfold Machine.endSamples
  extract_lets next last
  split
  · rfl
  · exact keeps.reg _ _ fun _ => rfl

theorem releaseHead (e : Nat) (r : Req) (cls : Nat) (s : State) : g (releaseHead e r cls s) = g s := by
  unfold Machine.releaseHead
  extract_lets t now d n u v
  have hv : g v = g u := forEach_same g (fun m x => (keeps.returnFlits _ _ _).trans (keeps.reqs _ _)) _ _
  exact (keeps.count _ _ _ _).trans (hv.trans ((keeps.entry _ _ _).trans (keeps.endSamples _)))

theorem examineOnce (e : Nat) (s : State) : g (examineOnce e s).1 = g s := by
  unfold Machine.examineOnce
  split
  · rfl
  · next r _ =>
    extract_lets t free gate verdict
    have seen : g t = g s := keeps.entry _ _ _
    clear_value gate verdict
    split
    · exact (keeps.releaseHead _ _ _ _).trans seen
    · split
      · next cls x =>
        have sent : g (Machine.sendOn { r with cls := cls } t).1 = g s := (keeps.sendOn _ _).trans seen
        dsimp only
        split
        · exact (keeps.releaseHead _ _ _ _).trans ((keeps.entry _ _ _).trans sent)
        · exact (keeps.entry _ _ _).trans sent
      · exact (keeps.entry _ _ _).trans seen

theorem examineQueue (e : Nat) (s : State) : g (examineQueue e s) = g s := by
  suffices h : ∀ n t, g (examineQueue.go e n t) = g t from h _ s
  intro n
  induction n with
  | zero => exact fun _ => rfl
  | succ n ih =>
    intro t
    unfold examineQueue.go
    dsimp only
    split
    · exact (ih _).trans (keeps.examineOnce _ _)
    · exact keeps.examineOnce _ _

theorem examineStuck (s : State) : g (examineStuck s) = g s := by
  refine forEach_same g (fun i t => ?_) _ _
  split
  · exact keeps.examineQueue _ _
  · rfl

theorem examine (e : Nat) (s : State) : g (examine e s) = g s := by
  refine (keeps.pumpHub _).trans ?_
  split
  · exact (keeps.examineStuck _).trans (keeps.examineQueue _ _)
  · exact keeps.examineQueue _ _

theorem examineHeads (before s : State) : g (examineHeads before s) = g s := by
  refine forEach_same g (fun e t => ?_) _ _
  split
  · rfl
  · exact keeps.examine _ _

theorem enterQueue (id : Nat) (s : State) : g (enterQueue id s) = g s := by
  unfold Machine.enterQueue
  split
  · rfl
  · extract_lets now t first u
    have entered : g u = g s := (keeps.entry _ _ _).trans (forEach_same g (fun _ _ => keeps.reqs _ _) _ _)
    split
    · exact (keeps.examine _ _).trans entered
    · exact entered

theorem wakeHeld (p : Nat) (s : State) : g (wakeHeld p s) = g s := by
  refine forEach_same g (fun id t => ?_) _ _
  split
  · split
    · rfl
    · exact keeps.enterQueue _ _
  · rfl

/-! ### Locked sequences -/

theorem answerMember (p : Nat) (m : Nat × Option Nat) (s : State) : g (answerMember p m s) = g s := by
  unfold Machine.answerMember
  split
  · rfl
  · exact (keeps.respond _ _ _).trans ((keeps.lastError _ _ _ _ _).trans ((keeps.returnFlits _ _ _).trans (keeps.reqs _ _)))

theorem failSequence (p : Nat) (s : State) : g (failSequence p s) = g s := by
  unfold Machine.failSequence
  split
  · rfl
  · exact (forEach_same g (fun _ _ => keeps.answerMember _ _ _) _ _).trans (keeps.port _ _ _ fun _ => by rfl)

theorem breakSequence (p : Nat) (s : State) : g (breakSequence p s) = g s :=
  (keeps.port _ _ _ fun _ => by rfl).trans (keeps.failSequence _ _)

theorem closeSequence (p : Nat) (s : State) : g (closeSequence p s) = g s := by
  unfold Machine.closeSequence
  split
  · rfl
  · extract_lets rs bad ids t u
    split
    · exact keeps.breakSequence _ _
    · have closed : g u = g s := (forEach_same g (fun _ _ => keeps.reqs _ _) _ _).trans (keeps.port _ _ _ fun _ => by rfl)
      split
      · split
        · exact closed
        · exact (keeps.enterQueue _ _).trans closed
      · exact closed

theorem failMember (p : Nat) (r : Request) (s : State) : g (failMember p r s) = g s := by
  unfold Machine.failMember
  extract_lets t
  have failed : g t = g s := (keeps.failSequence _ _).trans (keeps.port _ _ _ fun _ => by rfl)
  split
  · rfl
  · split
    · exact (keeps.closeSequence _ _).trans failed
    · exact failed

/-! ### Arrival -/

theorem takeInbox (p opcode : Nat) (r : Request) (s : State) : g (takeInbox p opcode r s).2 = g s := by
  unfold Machine.takeInbox
  split
  · split
    · exact keeps.port _ _ _ fun _ => by rfl
    · rfl
  · rfl

theorem takeTag (p : Nat) (r : Request) (s : State) : g (takeTag p r s) = g s :=
  (keeps.count _ _ _ _).trans (keeps.port _ _ _ fun _ => by rfl)

theorem samplePlacement (p seg : Nat) (s : State) : g (samplePlacement p seg s) = g s := by
  unfold Machine.samplePlacement
  extract_lets n t
  split
  · rfl
  · split
    · exact keeps.map _ _
    · exact (keeps.map _ _).trans (keeps.map _ _)

theorem lookupEffects (r : Req) (s : State) : g (lookupEffects r s) = g s := by
  unfold Machine.lookupEffects
  extract_lets b t
  have looked : g t = g s := by
    unfold t
    split
    · split
      · exact keeps.map _ _
      · rfl
    · exact (keeps.map _ _).trans (keeps.count _ _ _ _)
    · exact keeps.fabric _ _
    · exact keeps.fabric _ _
    · rfl
  split
  · exact (keeps.samplePlacement _ _ _).trans looked
  · exact looked

theorem rejectHeld (p : Nat) (op : Op) (status : Nat) (r : Request) (flits : List Nat) (s : State) :
    g (rejectHeld p op status r flits s) = g s :=
  (keeps.reject _ _ _ _ _).trans ((keeps.returnFlits _ _ _).trans (judgedBad_keeps keeps.counts p r status s))

theorem arriveMember (p : Nat) (op : Op) (r : Request) (flits : List Nat) (s : State) : g (arriveMember p op r flits s) = g s := by
  unfold Machine.arriveMember
  extract_lets a st built q q' t u v w
  have ht : g t = g s := (keeps.lookupEffects _ _).trans (keeps.add _ _)
  have hu : g u = g s := by
    unfold u
    split
    · exact (misdirected_keeps keeps.counts _ _).trans ht
    · exact ht
  have hv : g v = g s := (keeps.port _ _ _ fun _ => by rfl).trans hu
  have hw : g w = g s := by
    unfold w
    split
    · exact (keeps.failSequence _ _).trans hv
    · exact hv
  split
  · exact (keeps.closeSequence _ _).trans hw
  · exact hw

theorem accept (p : Nat) (op : Op) (r : Request) (flits : List Nat) (s : State) : g (accept p op r flits s) = g s := by
  unfold Machine.accept
  extract_lets t built q u
  have taken : g u = g s := (keeps.lookupEffects _ _).trans ((keeps.add _ _).trans (keeps.fenceFlush _ _ _ _))
  split
  · exact taken
  · exact (keeps.enterQueue _ _).trans taken

/-- A header that is no member breaks its port's sequence (R113). -/
theorem brokenBy (p : Nat) (r : Request) (s : State) : g (if breaksSequence r then Machine.breakSequence p s else s) = g s := by
  split
  · exact keeps.breakSequence _ _
  · rfl

/-- A rejected header takes its tag where that is in its port's range (R98). -/
theorem tagTaken (p : Nat) (r : Request) (s : State) : g (if tagInRange p r then Machine.takeTag p r s else s) = g s := by
  split
  · exact keeps.takeTag _ _ _
  · rfl

theorem arrive (p : Nat) (op : Op) (r : Request) (s : State) : g (arrive p op r s) = g s := by
  unfold Machine.arrive
  split
  · rfl
  · split
    · rfl
    · dsimp only
      have seen : g (if breaksSequence r then Machine.breakSequence p (Machine.takeInbox p (opcodeOf op) r s).2
          else (Machine.takeInbox p (opcodeOf op) r s).2) = g s := (keeps.brokenBy _ _ _).trans (keeps.takeInbox _ _ _ _)
      generalize (if breaksSequence r then Machine.breakSequence p (Machine.takeInbox p (opcodeOf op) r s).2
        else (Machine.takeInbox p (opcodeOf op) r s).2) = t at seen ⊢
      have held : g (countCombined op (Machine.takeTag p r t)) = g s :=
        (countCombined_keeps keeps.counts _ _).trans ((keeps.takeTag _ _ _).trans seen)
      split
      · exact (keeps.failMember _ _ _).trans ((keeps.notice _ _ _ _ _).trans ((keeps.returnFlits _ _ _).trans seen))
      · split
        · exact (keeps.failMember _ _ _).trans ((keeps.rejectHeld _ _ _ _ _ _).trans ((keeps.tagTaken _ _ _).trans seen))
        · split
          · exact (keeps.failMember _ _ _).trans ((keeps.reject _ _ _ _ _).trans ((keeps.returnFlits _ _ _).trans seen))
          · split
            · exact (keeps.arriveMember _ _ _ _ _).trans held
            · split
              · exact (keeps.rejectHeld _ _ _ _ _ _).trans held
              · exact (keeps.accept _ _ _ _ _).trans held

theorem answerUnlisted (n p : Nat) (s : State) : g (answerUnlisted n p s) = g s := by
  induction n generalizing s with
  | zero => rfl
  | succ n ih =>
    unfold Machine.answerUnlisted
    extract_lets heads
    split
    · rfl
    · next x _ =>
      extract_lets t u v used w
      have hv : g v = g s := (keeps.returnFlits _ _ _).trans ((keeps.brokenBy _ _ _).trans (keeps.port _ _ _ fun _ => by rfl))
      have hw : g w = g s := by
        unfold w
        split
        · exact (keeps.notice _ _ _ _ _).trans hv
        · exact (keeps.reject _ _ _ _ _).trans ((keeps.tagTaken _ _ _).trans hv)
      exact (ih _).trans ((keeps.failMember _ _ _).trans hw)

theorem drainInbox (p : Nat) (s : State) : g (drainInbox p s) = g s := by
  refine forEach_same g (fun x t => ?_) _ _
  split
  · exact (keeps.answerUnlisted _ _ _).trans (keeps.arrive _ _ _ _)
  · rfl

/-! ### Retirement -/

theorem retireReq (r : Req) (s : State) : g (retireReq r s) = g s :=
  (keeps.port _ _ _ fun _ => by rfl).trans ((keeps.reqs _ _).trans ((keeps.returnFlits _ _ _).trans (keeps.entry _ _ _)))

theorem retireUnits (p : TUnit → Bool) (s : State) : g (retireUnits p s) = g s :=
  (forEach_same g (fun _ _ => (keeps.count _ _ _ _).trans (keeps.tree _ _)) _ _).trans (keeps.tree _ _)

theorem retireReads (p : Nat) (s : State) : g (retireReads p s) = g s := by
  refine (forEach_same g (fun r t => ?_) _ _).trans (keeps.retireUnits _ _)
  dsimp only
  split
  · exact keeps.reqs _ _
  · exact keeps.retireReq _ _

theorem dropAssembly (p : Nat) (s : State) : g (dropAssembly p s) = g s := by
  unfold Machine.dropAssembly
  split
  · rfl
  · dsimp only
    refine (keeps.port _ _ _ fun _ => by rfl).trans (forEach_same g (fun m t => ?_) _ _)
    split
    · exact keeps.retireReq _ _
    · rfl

theorem silenceOutings (p : Nat) (s : State) : g (silenceOutings p s) = g s :=
  forEach_same g (fun _ _ => (keeps.notice _ _ _ _ _).trans (keeps.engines _ _)) _ _

theorem discardResponses (p : Nat) (s : State) : g (discardResponses p s) = g s :=
  (forEach_same g (fun _ _ => keeps.endResponse _ _ _) _ _).trans (keeps.port _ _ _ fun _ => by rfl)

theorem clearSharers (cause : Nat) (s : State) : g (clearSharers cause s) = g s := (keeps.fabric _ _).trans (keeps.map _ _)

end

end TrafficKeeps

end Sys2Proof.Machine
end

section
/-!
Ports that go quiet, reset, and come up again (R88, R117, R118, R195, R441).
-/
namespace Sys2Proof.Machine

/-! ### What the traffic of requests leaves of the ports and of the urgency inputs -/

/-- The modes of the ports' client-facing sides, and the number of urgency inputs. -/
def sides (s : State) := (s.ports.map Port.side, s.reg.urgency.length)

theorem sides_updPort {f : Port → Port} (hf : ∀ d, (f d).side = d.side) (p : Nat) (s : State) : sides (updPort p f s) = sides s := by
  unfold updPort
  split
  · simp [sides, map_modNth Port.side hf]
  · rfl

theorem sides_notify (d : Die) (c v : Nat) (b : Bytes) (s : State) : sides (notify d c v b s) = sides s :=
  notify_same sides (fun _ _ _ => rfl) (fun p n t => sides_updPort (Port.take_side n) p t) (fun _ _ _ => by simp [sides]) d c v b s

theorem sides_trafficKeeps : TrafficKeeps sides where
  port    := fun p _ s hf => sides_updPort hf p s
  reqs    := fun _ _ => rfl
  add     := fun _ _ => rfl
  reg     := fun f s hf => by simp [sides, hf]
  tree    := fun _ _ => rfl
  fabric  := fun _ _ => rfl
  map     := fun _ _ => rfl
  engines := fun _ _ => rfl
  power   := fun _ _ => rfl
  count   := fun _ _ _ _ => by simp [sides]
  notice  := sides_notify

section
variable {s t : State} (same : sides t = sides s)
include same

theorem side_of_sides {p : Nat} (small : p < 5) : (portAt t p).side = (portAt s p).side := by
  have modes : ∀ x : State, (portAt x p).side = nth (sides x).1 p (Port.side {}) := fun x => by
    simp only [portAt, small, if_true, sides, nth_map]
  rw [modes, modes, same]

theorem ports_length_of_sides : t.ports.length = s.ports.length := by simpa [sides] using congrArg (fun x => x.1.length) same

theorem urgency_length_of_sides : t.reg.urgency.length = s.reg.urgency.length := congrArg Prod.snd same

end

/-! ### A port's side goes silent -/

/-- Once what the link has delivered is taken, the port is in reset; what its requests leave behind changes no side (R118). -/
theorem silencePort_leaves {p : Nat} (small : p < 5) {s : State} (five : s.ports.length = 5) (quiet : Bool) :
    (portAt (silencePort p quiet s) p).side = ((portAt s p).quiet || quiet, true, (portAt s p).hold) ∧
      (silencePort p quiet s).ports.length = 5 ∧ (silencePort p quiet s).reg.urgency.length = s.reg.urgency.length := by
  have keeps := sides_trafficKeeps
  unfold silencePort
  extract_lets t u v w masked before y z
  have drained : sides t = sides s := keeps.drainInbox p s
  have retired : sides (wakeHeld p (examineHeads before (pumpHub z))) = sides v := by
    have hw : sides w = sides v := by
      unfold w
      split
      · rfl
      · exact keeps.clearSharers _ _
    have hy : sides y = sides v := (keeps.dropAssembly _ _).trans ((keeps.discardResponses _ _).trans ((keeps.tree _ _).trans hw))
    have hz : sides z = sides v := (keeps.silenceOutings _ _).trans ((keeps.retireReads _ _).trans hy)
    exact (keeps.wakeHeld _ _).trans ((keeps.examineHeads _ _).trans ((keeps.pumpHub _).trans hz))
  have five_t : t.ports.length = 5 := (ports_length_of_sides drained).trans five
  have five_u : u.ports.length = 5 := (updPort_ports_length _ _ _).trans five_t
  refine ⟨(side_of_sides retired small).trans ?_, (ports_length_of_sides retired).trans ((updPort_ports_length _ _ _).trans five_u),
    (urgency_length_of_sides retired).trans ?_⟩
  · have side : (portAt t p).side = (portAt s p).side := side_of_sides drained small
    simp only [Port.side, Prod.mk.injEq] at side
    obtain ⟨quiet_t, -, hold_t⟩ := side
    rw [portAt_updPort_self five_u, portAt_updPort_self five_t]
    simp only [Port.side, quiet_t, hold_t]
  · simpa [v, u] using urgency_length_of_sides drained

/-! ### A reset starts (R441) -/

/-- A port whose reset starts, before notice 0x7080 says so. -/
def resetStarted (p cause : Nat) (hold : Bool) (s : State) : State :=
  updPort p (fun d => { d with cause := cause, hold := d.hold || hold })
    (if (portAt s p).inReset then updPort p (fun d => { d with quiet := d.quiet || cause == 3 }) s else silencePort p (cause == 3) s)

theorem startPortReset_eq (p cause : Nat) (hold : Bool) (s : State) :
    startPortReset p cause hold s = notify .hub 0x7080 0 (leBytes 1 (p + 1) ++ leBytes 1 cause) (resetStarted p cause hold s) := rfl

theorem resetStarted_leaves {p : Nat} (small : p < 5) {s : State} (five : s.ports.length = 5) (cause : Nat) (hold : Bool) :
    (portAt (resetStarted p cause hold s) p).side = ((portAt s p).quiet || cause == 3, true, (portAt s p).hold || hold) ∧
      (portAt (resetStarted p cause hold s) p).cause = cause ∧ (resetStarted p cause hold s).ports.length = 5 ∧
      (resetStarted p cause hold s).reg.urgency.length = s.reg.urgency.length := by
  unfold resetStarted
  split
  next running =>
    have five' := (updPort_ports_length p (fun d => { d with quiet := d.quiet || cause == 3 }) s).trans five
    rw [portAt_updPort_self five', portAt_updPort_self five]
    exact ⟨by simp [Port.side, running], rfl, by simpa using five, by simp⟩
  next fresh =>
    obtain ⟨side, five', urgency⟩ := silencePort_leaves small five (cause == 3)
    rw [portAt_updPort_self five']
    simp only [Port.side, Prod.mk.injEq] at side
    exact ⟨by simp [Port.side, side], rfl, by simpa using five', by simpa using urgency⟩

/-! ### Quiet (R117, R195) -/

theorem nth_setLevel_same {s : State} {i : Nat} (h : i < s.reg.urgency.length) (v : Nat) :
    (nth (setLevel i v s).reg.urgency i {}).level = v := by
  have changed : nth (setLevel i v s).reg.urgency i {} = _ := nth_modNth_same h _ {}
  rw [changed]
  split
  · assumption
  · rfl

/-- An input at level 0 stays there when another, or the same, is set to 0. -/
theorem nth_setLevel_zero {s : State} {i : Nat} (h : (nth s.reg.urgency i {}).level = 0) (j : Nat) :
    (nth (setLevel j 0 s).reg.urgency i {}).level = 0 := by
  by_cases same : i = j
  · subst same
    by_cases lt : i < s.reg.urgency.length
    · exact nth_setLevel_same lt 0
    · simp [setLevel, updUrgency, nth, modNth, lt]
  · rw [show nth (setLevel j 0 s).reg.urgency i {} = nth s.reg.urgency i {} from nth_modNth_other same _ _ _]
    exact h

theorem setLevel_urgency_length (i v : Nat) (s : State) : (setLevel i v s).reg.urgency.length = s.reg.urgency.length := by
  simp [setLevel, updUrgency, modNth]

/-- Every urgency input of a list has level 0 once each was set to it. -/
theorem forEach_setLevel_zero (f : Nat → Nat) {xs : List Nat} {x : Nat} (mem : x ∈ xs) {s : State} (h : f x < s.reg.urgency.length) :
    (nth (forEach xs (fun g t => setLevel (f g) 0 t) s).reg.urgency (f x) {}).level = 0 := by
  induction xs generalizing s with
  | nil => cases mem
  | cons y ys ih =>
    rw [forEach_cons]
    rcases List.mem_cons.mp mem with rfl | mem
    · exact forEach_keeps (P := fun t : State => (nth t.reg.urgency (f x) {}).level = 0) (fun _ _ hz => nth_setLevel_zero hz _) _ _
        (nth_setLevel_same h 0)
    · exact ih mem ((setLevel_urgency_length _ _ _).symm ▸ h)

theorem portAt_setLevels (f : Nat → Nat) (xs : List Nat) (s : State) (p : Nat) :
    portAt (forEach xs (fun g t => setLevel (f g) 0 t) s) p = portAt s p :=
  forEach_same (fun t => portAt t p) (fun _ _ => by rfl) xs s

section
variable {p : Fin 4} {s : State} (five : s.ports.length = 5)
include five

theorem becomeQuiet_leaves (loud : (portAt s p).quiet = false) :
    (portAt (becomeQuiet p s) p).side = (true, true, (portAt s p).hold) ∧ (portAt (becomeQuiet p s) p).cause = 3 ∧
      (s.reg.urgency.length = 32 → ∀ g : Fin 8, (nth (becomeQuiet p s).reg.urgency (pairNo p g) {}).level = 0) := by
  obtain ⟨side, cause, -, length⟩ := resetStarted_leaves (show p.val < 5 by omega) five 3 false
  have quiet : becomeQuiet p s =
      forEach (List.range 8) (fun g t => setLevel (8 * p.val + g) 0 t) (startPortReset p 3 false s) := by
    simp [becomeQuiet, loud]
  rw [quiet, portAt_setLevels, startPortReset_eq]
  refine ⟨?_, (notify_cause _ _ _ _ _ _).trans cause, fun many g => ?_⟩
  · rw [portAt_notify_same Port.side Port.take_side, side]
    simp
  · refine forEach_setLevel_zero (8 * p.val + ·) (List.mem_range.mpr g.isLt) ?_
    rw [notify_reg, length, many]
    omega

theorem becomeQuiet_quiet : (portAt (becomeQuiet p s) p).quiet = true := by
  by_cases loud : (portAt s p).quiet = true
  · simp [becomeQuiet, loud]
  · exact congrArg Prod.fst (becomeQuiet_leaves five (Bool.eq_false_iff.mpr loud)).1

end

theorem execQuietChatterEnd_over {p : Fin 4} {s : State} {n ns : Nat} (high : s.released = true) (chatter : (portAt s p).chatter = some n)
    (over_ : 10000 ≤ ns) (level : Bool) : execQuietChatterEnd p ns level s = .next (keepFixed s true
      (notify .hub 0x8003 1 (leBytes 1 (p.val + 1) ++ leBytes 1 (Nat.min 255 n)) (updPort p (fun d =>
        { d with chatter := none, quiet := level, role := if level then d.role else objGet s 0x1121 (p.val + 1) }) s))) := by
  rw [execQuietChatterEnd, whenReleased_high high]
  simp only [chatter, Nat.not_lt.mpr over_, if_false]

/-- Settles O26: the ports' rows one by one; a port that becomes quiet has a reset started, whose traffic changes no side. -/
theorem portsGoQuietAndLeave : Obligations.PortsGoQuietAndLeave := by
  unfold Obligations.PortsGoQuietAndLeave
  refine fun p samples changes ns level s high five =>
    ⟨fun steady calm => ?_, fun x five' => ⟨becomeQuiet_quiet five', fun loud => ?_⟩, fun steady calm => ?_, fun many => ?_,
      fun n chatter over_ => ?_⟩
  · change execPortQuietEnter p samples s = _
    rw [execPortQuietEnter, whenReleased_high high]
    simp [steady, calm]
  · obtain ⟨side, cause, levels⟩ := becomeQuiet_leaves five' loud
    exact ⟨congrArg (·.2.1) side, cause, levels⟩
  · refine ⟨_, whenReleased_high high _, ?_⟩
    simp [steady, calm, portAt_updPort_self five]
  · change execQuietChatter p changes s = _
    rw [execQuietChatter, whenReleased_high high]
    simp only [Nat.not_le.mpr many, if_false]
  · refine ⟨_, execQuietChatterEnd_over high chatter over_ level, rfl, ?_⟩
    simp [portAt_updPort_self five]

end Sys2Proof.Machine
end

section
/-!
Port resets as writes of object 0x7021, and links that train and retrain (R88, R118, R431, R441).
-/
namespace Sys2Proof.Machine

/-! ### Object 0x7021 -/

theorem objRow_portReset (p : PortId) : objRow 0x7021 (p + 1) = some ⟨0x7021, 1, 5, 1, 1, 2, 3, 0, 0, 255⟩ := by
  fin_cases p <;> decide +kernel

/-- A write of 1, 2 or 3 to a port's object 0x7021 is accepted (R441). -/
theorem performWrite_portReset (src : Src) (ends : Bool) (p : Nat) {v : BitVec 8} (known : v = 1 ∨ v = 2 ∨ v = 3) (x : State) :
    performWrite src ends 0x7021 (p + 1) ⟨0x7021, 1, 5, 1, 1, 2, 3, 0, 0, 255⟩ [v] x = doneWrite (writePortReset p v.toNat x) := by
  rcases known with rfl | rfl | rfl <;> simp [performWrite, variableSize, isBlobCommand, writeCommand, onlyIf, portResetAllowed, leNat]

theorem portReset_wrote {src : Src} {p : PortId} {v : BitVec 8} {s : State} (known : v = 1 ∨ v = 2 ∨ v = 3) (high : s.released = true)
    (may : mayWrite s src 0x7021 (p + 1) [v] = true) :
    whenReleased s (byteWrite src 0x7021 (p + 1) v) = .next (wrote src 0x7021 (p + 1) [v] (writePortReset p v.toNat) s) :=
  whenReleased_wrote true high may (objRow_portReset p) (performWrite_portReset src true p known)

/-! ### A link that is up (R88, R441) -/

@[simp] theorem linkAt_updPort (p : Nat) (f : Port → Port) (s : State) (g : Nat) : linkAt (updPort p f s) g = linkAt s g := by simp [linkAt]

theorem nth_map_range {α : Type} (f : Nat → α) {b n : Nat} (h : b < n) (d : α) : nth ((List.range n).map f) b d = f b := by simp [nth, h]

/-- The side that a retrain leaves holds on each live bundle 152 request credits and the response credits that the client advertised. -/
theorem freshSide_credits {live : List Nat} {b : Nat} (small : b < 16) (up : live.contains b = true) (d : Port) :
    nth (freshSide live d).reqCr b 0 = 152 ∧ nth (freshSide live d).respCr b 0 = d.advertised := by
  unfold freshSide
  dsimp only
  rw [nth_map_range _ small, nth_map_range _ small]
  simp only [up, if_true, and_self]

/-- What a port's link leaves to be read once it is up: beside its state its tags, the sequence it expects and its credits. -/
def Port.link (d : Port) := (d.up, d.inReset, d.tags, d.expect, d.reqCr, d.respCr)

theorem Port.take_link (n : Notice) (d : Port) : (d.take n).link = d.link := by
  unfold Port.take
  split <;> rfl

/-- The notice with which FP's link comes up touches of the ports no more than FP's queues (R319). -/
theorem announceSharersReset_same {β : Type} (g : State → β) (hfabric : ∀ f t, g (State.onFabric t f) = g t)
    (hport : ∀ f t, (∀ d, (f d).link = d.link) → g (updPort 4 f t) = g t) (hnotice : ∀ d c v b t, g (notify d c v b t) = g t) (s : State) :
    g (announceSharersReset s) = g s := by
  have said : ∀ (r : Resp) t, r.kind = 8 → g (respond 4 r t) = g t := fun r t notice => by
    unfold respond
    split
    · rfl
    · split
      · simp [endResponse, notice]
      · exact hport _ _ fun _ => by rfl
  unfold announceSharersReset
  split
  · rfl
  · exact (hnotice _ _ _ _ _).trans ((said _ _ rfl).trans ((hport _ _ fun _ => by rfl).trans (hfabric _ _)))

/-- The group of a port whose link comes up: its bundles live, but for those dropped at run time and not brought back (R444). -/
def linkWith (p : Nat) (back : Bool) (s : State) : State :=
  updLink (portGroup p) (fun g =>
    let out := if back then 0 else g.dropped
    { g with live := 2 ^ g.size - 1 - out, dropped := out, due := [], failing := [] }) s

/-- The port's side as its link comes up. -/
def sideUp (p : Nat) (s : State) : State :=
  (updPort p (freshSide (liveBundles (linkAt s (portGroup p)))) s).onTree fun t =>
    { t with masked := t.masked.filter fun i => !(portInputs p).contains i }

theorem linkUp_eq (p : Nat) (back : Bool) (s : State) :
    linkUp p back s = if p = 4 then announceSharersReset (sideUp p (linkWith p back s)) else sideUp p (linkWith p back s) := rfl

theorem linkUp_same {β : Type} (g : State → β) (hfabric : ∀ f t, g (State.onFabric t f) = g t)
    (hport : ∀ f t, (∀ d, (f d).link = d.link) → g (updPort 4 f t) = g t) (hnotice : ∀ d c v b t, g (notify d c v b t) = g t)
    (p : Nat) (back : Bool) (s : State) : g (linkUp p back s) = g (sideUp p (linkWith p back s)) := by
  rw [linkUp_eq]
  split
  · exact announceSharersReset_same g hfabric hport hnotice _
  · rfl

theorem linkAt_linkUp (p : Nat) (back : Bool) (s : State) (g : Nat) : linkAt (linkUp p back s) g = linkAt (linkWith p back s) g := by
  have links : (linkUp p back s).links = (sideUp p (linkWith p back s)).links :=
    linkUp_same State.links (fun _ _ => rfl) (fun _ _ _ => by simp) (fun _ _ _ _ _ => by simp) p back s
  unfold linkAt
  rw [links]
  simp [sideUp]

/-- A link that comes up has a fresh side, with credits on the bundles that then live. -/
theorem linkUp_link {p : Nat} {s : State} (five : s.ports.length = 5) (back : Bool) : (portAt (linkUp p back s) p).link =
    (freshSide (liveBundles (linkAt (linkUp p back s) (portGroup p))) (portAt s p)).link := by
  have fresh : (portAt (linkUp p back s) p).link = (portAt (sideUp p (linkWith p back s)) p).link :=
    linkUp_same (fun t => (portAt t p).link) (fun _ _ => rfl) (fun f t hf => portAt_updPort_same Port.link hf 4 p t)
      (fun d c v b t => portAt_notify_same Port.link Port.take_link d c v b t p) p back s
  rw [fresh, linkAt_linkUp, sideUp, portAt_onTree, portAt_updPort_self (s := linkWith p back s) five]
  rfl

/-! ### Training and retraining -/

theorem execLinkTraining_up {p : PortId} {credits : Nat} {s : State} (high : s.released = true) (ready : isReady s = true)
    (down : (portAt s p).up = false) (out : (portAt s p).inReset = false) (enough : 32 ≤ credits) (running : s.power.shutdown = 0) :
    execLinkTraining p true credits s =
      .next (keepFixed s true (linkUp p false (updPort p (fun d => { d with advertised := credits }) s))) := by
  rw [execLinkTraining, whenReleased_high high]
  simp [ready, down, out, Nat.not_lt.mpr enough, running]

/-- A port reset whose work has ended, out of quiet and of a hold, retrains (R118, R441). -/
def retrains (s : State) (p : Nat) : Bool :=
  (portAt s p).inReset && !(portAt s p).quiet && !(portAt s p).hold && workEnded s p && isReady s && s.power.shutdown == 0

/-- A retraining that the client does not accept is counted. -/
def retrainFailed (p : Nat) (s : State) : State := updPort p (fun d => { d with up := false, failures := (d.failures + 1) % 3 }) s

section
variable {p : PortId} {s : State} (high : s.released = true) (may : retrains s p = true)
include high may

theorem execLinkRetrain_up {credits : Nat} (enough : 32 ≤ credits) : execLinkRetrain p (some credits) s =
    .next (keepFixed s true (linkUp p true (updPort p (fun d => { d with advertised := credits }) s))) := by
  simp only [retrains, Bool.and_eq_true, Bool.not_eq_true', beq_iff_eq] at may
  obtain ⟨⟨⟨⟨⟨inReset, quiet⟩, hold⟩, ended⟩, ready⟩, running⟩ := may
  rw [execLinkRetrain, whenReleased_high high]
  simp [inReset, quiet, hold, ended, ready, running, enough, Option.filter]

theorem execLinkRetrain_failed : execLinkRetrain p none s = .next (keepFixed s true
    (if (portAt s p).failures = 2 then startPortReset p 2 false (retrainFailed p s) else retrainFailed p s)) := by
  simp only [retrains, Bool.and_eq_true, Bool.not_eq_true', beq_iff_eq] at may
  obtain ⟨⟨⟨⟨⟨inReset, quiet⟩, hold⟩, ended⟩, ready⟩, running⟩ := may
  rw [execLinkRetrain, whenReleased_high high]
  simp [inReset, quiet, hold, ended, ready, running, retrainFailed]

end

/-- Settles O13: the three writes of object 0x7021, the start of a reset, and a link that trains, retrains and is up. -/
theorem portsResetAndLinksTrain : Obligations.PortsResetAndLinksTrain := by
  unfold Obligations.PortsResetAndLinksTrain
  refine ⟨fun src p s high => ⟨?_, ?_, ?_, fun x hold five => ⟨resetStarted p 1 hold x, startPortReset_eq _ _ _ _, ?_⟩⟩,
    fun p credits s high ready => ⟨fun down out enough running => execLinkTraining_up high ready down out enough running,
      fun inReset quiet hold ended running => ?_, fun five back => ?_⟩⟩
  · exact portReset_wrote (.inl rfl) high
  · exact portReset_wrote (.inr (.inl rfl)) high
  · exact portReset_wrote (.inr (.inr rfl)) high
  · obtain ⟨side, cause, -, -⟩ := resetStarted_leaves p.isLt five 1 hold
    simp only [Port.side, Prod.mk.injEq] at side
    exact ⟨side.2.1, cause, side.2.2⟩
  · have may : retrains s p = true := by simp [retrains, inReset, quiet, hold, ended, ready, running]
    refine ⟨fun enough => execLinkRetrain_up high may enough, fun early => ?_, fun third => ?_⟩
    · exact (execLinkRetrain_failed high may).trans (by rw [if_neg early]; rfl)
    · exact (execLinkRetrain_failed high may).trans (by rw [if_pos third]; rfl)
  · have link := linkUp_link (p := p) five back
    simp only [Port.link, Prod.mk.injEq] at link
    obtain ⟨up, inReset, tags, expect, reqCr, respCr⟩ := link
    refine ⟨up, inReset, tags, expect, fun b small live => ?_⟩
    rw [reqCr, respCr]
    exact freshSide_credits small live _

end Sys2Proof.Machine
end

section
/-!
A channel controller and its banks after a change of one of them: what the change puts there, and what it leaves alone.
-/
namespace Sys2Proof.Machine

@[simp] theorem chanAt_keepFixed (s t : State) (pin : Bool) (c : Nat) : chanAt (keepFixed s pin t) c = chanAt t c := rfl
@[simp] theorem quadAt_keepFixed (s t : State) (pin : Bool) (q : Nat) : quadAt (keepFixed s pin t) q = quadAt t q := rfl
@[simp] theorem updChan_mem (c : Nat) (f : Chan → Chan) (s : State) : (updChan c f s).mem = s.mem := rfl
@[simp] theorem updChan_reqs (c : Nat) (f : Chan → Chan) (s : State) : (updChan c f s).reqs = s.reqs := rfl
@[simp] theorem stackAt_updChan (c : Nat) (f : Chan → Chan) (s : State) (n : Nat) : stackAt (updChan c f s) n = stackAt s n := rfl

theorem chanAt_updChan_same (c : Nat) (f : Chan → Chan) (s : State) : chanAt (updChan c f s) c = f (chanAt s c) :=
  look_put_same ({} : Chan) c _ s.chans

/-- Two changes of a controller that agree on it as it is are one. -/
theorem updChan_congr {c : Nat} {f g : Chan → Chan} {s : State} (agree : f (chanAt s c) = g (chanAt s c)) : updChan c f s = updChan c g s := by
  unfold updChan State.onChans
  exact congrArg (fun v => { s with chans := put {} c v s.chans }) agree

theorem bankAt_updBank_same (b : Nat) (f : Bank → Bank) (x : Chan) : bankAt (updBank b f x) b = f (bankAt x b) :=
  look_put_same ({} : Bank) b _ x.banks

theorem bankAt_updChan_same (c b : Nat) (f : Bank → Bank) (s : State) :
    bankAt (chanAt (updChan c (updBank b f) s) c) b = f (bankAt (chanAt s c) b) := by
  rw [chanAt_updChan_same, bankAt_updBank_same]

theorem stackAt_updStack_same {n : Nat} {s : State} (there : n < s.stk.length) (f : Stack → Stack) :
    stackAt (updStack n f s) n = f (stackAt s n) := nth_modNth_same there f {}

end Sys2Proof.Machine
end

section
/-!
Refreshes come due, activation tokens refill, hammer epochs pass (R48, R49, R156, R160, R162).
-/
namespace Sys2Proof.Machine

/-! ### The end of an epoch -/

/-- A boundary changes controllers and stacks alone. -/
theorem epochAt_same {β : Type} (g : State → β) (hchans : ∀ s f, g (State.onChans s f) = g s) (hstk : ∀ s f, g (State.onStk s f) = g s)
    (q k : Nat) (s : State) : g (epochAt q k s) = g s := by
  refine forEach_same g (fun u t => ?_) _ _
  dsimp only
  split
  · exact (hstk _ _).trans (hchans _ _)
  · rfl

/-- Beside controllers and stacks, the boundaries that a quadrant's time has reached change the quadrant's count of them. -/
theorem endEpoch_same {β : Type} (g : State → β) (hchans : ∀ s f, g (State.onChans s f) = g s) (hstk : ∀ s f, g (State.onStk s f) = g s)
    {q : Nat} {s : State} (passed : (quadAt s q).epochs < quadTime s q / 16000000) :
    g (endEpoch q s) = g (updQuad q (fun d => { d with epochs := quadTime s q / 16000000 }) s) := by
  rw [endEpoch, if_neg (Nat.not_le.mpr passed)]
  exact forEach_same g (epochAt_same g hchans hstk q) _ _

/-! ### The rows -/

section
variable {s : State} (high : s.released = true)
include high

theorem execRefreshDue_due {n : Fin 32} {p : Fin 66} {b : Fin 64} {last : Nat}
    (since : Nat.max (bankAt (chanAt s (slotNo n p)) b).refAt (chanAt s (slotNo n p)).refBase = last)
    (awake : (chanAt s (slotNo n p)).selfRefresh = false) (driven : (stackSlots s n).contains (slotNo n p) = true)
    (due : last + slotsFor s n (refreshInterval s n) ≤ (chanAt s (slotNo n p)).slot) :
    execRefreshDue n p b s = .next (keepFixed s true (updChan (slotNo n p) (updBank b fun k =>
      { k with refAt := last + slotsFor s n (refreshInterval s n), owed := if k.owed < 8 then k.owed + 1 else k.owed }) s)) := by
  subst since
  rw [execRefreshDue, whenReleased_high high]
  simp only [awake, driven, Nat.not_lt.mpr due, Bool.not_true, decide_false, Bool.or_self, Bool.false_eq_true, if_false]

theorem execActivationTokenRefill_due {n : Fin 32} {p : Fin 66} {b : Fin 64}
    (room : (bankAt (chanAt s (slotNo n p)) b).tokens < 12144)
    (due : (bankAt (chanAt s (slotNo n p)) b).tokAt + 128 ≤ quadTime s (quadOfSlot (slotNo n p))) :
    execActivationTokenRefill n p b s = .next (keepFixed s true (updChan (slotNo n p) (updBank b fun k =>
      { k with tokens := k.tokens + 1, tokAt := k.tokAt + 128 }) s)) := by
  rw [execActivationTokenRefill, whenReleased_high high]
  simp only [Nat.not_le.mpr room, Nat.not_lt.mpr due, decide_false, Bool.or_self, Bool.false_eq_true, if_false]

theorem execHammerEpochBoundary_eq (q : Fin 4) : execHammerEpochBoundary q s = .next (keepFixed s true (endEpoch q s)) :=
  whenReleased_high high _

end

/-- Settles O40: a refresh and a token are changes of one bank; a boundary counts in its quadrant. -/
theorem refreshesTokensAndEpochs : Obligations.RefreshesTokensAndEpochs := by
  unfold Obligations.RefreshesTokensAndEpochs
  refine fun n p b s high => ⟨fun awake driven due => ?_, fun room due => ?_, fun q four passed => ?_⟩
  · refine ⟨_, execRefreshDue_due high rfl awake driven due, ?_⟩
    simp only [chanAt_keepFixed, bankAt_updChan_same, keepFixed_mem, keepFixed_reqs, updChan_mem, updChan_reqs, and_self]
  · refine ⟨_, execActivationTokenRefill_due high room due, ?_⟩
    simp only [chanAt_keepFixed, bankAt_updChan_same, keepFixed_mem, keepFixed_reqs, updChan_mem, updChan_reqs, and_self]
  · have reached : (quadAt s q).epochs < quadTime s q / 16000000 := (Nat.le_div_iff_mul_le (by decide)).mpr passed
    refine ⟨_, execHammerEpochBoundary_eq high q, ?_, ?_, ?_⟩
    · rw [quadAt_keepFixed, endEpoch_same (quadAt · q) (fun _ _ => rfl) (fun _ _ => rfl) reached,
        quadAt_updQuad_same (by rw [four]; exact q.isLt)]
    · exact endEpoch_same (·.mem) (fun _ _ => rfl) (fun _ _ => rfl) reached
    · exact endEpoch_same (·.reqs) (fun _ _ => rfl) (fun _ _ => rfl) reached

end Sys2Proof.Machine
end

section
/-!
A controller takes granted units and issues the first legal candidate (R127, R145 to R147, R152).
-/
namespace Sys2Proof.Machine

/-! ### Candidates in the order of their keys (R127) -/

theorem sortBy_eq_insertionSort {α : Type} (f : α → Nat) (xs : List α) : sortBy f xs = xs.insertionSort fun a b => f a ≤ f b := by
  have ins : ∀ (x : α) (ys : List α), sortBy.ins f x ys = ys.orderedInsert (fun a b => f a ≤ f b) x := fun x ys => by
    induction ys with
    | nil => rfl
    | cons y ys ih => simp only [sortBy.ins, List.orderedInsert, ih]
  induction xs with
  | nil => rfl
  | cons x xs ih => rw [sortBy, List.insertionSort_cons, ins, ih]

theorem sortBy_pairwise {α : Type} (f : α → Nat) (xs : List α) : (sortBy f xs).Pairwise fun a b => f a ≤ f b := by
  have : Std.Total fun a b : α => f a ≤ f b := ⟨fun a b => Nat.le_total (f a) (f b)⟩
  have : IsTrans α fun a b => f a ≤ f b := ⟨fun _ _ _ => Nat.le_trans⟩
  rw [sortBy_eq_insertionSort]
  exact List.pairwise_insertionSort _ xs

theorem mem_sortBy {α : Type} (f : α → Nat) {xs : List α} {x : α} : x ∈ sortBy f xs ↔ x ∈ xs := by
  rw [sortBy_eq_insertionSort, List.mem_insertionSort]

theorem candidates_pairwise (s : State) (c : Nat) : (candidates s c).Pairwise fun a b => a.key ≤ b.key := sortBy_pairwise _ _

theorem candidates_half {s : State} {c : Nat} {k : Cand} (offered : k ∈ candidates s c) : k.cmd.isRow = !(chanAt s c).column := by
  unfold candidates at offered
  have kept := (List.mem_filter.mp ((mem_sortBy _).mp offered)).2
  simp only [Bool.and_eq_true, bne_iff_ne, ne_eq] at kept
  obtain ⟨⟨half, -⟩, -⟩ := kept
  exact Bool.eq_not.mpr half

/-! ### A granted unit enters -/

/-- The state without a unit of the tree. -/
def takenOff (u : TUnit) (s : State) : State := onUnits (·.filter (·.id != u.id)) s

/-- A part of a granted unit enters its controller. -/
def enterListed (x : Nat × Nat) (s : State) : State :=
  match (reqAt s x.1).bind fun r => (r.parts.find? (·.n == x.2)).map fun p => (r, p) with
  | some (r, p) => enterPart r p s
  | none => s

section
variable {n : Fin 32} {p : Fin 66} {s : State} {u : TUnit} (high : s.released = true) (next : nextEntry s (slotNo n p) = some u)
include high next

theorem execChannelQueueEntry_locked {x : Nat × Nat} {rest : List (Nat × Nat)} (locked : u.locked = true) (parts : u.parts = x :: rest) :
    execChannelQueueEntry n p s = .next (keepFixed s true (enterLocked x.1 (takenOff u s))) := by
  rw [execChannelQueueEntry, whenReleased_high high]
  simp only [next, locked, parts, if_true, takenOff]

theorem execChannelQueueEntry_job {j : Job} (single : u.locked = false) (job : u.job = some j) :
    execChannelQueueEntry n p s = .next (keepFixed s true (enterJob u j (takenOff u s))) := by
  rw [execChannelQueueEntry, whenReleased_high high]
  simp only [next, single, job, Bool.false_eq_true, if_false, takenOff]

theorem execChannelQueueEntry_sects (single : u.locked = false) (noJob : u.job = none) (sects : u.sects ≠ []) :
    execChannelQueueEntry n p s = .next (keepFixed s true (enterSects u (takenOff u s))) := by
  rw [execChannelQueueEntry, whenReleased_high high]
  simp only [next, single, noJob, List.isEmpty_eq_false_iff.mpr sects, Bool.not_false, Bool.false_eq_true, if_false, if_true, takenOff]

theorem execChannelQueueEntry_parts (single : u.locked = false) (noJob : u.job = none) (noSects : u.sects = []) :
    execChannelQueueEntry n p s = .next (keepFixed s true (forEach u.parts enterListed (takenOff u s))) := by
  rw [execChannelQueueEntry, whenReleased_high high]
  simp only [next, single, noJob, noSects, List.isEmpty_nil, Bool.not_true, Bool.false_eq_true, if_false]
  rfl

end

/-! ### A half-slot -/

/-- The controller's units planned, where more than owed refreshes may issue. -/
def planned (c : Nat) (s : State) : State := if refreshOnly s c then s else settleUnits c (plan c s)

/-- The candidate that a half-slot issues, of the first 8 offered (R127). -/
def picked (n c : Nat) (only : Bool) (s : State) : Option Cand :=
  (((candidates s c).filter fun k => !only || k.cmd.isRefresh).take 8).find? fun k =>
    !skips (levelFor s n k.favoured) (chanAt s c).slot && legal s c (chanAt s c) k.cmd

/-- A slot that the power level leaves empty counts (R364). -/
def skipCounted (n c : Nat) (s : State) : State :=
  if !(chanAt s c).column && skips (levelFor s n true) (chanAt s c).slot then bump 0x8405 (n + 1) 1 s else s

/-- A command goes out and is kept for a replay; `x` is the controller before it. -/
def sentOut (c : Nat) (x : Chan) (k : Cand) (s : State) : State :=
  updChan c (fun y => logWord k.cmd (wrData c x k.cmd (issue c k s)) (closes x k.cmd) y) (issue c k s)

section
variable {n : Fin 32} {p : Fin 66} {s : State} (high : s.released = true)
include high

theorem execIssueHalfSlot_stopped (stopped : stageRuns s (slotNo n p) = false) :
    execIssueHalfSlot n p s = .next (keepFixed s true (nextHalf (slotNo n p) s)) := by
  rw [execIssueHalfSlot, whenReleased_high high]
  simp only [stopped, Bool.not_false, if_true]

theorem execIssueHalfSlot_nop (runs : stageRuns s (slotNo n p) = true)
    (none_ : picked n (slotNo n p) (refreshOnly s (slotNo n p)) (planned (slotNo n p) s) = none) :
    execIssueHalfSlot n p s = .next (keepFixed s true (nextHalf (slotNo n p) (skipCounted n (slotNo n p) (planned (slotNo n p) s)))) := by
  unfold picked planned at none_
  rw [execIssueHalfSlot, whenReleased_high high]
  simp only [runs, none_, Bool.not_true, Bool.false_eq_true, if_false]
  rfl

theorem execIssueHalfSlot_issues {k : Cand} (runs : stageRuns s (slotNo n p) = true)
    (pick : picked n (slotNo n p) (refreshOnly s (slotNo n p)) (planned (slotNo n p) s) = some k) :
    execIssueHalfSlot n p s = .next (keepFixed s true (nextHalf (slotNo n p)
      (let t := sentOut (slotNo n p) (chanAt (planned (slotNo n p) s) (slotNo n p)) k (skipCounted n (slotNo n p) (planned (slotNo n p) s))
       if refreshOnly s (slotNo n p) then t else settleUnits (slotNo n p) t))) := by
  unfold picked planned at pick
  rw [execIssueHalfSlot, whenReleased_high high]
  simp only [runs, pick, Bool.not_true, Bool.false_eq_true, if_false]
  rfl

theorem execIdleCloseTimeout_over {b : Fin 64} {r : Nat} (opened : (bankAt (chanAt s (slotNo n p)) b).open_ = some r)
    (idle : Nat.max (bankAt (chanAt s (slotNo n p)) b).lastCol ((bankAt (chanAt s (slotNo n p)) b).actAt.getD 0) +
      slotsFor s n (slotObj s (slotNo n p) 0x3011 0) ≤ (chanAt s (slotNo n p)).slot) :
    execIdleCloseTimeout n p b s = .next (keepFixed s true
      (planFlush (updChan (slotNo n p) (updBank b fun y => { y with due := true }) s) (slotNo n p) b)) := by
  rw [execIdleCloseTimeout, whenReleased_high high]
  simp only [opened, Option.isNone_some, Nat.not_lt.mpr idle, decide_false, Bool.or_self, Bool.false_eq_true, if_false]

end

/-- Settles O39, row by row; the order of the candidates and their half come from the sort and the filter that make their list. -/
theorem channelsTakeAndIssue : Obligations.ChannelsTakeAndIssue := by
  unfold Obligations.ChannelsTakeAndIssue
  intro n p s high
  refine ⟨fun u next single noJob noSects => ?_, fun u next single => ⟨fun j job => ?_, fun noJob sects => ?_⟩,
    fun u x rest next locked parts => ?_, fun runs => ⟨fun none_ => ?_, fun k pick => ?_⟩,
    fun x => ⟨candidates_pairwise x _, fun k offered => candidates_half offered⟩, fun stopped => ?_, fun b r opened idle => ?_⟩
  · exact execChannelQueueEntry_parts high next single noJob noSects
  · exact execChannelQueueEntry_job high next single job
  · exact execChannelQueueEntry_sects high next single noJob sects
  · exact execChannelQueueEntry_locked high next locked parts
  · exact execIssueHalfSlot_nop high runs none_
  · exact execIssueHalfSlot_issues high runs pick
  · exact execIssueHalfSlot_stopped high stopped
  · exact execIdleCloseTimeout_over high opened idle

end Sys2Proof.Machine
end

section
/-!
Bursts return, or their reads are recovered; a CA alert is answered (R128, R129, R134 to R136, R224).
-/
namespace Sys2Proof.Machine

section
variable {n : Fin 32} {p : Fin 66} {s : State} (high : s.released = true)
include high

/-! ### Bursts and escalations -/

section
variable {b : Burst} {rest : List Burst} (oldest : (chanAt s (slotNo n p)).bursts = b :: rest)
include oldest

theorem execReadBurstReturn_back (noise : Bytes) (back : b.back ≤ (chanAt s (slotNo n p)).slot) :
    execReadBurstReturn n p noise s = .next (keepFixed s true (settleUnits (slotNo n p)
      (burstArrives (slotNo n p) b (slotOf (xorBytes b.raw.bytes (padTo 36 noise)))
        (updChan (slotNo n p) (fun x => { x with bursts := rest }) s)))) := by
  rw [execReadBurstReturn, whenReleased_high high]
  simp only [oldest, Nat.not_lt.mpr back, if_false]

/-- The read of a queued entry, its burst missing, is recovered by an escalation (R135). -/
theorem execMissingBurstTimeout_read {id seq : Nat} (read : b.why = .rd id seq)
    (missed : b.back + slotsFor s n (120 * (stackAt s n).step) ≤ (chanAt s (slotNo n p)).slot + 1) :
    execMissingBurstTimeout n p s = .next (keepFixed s true
      (let now := quadTime s (quadOfSlot (slotNo n p))
       let s1 := recovered (300 * (stackAt s n).step)
         (updChan (slotNo n p) (fun x => { x with bursts := rest, misses := lastSecond now x.misses ++ [now] }) s)
       escalate ⟨slotNo n p, (channelOf s1 (slotNo n p)).getD 0, b.bank, b.row⟩ [seq] s1)) := by
  rw [execMissingBurstTimeout, whenReleased_high high]
  simp only [oldest, read, Nat.not_lt.mpr missed, if_false, stackAt_updChan]

end

theorem execEscalationComplete_read {u : ChanUnit} (escalating : (chanAt s (slotNo n p)).units.find? (·.kind == .escalation) = some u)
    (issued : u.cmds = []) (back : u.asked ≤ u.got.length) : execEscalationComplete n p s = .next (keepFixed s true
      (settleUnits (slotNo n p) (finishEscalation ⟨slotNo n p, (channelOf s (slotNo n p)).getD 0, u.bank, u.row⟩ u s))) := by
  rw [execEscalationComplete, whenReleased_high high]
  simp only [escalating, issued, List.isEmpty_nil, Bool.not_true, Nat.not_lt.mpr back, decide_false, Bool.or_self, Bool.false_eq_true, if_false]

/-! ### CA alerts -/

/-- Controllers of a stack that an alert has read SW31. -/
def alerted (n : Nat) (s : State) : List Nat := (stackSlots s n).filter fun k => !(chanAt s k).selfRefresh

/-- The controllers of a list read SW31 (R134). -/
def readSw31 (slots : List Nat) (s : State) : State := forEach slots (fun k y => sendNow k (.swr 31) y) s

theorem execCaAlert_read (clears : Bool) : execCaAlert n none clears s = .next (keepFixed s true (readSw31 (alerted n s) s)) :=
  whenReleased_high high _

/-- A controller keeps the count of its error word, the first that it was given, and SW31 is read (R134). -/
def countKept (n c count : Nat) (s : State) : State :=
  readSw31 (alerted n s) (updChan c (fun y => { y with caError := some ((chanAt s c).caError.getD count % 256) }) s)

/-- ERRCLR clears a controller's error word, and every word from the one of a count on goes out again (R134). -/
def replayed (n c half : Nat) (s : State) : State :=
  recovered (300 * (stackAt s n).step) (countReplay c (updChan c (replayFrom half (sendNow c .errclr s) n) (sendNow c .errclr s)))

section
variable {count : Nat} (driven : (alerted n s).contains (slotNo n p) = true)
include driven

theorem execCaAlert_erring (clears : Bool) : execCaAlert n (some (p, count)) clears s = .next (keepFixed s true
    (let t := countKept n (slotNo n p) count s
     if clears then replayed n (slotNo n p) (halfOfCount (chanAt s (slotNo n p)) ((chanAt s (slotNo n p)).caError.getD count)) t else t)) := by
  have kept : updChan (slotNo n p) (fun x => { x with caError := some (x.caError.getD count % 256) }) s =
      updChan (slotNo n p) (fun x => { x with caError := some ((chanAt s (slotNo n p)).caError.getD count % 256) }) s := updChan_congr rfl
  unfold alerted at driven
  rw [execCaAlert, whenReleased_high high]
  simp only [Option.bind_some, driven, if_true, kept]
  cases clears <;> rfl

end

end

/-- Settles O41, row by row; an alert that names a controller has it keep the count before SW31 is read. -/
theorem burstsReturn : Obligations.BurstsReturn := by
  unfold Obligations.BurstsReturn
  intro n p s high
  refine ⟨fun b rest noise oldest back => ?_, fun b rest id seq oldest read missed => ?_, fun u escalating issued back => ?_,
    fun clears => ?_, fun count driven => ⟨?_, ?_⟩⟩
  · exact execReadBurstReturn_back high oldest noise back
  · exact execMissingBurstTimeout_read high oldest read missed
  · exact execEscalationComplete_read high escalating issued back
  · exact execCaAlert_read high clears
  · exact execCaAlert_erring high driven false
  · exact execCaAlert_erring high driven true

end Sys2Proof.Machine
end

section
/-!
Rest stops: a slot asks for its stack's token, stops while it holds it, and passes it on (R164 to R167).
-/
namespace Sys2Proof.Machine

/-! ### The token -/

/-- A free token is given at once to the slot that asks (R165). -/
theorem askToken_free {n : Nat} {s : State} (there : n < s.stk.length) (free : (stackAt s n).token = none) (noAsks : (stackAt s n).asks = [])
    (p : Nat) : (stackAt (askToken n p s) n).token = some p := by
  rw [askToken, stackAt_updStack_same there]
  simp [free, noAsks]

/-- The token is free after a slot that no other asked behind. -/
theorem passToken_free {n : Nat} {s : State} (there : n < s.stk.length) (noAsks : (stackAt s n).asks = []) (p : Nat) :
    (stackAt (passToken n p s) n).token = none := by
  simp only [passToken, noAsks, List.filter_nil, bestOf]
  rw [stackAt_updStack_same there]

/-- The one slot that asks and has a use for the token takes it. -/
theorem passToken_given {n k : Nat} {s : State} (there : n < s.stk.length) (asks : (stackAt s n).asks = [k])
    (wants : wantsToken s (slotNo n k) = true) (p : Nat) :
    (stackAt (passToken n p s) n).token = some k ∧ (stackAt (passToken n p s) n).asks = [] := by
  have mine : (stackAt s n).asks.filter (fun p => wantsToken s (slotNo n p)) = [k] := by simp [asks, wants]
  simp only [passToken, mine, bestOf, List.foldl_nil]
  rw [stackAt_updStack_same there]
  simp

/-- A rest stop is ready once it is due, no longer deferred, in a slot that is neither under test nor in self-refresh (R159, R164,
R167). -/
theorem restReady_iff (s : State) (c : Nat) : restReady s c = true ↔ restDue s c = true ∧ slotUnderTest s c = false ∧
    (chanAt s c).selfRefresh = false ∧
    ((stackAt s (stackOf c)).step = 1 ∨ (stackAt s (stackOf c)).deferFrom + 256000000 ≤ quadTime s (quadOfSlot c)) := by
  have deferred : restDeferred s c = false ↔
      (stackAt s (stackOf c)).step = 1 ∨ (stackAt s (stackOf c)).deferFrom + 256000000 ≤ quadTime s (quadOfSlot c) := by
    simp [restDeferred, or_iff_not_imp_left]
  simp only [restReady, Bool.and_eq_true, Bool.not_eq_true', deferred]
  tauto

/-! ### The rows -/

/-- How many rest stops in a row showed high drift at the shortest interval (R164). -/
def driftRun (drift : Nat) (x : Chan) : Nat := if x.interval = 4000 ∧ 8 ≤ drift then x.highRun + 1 else 0

/-- A slot at the end of its rest stop: a new interval, its run of high drifts, its slot trained, its narrow lanes due. -/
def restEnded (n c drift : Nat) (eyes : List (Nat × Nat)) (high : Nat) (s : State) : State :=
  let s1 := trainDone c (updStack n (fun t => { t with rests := t.rests + 1 }) (updChan c (fun x => { x with
    inRest := false, owesRest := false, lastRest := quadTime s (quadOfSlot c),
    interval := nextInterval (1000 * slotObj s c 0x3050 1) drift x.interval, highRun := high }) s))
  dueLanes c 2 (narrowLanes s1 c eyes) s1

/-- The worst lane is due after four high drifts in a row, with notice 0x3030 (R164). -/
def driftSaid (c p drift worst : Nat) (s : State) : State :=
  let d := noticeChannel c (dueLanes c 3 [worst] s)
  notify (medOfSlot c) 0x3030 1 (leBytes 2 d.1 ++ leBytes 1 p ++ leBytes 1 (Nat.min 255 drift)) d.2

section
variable {n : Fin 32} {p : Fin 66} {s : State} (high : s.released = true)
include high

section
variable (ready : restReady s (slotNo n p) = true)
include ready

theorem execRestStopDue_asks (driven : (stackSlots s n).contains (slotNo n p) = true) (full : (stackAt s n).step = 1) :
    execRestStopDue n p s = .next (keepFixed s true (askToken n p s)) := by
  rw [execRestStopDue, whenReleased_high high]
  simp [ready, List.contains_iff_mem.mp driven, full]

theorem execRestStopDeferralEnd_asks (driven : (stackSlots s n).contains (slotNo n p) = true) (slowed : (stackAt s n).step ≠ 1) :
    execRestStopDeferralEnd n p s = .next (keepFixed s true (askToken n p s)) := by
  rw [execRestStopDeferralEnd, whenReleased_high high]
  simp [ready, List.contains_iff_mem.mp driven, slowed]

theorem execRestStop_stops (holds : (stackAt s n).token = some p.val) (runs : (chanAt s (slotNo n p)).inRest = false)
    (quiet : quiescent (chanAt s (slotNo n p)) = true) : execRestStop n p s = .next (keepFixed s true
      (updChan (slotNo n p) (fun x => { x with inRest := true }) (stopChannel (slotNo n p) s))) := by
  rw [execRestStop, whenReleased_high high]
  simp [holds, runs, quiet, ready]

end

section
variable {drift : Nat} (worst : Nat) (eyes : List (Nat × Nat)) (rests : (chanAt s (slotNo n p)).inRest = true)
  (awake : (chanAt s (slotNo n p)).selfRefresh = false)
include rests awake

theorem execRestStopEnd_ends (few : driftRun drift (chanAt s (slotNo n p)) ≠ 4) : execRestStopEnd n p drift worst eyes s =
    .next (keepFixed s true (passToken n p (restEnded n (slotNo n p) drift eyes (driftRun drift (chanAt s (slotNo n p))) s))) := by
  unfold driftRun at few
  rw [execRestStopEnd, whenReleased_high high]
  simp only [rests, awake, Bool.and_eq_true, decide_eq_true_eq, Bool.not_true, Bool.or_self, Bool.false_eq_true, few, if_false]
  rfl

theorem execRestStopEnd_fourth (fourth : driftRun drift (chanAt s (slotNo n p)) = 4) : execRestStopEnd n p drift worst eyes s =
    .next (keepFixed s true (passToken n p (driftSaid (slotNo n p) p drift worst (restEnded n (slotNo n p) drift eyes 0 s)))) := by
  unfold driftRun at fourth
  rw [execRestStopEnd, whenReleased_high high]
  simp only [rests, awake, Bool.and_eq_true, decide_eq_true_eq, Bool.not_true, Bool.or_self, Bool.false_eq_true, fourth, if_false, if_true]
  rfl

end

end

/-- Settles O42: when a rest stop is ready, who has the token before and after it, and what its end leaves. -/
theorem slotsRest : Obligations.SlotsRest := by
  unfold Obligations.SlotsRest
  intro n p drift worst eyes s high all32
  have there : n.val < s.stk.length := all32.symm ▸ n.isLt
  refine ⟨fun ready driven => ⟨fun full => ?_, fun slowed => ?_⟩, restReady_iff s _, fun free noAsks => ?_,
    fun holds runs quiet ready => ?_, fun rests awake => ⟨fun few => ?_, fun fourth => ?_⟩, fun longest i => rfl, fun noAsks => ?_,
    fun k asks wants => ?_⟩
  · exact execRestStopDue_asks high ready driven full
  · exact execRestStopDeferralEnd_asks high ready driven slowed
  · exact askToken_free there free noAsks p
  · exact execRestStop_stops high ready holds runs quiet
  · exact execRestStopEnd_ends high worst eyes rests awake few
  · exact execRestStopEnd_fourth high worst eyes rests awake fourth
  · exact passToken_free there noAsks p
  · exact passToken_given there asks wants p

end Sys2Proof.Machine
end

section
/-!
The arbiter tree: who wins a decision, and what the grant leaves (R51, R177 to R180).
-/
namespace Sys2Proof.Machine

/-! ### The first of a list -/

/-- The element that `bestOf` gives is of the list, and no other has a greater key, where `better` prefers none of a lower key to one of
a higher. -/
theorem bestOf_greatest {α : Type} (key : α → Nat) {better : α → α → Bool} {xs : List α} {w : α}
    (prefers : ∀ a ∈ xs, ∀ b ∈ xs, better a b = true → key b ≤ key a)
    (keeps : ∀ a ∈ xs, ∀ b ∈ xs, better a b = false → key a ≤ key b) (best : bestOf better xs = some w) :
    w ∈ xs ∧ ∀ u ∈ xs, key u ≤ key w := by
  cases xs with
  | nil => simp [bestOf] at best
  | cons b xs =>
    obtain rfl : xs.foldl (fun b y => if better y b then y else b) b = w := by simpa [bestOf] using best
    clear best
    induction xs generalizing b with
    | nil => simp
    | cons y xs ih =>
      let c := if better y b then y else b
      have c_mem : c = y ∨ c = b := by unfold c; split <;> simp
      have top : key y ≤ key c ∧ key b ≤ key c := by
        cases ranks : better y b with
        | true => simp [c, ranks, prefers y (by simp) b (by simp) ranks]
        | false => simp [c, ranks, keeps y (by simp) b (by simp) ranks]
      have sub : ∀ a ∈ c :: xs, a ∈ b :: y :: xs := by
        intro a ha
        rcases List.mem_cons.mp ha with rfl | ha
        · rcases c_mem with h | h <;> simp [h]
        · simp [ha]
      obtain ⟨mem, greatest⟩ := ih c (fun a ha d hd => prefers a (sub a ha) d (sub d hd)) (fun a ha d hd => keeps a (sub a ha) d (sub d hd))
      refine ⟨sub _ mem, fun u hu => ?_⟩
      have ofC := greatest c (by simp)
      simp only [List.mem_cons] at hu
      rcases hu with rfl | rfl | hu
      · exact top.2.trans ofC
      · exact top.1.trans ofC
      · exact greatest u (by simp [hu])

/-! ### The order below the ticket (R51, R177) -/

/-- How far an arrival sequence lies after n, modulo 2^24. -/
def agedFrom (n seq : Nat) : Nat := (seq + 2 ^ 24 - n) % 2 ^ 24

/-- Score and age in one number, which rises with the score and, in one score, the earlier the arrival. -/
def standing (n : Nat) (u : TUnit) : Nat := u.score * 2 ^ 24 + (2 ^ 24 - agedFrom n u.seq)

/-- Among arrival sequences that lie within 2^23 of n, the older lies nearer to n (R51). -/
theorem olderSeq_iff {n a b : Nat} (hn : n < 2 ^ 24) (ha : a < 2 ^ 24) (hb : b < 2 ^ 24) (nearA : agedFrom n a < 2 ^ 23)
    (nearB : agedFrom n b < 2 ^ 23) : olderSeq a b = true ↔ agedFrom n a < agedFrom n b := by
  simp only [olderSeq, agedFrom, Bool.and_eq_true, bne_iff_ne, ne_eq, decide_eq_true_eq] at *
  omega

theorem ranksFirst_iff_standing {n : Nat} (hn : n < 2 ^ 24) {u v : TUnit} (hu : u.seq < 2 ^ 24) (hv : v.seq < 2 ^ 24)
    (nearU : agedFrom n u.seq < 2 ^ 23) (nearV : agedFrom n v.seq < 2 ^ 23) : ranksFirst u v = true ↔ standing n v < standing n u := by
  simp only [ranksFirst, standing, Bool.or_eq_true, Bool.and_eq_true, decide_eq_true_eq, beq_iff_eq, olderSeq_iff hn hu hv nearU nearV]
  omega

theorem score_le_of_ranksFirst {u v : TUnit} (first : ranksFirst u v = true) : v.score ≤ u.score := by
  simp only [ranksFirst, Bool.or_eq_true, Bool.and_eq_true, decide_eq_true_eq, beq_iff_eq] at first
  omega

theorem score_le_of_not_ranksFirst {u v : TUnit} (notFirst : ranksFirst u v = false) : u.score ≤ v.score := by
  simp only [ranksFirst, Bool.or_eq_false_iff, decide_eq_false_iff_not] at notFirst
  omega

theorem bestOf_ranksFirst_score {cs : List TUnit} {w : TUnit} (best : bestOf ranksFirst cs = some w) :
    w ∈ cs ∧ ∀ u ∈ cs, u.score ≤ w.score :=
  bestOf_greatest (·.score) (fun _ _ _ _ => score_le_of_ranksFirst) (fun _ _ _ _ => score_le_of_not_ranksFirst) best

/-- None ranks before the best of contenders that arrived within 2^23 of each other. -/
theorem bestOf_ranksFirst_first {cs : List TUnit} {w : TUnit} (best : bestOf ranksFirst cs = some w) {n : Nat} (hn : n < 2 ^ 24)
    (near : ∀ u ∈ cs, u.seq < 2 ^ 24 ∧ agedFrom n u.seq < 2 ^ 23) : ∀ u ∈ cs, ranksFirst u w = false := by
  have iff : ∀ a ∈ cs, ∀ b ∈ cs, (ranksFirst a b = true ↔ standing n b < standing n a) := fun a ha b hb =>
    ranksFirst_iff_standing hn (near a ha).1 (near b hb).1 (near a ha).2 (near b hb).2
  have standingLe : ∀ a ∈ cs, ∀ b ∈ cs, (ranksFirst a b = false ↔ standing n a ≤ standing n b) := fun a ha b hb => by
    rw [← Bool.not_eq_true, iff a ha b hb, Nat.not_lt]
  obtain ⟨mem, greatest⟩ := bestOf_greatest (standing n) (fun a ha b hb first => ((iff a ha b hb).mp first).le)
    (fun a ha b hb => (standingLe a ha b hb).mp) best
  exact fun u hu => (standingLe u hu w mem).mpr (greatest u hu)

/-! ### The winner (R177) -/

theorem winner_unticketed {cs : List TUnit} {ticket : Option Nat} (free : ∀ u ∈ cs, ticket ≠ some u.id) :
    winner cs ticket = bestOf ranksFirst cs := by
  have none_ : (cs.find? fun u => ticket == some u.id) = none := by simpa [List.find?_eq_none] using free
  rw [winner, none_]

theorem winner_ticketed {cs : List TUnit} {ticket : Option Nat} {u w : TUnit} (hu : u ∈ cs) (holds : ticket = some u.id)
    (won : winner cs ticket = some w) : w ∈ cs ∧ ticket = some w.id := by
  cases found : cs.find? fun u => ticket == some u.id with
  | none => exact absurd holds (by simpa using List.find?_eq_none.mp found u hu)
  | some v =>
    obtain rfl : v = w := by simpa [winner, found] using won
    exact ⟨List.mem_of_find?_eq_some found, by simpa using List.find?_some found⟩

/-- Settles O28: the holder of the ticket is found first; without one the contenders are ordered by score and age. -/
theorem winnersHoldTheTicketOrRankFirst : Obligations.WinnersHoldTheTicketOrRankFirst := by
  unfold Obligations.WinnersHoldTheTicketOrRankFirst
  intro cs ticket w won
  by_cases held : ∃ u ∈ cs, ticket = some u.id
  · obtain ⟨u, hu, holds⟩ := held
    obtain ⟨mem, wins⟩ := winner_ticketed hu holds won
    exact ⟨mem, fun _ _ _ => wins, fun free => absurd holds (free u hu)⟩
  · have free : ∀ u ∈ cs, ticket ≠ some u.id := fun u hu holds => held ⟨u, hu, holds⟩
    rw [winner_unticketed free] at won
    obtain ⟨mem, highest⟩ := bestOf_ranksFirst_score won
    refine ⟨mem, fun u hu holds => absurd holds (free u hu), fun _ => ⟨highest, fun n hn near => ?_⟩⟩
    exact bestOf_ranksFirst_first won hn fun u hu => ⟨(near u hu).1, (near u hu).2.trans (by decide)⟩

end Sys2Proof.Machine
end

section
/-!
A decision of an arbiter (R177 to R181): what it leaves of the units and of the ticket, and what the granted unit's move adds.
-/
namespace Sys2Proof.Machine

/-! ### Tickets -/

theorem look_put_other {κ α : Type} [DecidableEq κ] [DecidableEq α] (d : α) {j k : κ} (h : j ≠ k) (v : α) (m : List (κ × α)) :
    look d j (put d k v m) = look d j m := by
  have past : ∀ r, look d j r = d → look d j (m.filter (fun e => !decide (e.1 = k)) ++ r) = look d j m := by
    intro r hr
    induction m with
    | nil => exact hr
    | cons x m ih =>
      by_cases hx : x.1 = k
      · simp [hx, look, ih, h.symm]
      · simp [hx, look, ih]
  unfold put
  dsimp only
  split
  · simpa using past [] rfl
  · exact past _ (by simp [look, h.symm])

theorem arbAt_updArb_same (k : Nat) (f : Arbiter → Arbiter) (s : State) : arbAt (updArb k f s) k = f (arbAt s k) :=
  look_put_same ({} : Arbiter) k _ s.tree.arbs

/-- A change of an arbiter that keeps its ticket keeps every ticket. -/
theorem ticket_updArb {f : Arbiter → Arbiter} (kept : ∀ x, (f x).ticket = x.ticket) (k : Nat) (s : State) (j : Nat) :
    (arbAt (updArb k f s) j).ticket = (arbAt s j).ticket := by
  by_cases h : j = k
  · rw [h, arbAt_updArb_same, kept]
  · exact congrArg Arbiter.ticket (look_put_other _ h _ _)

@[simp] theorem arbAt_bump (i k n : Nat) (s : State) (j : Nat) : arbAt (bump i k n s) j = arbAt s j := by simp [arbAt]

theorem lapseTicket_keeps (k : Nat) (s : State) :
    (lapseTicket k s).tree.units = s.tree.units ∧ (lapseTicket k s).mem = s.mem := by
  unfold lapseTicket
  split
  · exact ⟨rfl, rfl⟩
  · split
    · exact ⟨rfl, rfl⟩
    · simp [updArb]

/-! ### A grant adds units of the next level alone (R181) -/

/-- From one state to another, units of one level may have entered the tree; tickets and stored bytes are as they were. -/
def Enters (level : Nat) (s t : State) : Prop :=
  t.mem = s.mem ∧ (∀ k, (arbAt t k).ticket = (arbAt s k).ticket) ∧ ∃ new, t.tree.units = s.tree.units ++ new ∧ ∀ v ∈ new, v.level = level

section
variable {level : Nat} {s t : State}

theorem Enters.none (mem : t.mem = s.mem) (tree : t.tree = s.tree) : Enters level s t :=
  ⟨mem, fun k => by unfold arbAt; rw [tree], [], by simp [tree], by simp⟩

theorem Enters.trans {u : State} (first : Enters level s t) (second : Enters level t u) : Enters level s u := by
  obtain ⟨mem1, tickets1, new1, units1, levels1⟩ := first
  obtain ⟨mem2, tickets2, new2, units2, levels2⟩ := second
  refine ⟨mem2.trans mem1, fun k => (tickets2 k).trans (tickets1 k), new1 ++ new2, by rw [units2, units1, List.append_assoc], fun v hv => ?_⟩
  exact (List.mem_append.mp hv).elim (levels1 v) (levels2 v)

theorem Enters.forEach {α : Type} {f : α → State → State} (turn : ∀ x s, Enters level s (f x s)) (xs : List α) (s : State) :
    Enters level s (forEach xs f s) :=
  forEach_keeps (P := Enters level s) (fun x t so_far => so_far.trans (turn x t)) xs s (.none rfl rfl)

theorem enters_updPart (id n : Nat) (f : Part → Part) (s : State) : Enters level s (updPart id n f s) := .none rfl rfl

theorem enters_addUnit {u : TUnit} (here : u.level = level) (s : State) : Enters level s (addUnit u s) :=
  ⟨rfl, ticket_updArb (f := fun a => { a with next := (a.next + 1) % 2 ^ 24 }) (fun _ => rfl) u.arb s, _, rfl, by simpa using here⟩

end

/-- The granted unit leaves its place, and what enters the tree for it is of the next level. -/
theorem enters_moveOn (a : ArbId) (w : TUnit) (s : State) : Enters (arbLevel a + 1) (takenOff w s) (moveOn a w s) := by
  cases a with
  | root g l =>
    unfold moveOn
    extract_lets t gen u enter
    have staged : Enters 1 t u := Enters.forEach (fun x y => enters_updPart x.1 x.2 _ y) w.parts t
    have entered : ∀ v x, Enters 1 x (enter v x) := fun v x => enters_addUnit (level := 1) rfl x
    refine Enters.trans (t := u) staged ?_
    dsimp only
    split
    · exact entered _ _
    · refine .forEach (fun x y => ?_) _ _
      split
      · exact entered _ _
      · exact .none rfl rfl
  | quad n => exact enters_addUnit rfl _
  | chan n p => exact ⟨rfl, fun _ => rfl, _, rfl, by simp [arbLevel]⟩

/-! ### Contenders are units of the tree -/

theorem mem_units_of_presented {s : State} {level arb input : Nat} {u : TUnit} (h : presented s level arb input = some u) :
    u ∈ s.tree.units := by
  suffices queued : u ∈ unitsOn s level arb input from (List.mem_filter.mp queued).1
  unfold presented at h
  extract_lets us at h
  change u ∈ us
  clear_value us
  split at h
  · split at h
    · contradiction
    · split at h
      next v found =>
        extract_lets at h
        split at h
        · obtain rfl : v = u := by simpa using h
          exact List.mem_of_find?_eq_some found
        · contradiction
      next => contradiction
  · exact List.mem_of_find?_eq_some h
  · split at h
    · split at h
      · obtain rfl := Option.some.inj h
        simp
      · contradiction
    · contradiction

theorem mem_units_of_contends {s : State} {a : ArbId} {u : TUnit} (h : u ∈ contenders s a) : u ∈ s.tree.units := by
  obtain ⟨_, _, shown⟩ := List.mem_filterMap.mp h
  exact mem_units_of_presented shown

/-! ### A decision that grants (R177 to R179) -/

/-- A unit after a decision: its score has risen where it is one of the losers. -/
def raised (lost : List TUnit) (u : TUnit) : TUnit := if lost.any (·.id == u.id) then { u with score := satAdd 255 u.score 1 } else u

@[simp] theorem raised_id (lost : List TUnit) (u : TUnit) : (raised lost u).id = u.id := by unfold raised; split <;> rfl

theorem raised_loser {lost : List TUnit} {u : TUnit} (h : u ∈ lost) : (raised lost u).score = satAdd 255 u.score 1 := by
  have loses : lost.any (·.id == u.id) = true := List.any_eq_true.mpr ⟨u, h, by simp⟩
  simp [raised, loses]

/-- What a decision leaves before the granted unit moves on: the losers' scores, the high-water mark, the ticket, the counts. -/
def decided (a : ArbId) (w : TUnit) (lost : List TUnit) (s : State) : State :=
  let next := (bestOf ranksFirst lost).map (·.id)
  let t := bump 0x8300 (arbRow a + 1) 1 (updArb (arbKey a) (fun x => { x with ticket := next })
    ((onUnits (·.map (raised lost)) s).onTree fun t => { t with high := modNth t.high (arbRow a) (Nat.max w.score) }))
  if next.isSome && next != (arbAt s (arbKey a)).ticket then bump 0x8301 (arbRow a + 1) 1 t else t

section
variable (a : ArbId) (w : TUnit) (lost : List TUnit) (s : State)

theorem decided_units : (decided a w lost s).tree.units = s.tree.units.map (raised lost) := by
  unfold decided
  dsimp only
  split <;> simp [updArb, onUnits]

theorem decided_mem : (decided a w lost s).mem = s.mem := by
  unfold decided
  dsimp only
  split <;> simp [updArb, onUnits]

theorem decided_ticket : (arbAt (decided a w lost s) (arbKey a)).ticket = (bestOf ranksFirst lost).map (·.id) := by
  unfold decided
  dsimp only
  split <;> simp [arbAt_updArb_same]

end

/-- Where the holder of the ticket waits for its place, only a lapse can happen. -/
theorem decide1_waits {a : ArbId} {s : State}
    (waits : awaitsPlace (contenders (lapseTicket (arbKey a) s) a) (arbAt (lapseTicket (arbKey a) s) (arbKey a)).ticket = true) :
    decide1 a s = lapseTicket (arbKey a) s := by
  simp [decide1, waits]

section
variable {a : ArbId} {s s1 : State} {w : TUnit} {lost : List TUnit} (lapsed : lapseTicket (arbKey a) s = s1)
  (ready : awaitsPlace (contenders s1 a) (arbAt s1 (arbKey a)).ticket = false)
  (won : winner (contenders s1 a) (arbAt s1 (arbKey a)).ticket = some w) (losers : (contenders s1 a).filter (·.id != w.id) = lost)
include lapsed ready won losers

theorem decide1_grants : decide1 a s = moveOn a w (decided a w lost s1) := by
  subst lapsed losers
  simp only [decide1, won, ready, Option.filter_some, Bool.not_false, if_true]
  rfl

/-- The units after a grant: the winner gone, the losers raised, and beside them only units of the next level. -/
theorem decide1_units : ∃ new, (decide1 a s).tree.units = (s.tree.units.map (raised lost)).filter (·.id != w.id) ++ new ∧
    ∀ v ∈ new, v.level = arbLevel a + 1 := by
  obtain ⟨-, -, new, units, levels⟩ := enters_moveOn a w (decided a w lost s1)
  refine ⟨new, ?_, levels⟩
  rw [decide1_grants lapsed ready won losers, units, takenOff, onUnits, State.onTree_tree, decided_units, ← lapsed,
    (lapseTicket_keeps _ _).1]

theorem decide1_ticket : (arbAt (decide1 a s) (arbKey a)).ticket = (bestOf ranksFirst lost).map (·.id) := by
  obtain ⟨-, tickets, -⟩ := enters_moveOn a w (decided a w lost s1)
  rw [decide1_grants lapsed ready won losers, tickets]
  exact decided_ticket a w lost s1

theorem decide1_mem : (decide1 a s).mem = s.mem := by
  obtain ⟨mem, -⟩ := enters_moveOn a w (decided a w lost s1)
  rw [decide1_grants lapsed ready won losers, mem]
  exact (decided_mem a w lost s1).trans (lapsed ▸ (lapseTicket_keeps _ _).2)

/-- The winner has left its arbiter's level. -/
theorem decide1_winner_left : ∀ v ∈ (decide1 a s).tree.units, v.level = arbLevel a → v.id ≠ w.id := by
  obtain ⟨new, units, levels⟩ := decide1_units lapsed ready won losers
  intro v hv here
  rw [units, List.mem_append] at hv
  rcases hv with stays | enters
  · simpa using (List.mem_filter.mp stays).2
  · have := levels v enters
    omega

/-- Every loser stays in the tree with its score raised. -/
theorem decide1_loser_raised : ∀ u ∈ lost, ∃ v ∈ (decide1 a s).tree.units, v.id = u.id ∧ v.score = satAdd 255 u.score 1 := by
  obtain ⟨new, units, -⟩ := decide1_units lapsed ready won losers
  intro u hu
  obtain ⟨contends, other⟩ := List.mem_filter.mp (losers ▸ hu)
  have there : u ∈ s.tree.units := by
    rw [← (lapseTicket_keeps (arbKey a) s).1, lapsed]
    exact mem_units_of_contends contends
  refine ⟨raised lost u, ?_, raised_id lost u, raised_loser hu⟩
  rw [units]
  exact List.mem_append_left _ (List.mem_filter.mpr ⟨List.mem_map_of_mem there, by simpa using other⟩)

end

/-- The unit that a channel arbiter grants is kept, at level 3, behind the others. -/
theorem moveOn_chan_units (n : Fin 32) (p : Fin 66) (w : TUnit) (s : State) :
    (moveOn (.chan n p) w s).tree.units = s.tree.units.filter (·.id != w.id) ++ [{ w with level := 3 }] := rfl

theorem execArbiterDecision_root {s : State} (high : s.released = true) (g : Fin 4) (l : Fin 16) :
    execArbiterDecision (.root g l) s = .next (keepFixed s true (retryHeads (pumpHub (decide1 (.root g l) s)))) := by
  rw [execArbiterDecision, whenReleased_high high]

theorem execArbiterDecision_belowRoot {s : State} (high : s.released = true) {a : ArbId} (notRoot : ∀ g l, a ≠ .root g l) :
    execArbiterDecision a s = .next (keepFixed s true (decide1 a s)) := by
  rw [execArbiterDecision, whenReleased_high high]
  cases a with
  | root g l => exact absurd rfl (notRoot g l)
  | quad n => rfl
  | chan n p => rfl

/-- Settles O29: a decision raises the losers' scores and passes the ticket before the winner moves on, and that move only adds units of
the next level. -/
theorem arbiterDecisionGrantsTheWinner : Obligations.ArbiterDecisionGrantsTheWinner := by
  unfold Obligations.ArbiterDecisionGrantsTheWinner
  refine fun s high => ⟨execArbiterDecision_root high, fun a => execArbiterDecision_belowRoot high, fun a w => ?_, fun a => decide1_waits⟩
  · intro s1 held ready won lost t
    refine ⟨decide1_ticket rfl ready won rfl, decide1_winner_left rfl ready won rfl, decide1_loser_raised rfl ready won rfl,
      decide1_mem rfl ready won rfl, ?_⟩
    rintro n p rfl
    unfold t
    rw [decide1_grants rfl ready won rfl, moveOn_chan_units, decided_units, (lapseTicket_keeps _ _).1]
    rfl

end Sys2Proof.Machine
end

section
/-!
High-water marks and the samples of the regulation entries: cleared, and begun anew (R187, R209, R210).
-/
namespace Sys2Proof.Machine

@[simp] theorem entryAt_keepFixed (s t : State) (pin : Bool) (e : Nat) : entryAt (keepFixed s pin t) e = entryAt t e := rfl
@[simp] theorem entryAt_notify (d : Die) (c v : Nat) (b : Bytes) (s : State) (e : Nat) : entryAt (notify d c v b s) e = entryAt s e := by
  simp [entryAt]

/-! ### The writes that clear (R187, R210) -/

/-- Every high-water mark at 0. -/
def clearHigh (x : State) : State := x.onTree fun t => { t with high := List.replicate 12 0 }

theorem objRow_highWater : objRow 0x3411 0 = some ⟨0x3411, 0, 0, 1, 1, 2, 2, 0, 0, 255⟩ := by decide +kernel
theorem objRow_samples : objRow 0x3865 0 = some ⟨0x3865, 0, 0, 1, 1, 2, 2, 0, 0, 255⟩ := by decide +kernel

theorem performWrite_highWater (src : Src) (ends : Bool) (x : State) :
    performWrite src ends 0x3411 0 ⟨0x3411, 0, 0, 1, 1, 2, 2, 0, 0, 255⟩ [1] x = doneWrite (clearHigh x) := by
  simp [performWrite, variableSize, isBlobCommand, writeCommand, onlyIf, leNat, clearHigh]

theorem performWrite_samples (src : Src) (ends : Bool) (x : State) :
    performWrite src ends 0x3865 0 ⟨0x3865, 0, 0, 1, 1, 2, 2, 0, 0, 255⟩ [1] x = doneWrite (clearSamples x) := by
  simp [performWrite, variableSize, isBlobCommand, writeCommand, onlyIf, leNat]

/-- An entry with its maxima and its worst latency at 0. -/
def RegEntry.cleared (x : RegEntry) : RegEntry := { x with worst := 0, depthMax := 0, delayMax := 0, delayPeak := 0 }

theorem entryAt_clearSamples (x : State) (e : Nat) : entryAt (clearSamples x) e = (entryAt x e).cleared :=
  nth_map RegEntry.cleared x.reg.entries e {}

/-! ### The end of a latency window (R209) -/

section
variable {e : Nat} {s : State} (over_ : (nth s.reg.latWin e 0 / 1000000 + 1) * 1000000 ≤ s.clk.hub)
include over_

/-- The new window is that of hub time, and its counts are 0; a notice may say what the last one held. -/
theorem endLatencyWindow_same {β : Type} (g : State → β) (hnotice : ∀ d c v b t, g (notify d c v b t) = g t) :
    g (endLatencyWindow e s) = g (updEntry e (fun x => { x with winWorst := 0, winExcess := 0 })
      (s.onReg fun r => { r with latWin := modNth r.latWin e fun _ => s.clk.hub / 1000000 * 1000000 })) := by
  unfold endLatencyWindow
  simp only [Nat.not_lt.mpr over_, if_false]
  split
  · rfl
  · exact hnotice _ _ _ _ _

theorem latWin_endLatencyWindow (there : e < s.reg.latWin.length) :
    nth (endLatencyWindow e s).reg.latWin e 0 = s.clk.hub / 1000000 * 1000000 := by
  rw [endLatencyWindow_same over_ (·.reg) fun _ _ _ _ _ => by simp]
  exact nth_modNth_same there _ 0

theorem entryAt_endLatencyWindow (there : e < s.reg.entries.length) :
    entryAt (endLatencyWindow e s) e = { entryAt s e with winWorst := 0, winExcess := 0 } := by
  rw [endLatencyWindow_same over_ (entryAt · e) fun _ _ _ _ _ => by simp]
  exact nth_modNth_same there _ {}

end

/-! ### The end of a sampling period (R210) -/

/-- An entry at the end of a sampling period: its depth, and the mean and greatest delay of the releases in it. `idle` says that whole
periods without a release have passed since. -/
def RegEntry.sampled (depth : Nat) (idle : Bool) (x : RegEntry) : RegEntry :=
  { x with depth := depth, depthMax := Nat.max x.depthMax depth, delay := if x.delayN = 0 || idle then 0 else x.delaySum / x.delayN,
           delayMax := Nat.max x.delayMax x.delayPeak, delayPeak := 0, delaySum := 0, delayN := 0 }

theorem nth_map_zipIdx {α β : Type} (f : α × Nat → β) {xs : List α} {n : Nat} (h : n < xs.length) (d : β) (d' : α) :
    nth (xs.zipIdx.map f) n d = f (nth xs n d', n) := by
  simp [nth, h]

section
variable {s : State} (over_ : (s.reg.sampled / s.reg.period + 1) * s.reg.period ≤ s.clk.hub)
include over_

theorem endSamples_over : endSamples s = s.onReg fun r => { r with
    sampled := s.clk.hub / s.reg.period * s.reg.period,
    entries := r.entries.zipIdx.map fun x => x.1.sampled (heldDepth s x.2)
      (decide ((s.reg.sampled / s.reg.period + 1) * s.reg.period < s.clk.hub / s.reg.period * s.reg.period)) } := by
  unfold endSamples
  simp only [Nat.not_lt.mpr over_, if_false]
  rfl

theorem entryAt_endSamples {e : Nat} (there : e < s.reg.entries.length) : entryAt (endSamples s) e = (entryAt s e).sampled (heldDepth s e)
    (decide ((s.reg.sampled / s.reg.period + 1) * s.reg.period < s.clk.hub / s.reg.period * s.reg.period)) := by
  rw [endSamples_over over_]
  exact nth_map_zipIdx _ there ({} : RegEntry) ({} : RegEntry)

end

/-- Hub time within the period after the one that ends begins no later period. -/
theorem period_start_le {n p now : Nat} (within : now < (n + 1) * p) : now / p * p ≤ n * p :=
  Nat.mul_le_mul_right p (Nat.lt_succ_iff.mp (Nat.div_lt_of_lt_mul (by rwa [Nat.mul_comm] at within)))

theorem execLatencyWindowEnd_over {e : Fin 48} {s : State} (high : s.released = true) (all48 : s.reg.entries.length = 48)
    (windows : s.reg.latWin.length = 48) (over_ : (nth s.reg.latWin e 0 / 1000000 + 1) * 1000000 ≤ s.clk.hub) :
    ∃ t, execLatencyWindowEnd e s = .next t ∧ nth t.reg.latWin e 0 = s.clk.hub / 1000000 * 1000000 ∧
      entryAt t e = { entryAt s e with winWorst := 0, winExcess := 0 } ∧ t.reqs = s.reqs ∧ t.mem = s.mem := by
  refine ⟨_, whenReleased_high high _, ?_, ?_, ?_, ?_⟩
  · rw [keepFixed_reg, latWin_endLatencyWindow over_ (windows.symm ▸ e.isLt)]
  · rw [entryAt_keepFixed, entryAt_endLatencyWindow over_ (all48.symm ▸ e.isLt)]
  · rw [keepFixed_reqs]
    exact endLatencyWindow_same over_ (·.reqs) fun _ _ _ _ _ => by simp
  · rw [keepFixed_mem]
    exact endLatencyWindow_same over_ (·.mem) fun _ _ _ _ _ => by simp

theorem execHighWaterClear_wrote {src : Src} {s : State} (high : s.released = true) (may : mayWrite s src 0x3411 0 [1] = true) :
    execHighWaterClear src 1 s = .next (wrote src 0x3411 0 [1] clearHigh s) :=
  whenReleased_wrote true high may objRow_highWater (performWrite_highWater src true)

theorem execSampleClear_wrote {src : Src} {s : State} (high : s.released = true) (may : mayWrite s src 0x3865 0 [1] = true) :
    execSampleClear src 1 s = .next (wrote src 0x3865 0 [1] clearSamples s) :=
  whenReleased_wrote true high may objRow_samples (performWrite_samples src true)

/-- Settles O30: the clears are accepted writes, a window and a period that are over leave each entry as one equation says. -/
theorem samplesMarksAndWindows : Obligations.SamplesMarksAndWindows := by
  unfold Obligations.SamplesMarksAndWindows
  refine ⟨fun src s high => ⟨execHighWaterClear_wrote high, execSampleClear_wrote high, fun x e _ => ?_⟩,
    fun s high all48 => ⟨fun e windows over_ => ?_, fun over_ => ⟨_, whenReleased_high high _, ?_⟩⟩⟩
  · simp [entryAt_clearSamples, RegEntry.cleared]
  · obtain ⟨t, done, window, entry, kept⟩ := execLatencyWindowEnd_over high all48 windows over_
    refine ⟨t, done, window, ?_⟩
    rw [entry]
    exact ⟨rfl, rfl, rfl, rfl, kept⟩
  · have ended := endSamples_over over_
    refine ⟨by simp [ended], by simp [ended], by simp [ended], by simp [ended], fun e small => ?_⟩
    have entry := entryAt_endSamples over_ (all48.symm ▸ small)
    rw [entryAt_keepFixed, entry]
    refine ⟨rfl, rfl, rfl, rfl, rfl, rfl, fun some_ within => ?_⟩
    simp [RegEntry.sampled, some_, period_start_le within]

end Sys2Proof.Machine
end

section
/-!
Commands that a byte string carries and its object judges: reservation sets and gate lists (R201, R205).
-/
namespace Sys2Proof.Machine

/-- A requester may write only what is an object. -/
theorem objRow_of_mayWrite {s : State} {src : Src} {index sub : Nat} {value : Bytes} (may : mayWrite s src index sub value = true) :
    ∃ r, objRow index sub = some r := by
  simp only [mayWrite, fits, Bool.and_eq_true] at may
  cases row : objRow index sub with
  | none => simp [row] at may
  | some r => exact ⟨r, rfl⟩

/-- A write that its object judges, and admits on what it finds, is done. -/
theorem whenReleased_admitted {src : Src} {index sub : Nat} {value : Bytes} {s : State} {write : State → State × Bool} (ends : Bool)
    (high : s.released = true) (may : mayWrite s src index sub value = true)
    (judges : ∀ r x, performWrite src ends index sub r value x = judged (write x))
    (admitted : (write (beforeWrite src index sub value s)).2 = true) :
    whenReleased s (objectWrite src ends index sub value) = .next (wrote src index sub value (fun x => (write x).1) s) := by
  obtain ⟨r, row⟩ := objRow_of_mayWrite may
  rw [whenReleased_high high, objectWrite_performs ends may row, judges, judged, admitted]
  rfl

theorem performWrite_reservationSet (src : Src) (ends : Bool) (value : Bytes) (r : ObjRow) (x : State) :
    performWrite src ends 0x3810 0 r value x = judged (writeReservationSet value x) := by
  simp [performWrite, variableSize, isBlobCommand, writeBlob]

theorem performWrite_gateList (src : Src) (ends : Bool) (p : Nat) (value : Bytes) (r : ObjRow) (x : State) :
    performWrite src ends 0x3840 (p + 1) r value x = judged (writeGateList p value x) := by
  simp [performWrite, variableSize, isBlobCommand, writeBlob]

end Sys2Proof.Machine
end

section
/-!
Window boundaries and reservation sets (R190, R197, R205 to R207, R212).
-/
namespace Sys2Proof.Machine

/-! ### Balances at a boundary (R49, R190) -/

/-- Balances of the window before a boundary are refilled once at it. -/
theorem atWindow_refills {w n : Nat} {x : RegEntry} (long : 0 < w) (before : x.win = n * w) :
    atWindow w ((n + 1) * w) x = { refill w x with win := (n + 1) * w } := by
  have later : ¬ (n + 1) * w ≤ n * w := by
    rw [Nat.add_one_mul]
    omega
  have one : ((n + 1) * w - n * w) / w = 1 := by rw [Nat.add_one_mul, Nat.add_sub_cancel_left, Nat.div_self long]
  simp [atWindow, Nat.mul_div_cancel _ long, before, later, one]

/-- Balances that a charge has taken over a boundary are not refilled at it again. -/
theorem atWindow_taken {w n : Nat} {x : RegEntry} (long : 0 < w) (taken : x.win = (n + 1) * w) : atWindow w ((n + 1) * w) x = x := by
  simp [atWindow, Nat.mul_div_cancel _ long, taken]

@[simp] theorem refill_queue (w : Nat) (x : RegEntry) : (refill w x).queue = x.queue := rfl

theorem refill_br {x : RegEntry} (w : Nat) (windowed : x.credit = false) :
    (refill w x).br = (if x.br < 0 then x.br else 0) + x.eff * w / 1000 := by
  simp [refill, windowed]

theorem refill_bt {x : RegEntry} (w : Nat) (capped : x.cap ≠ 0) : (refill w x).bt = (if x.bt < 0 then x.bt else 0) + x.cap * w / 1000 := by
  simp [refill, capped]

theorem execRegulationWindowBoundary_due {s : State} (high : s.released = true) (due : nextBoundary s ≤ s.clk.hub) :
    execRegulationWindowBoundary s = .next (keepFixed s true (examineAll (demoteUrgency (nextBoundary s)
      ((takeWritten (applyRescaled (s.onReg fun r => { r with window := nextBoundary s }))).onReg fun r =>
        { r with entries := r.entries.map (atWindow r.w (nextBoundary s)) })))) := by
  rw [execRegulationWindowBoundary, whenReleased_high high, if_neg (Nat.not_lt.mpr due)]

/-! ### A written set (R205) -/

section
variable {bs : Bytes} {s : State}

/-- A set that is not admitted leaves only its result. -/
theorem writeReservationSet_rejected (none_ : (judgeSet s bs).2 = none) :
    writeReservationSet bs s = (s.onReg fun r => { r with result := (judgeSet s bs).1 }, false) := by
  unfold writeReservationSet
  dsimp only
  rw [none_]

/-- An admitted set waits for the boundary of its own windows that comes next. -/
theorem writeReservationSet_admitted {w : Nat} {recs : List (Nat × RegEntry)} (some_ : (judgeSet s bs).2 = some (w, recs)) :
    writeReservationSet bs s = (s.onReg fun r => { r with result := (judgeSet s bs).1,
                                                          pending := some ⟨w, (s.clk.hub / w + 1) * w, recs⟩ }, true) := by
  unfold writeReservationSet
  dsimp only
  rw [some_]
  rfl

/-- The result of a set stays readable, and no entry changes before the set comes into force. -/
theorem writeReservationSet_judges : (writeReservationSet bs s).1.reg.result = (judgeSet s bs).1 ∧
    (writeReservationSet bs s).2 = (judgeSet s bs).2.isSome ∧ (writeReservationSet bs s).1.reg.entries = s.reg.entries := by
  cases set : (judgeSet s bs).2 with
  | none => simp [writeReservationSet_rejected set]
  | some x => simp [writeReservationSet_admitted set]

end

/-! ### A set comes into force (R204, R205) -/

/-- An entry configured by its record of a set, with balances at 0 and its windows begun anew. -/
def RegEntry.configured (x : RegEntry) (at_ : Nat) (n : RegEntry) : RegEntry :=
  { x with rsv := n.rsv, cap := n.cap, scope := n.scope, priority := n.priority, credit := n.credit, burst := n.burst,
           br := 0, bt := 0, v := at_, win := at_ }

/-- An entry with an effective reservation. -/
def RegEntry.allowed (x : RegEntry) (eff : Nat) : RegEntry := { x with eff := eff }

/-- The entries of a set, and its windows, before their effective reservations are computed and their balances refilled. -/
def configure (set : ReservationSet) (s : State) : State := s.onReg fun r => { r with
  w := set.w, window := set.at_, pending := none, rescaled := none,
  urgency := if set.w = r.w then r.urgency else r.urgency.map fun u => if u.level = 3 then { u with since := set.at_ } else u,
  entries := r.entries.zipIdx.map fun x => x.1.configured set.at_ (look ({} : RegEntry) x.2 set.records) }

/-- Reservations come into force, and every balance is refilled. -/
def putInForce (effs : List Nat) (s : State) : State := (setEffective effs s).onReg fun r => { r with entries := r.entries.map (refill r.w) }

@[simp] theorem rescaledNotice_reg (cause : Nat) (s : State) : (rescaledNotice cause s).reg = s.reg :=
  notify_reg _ _ _ _ _

theorem activateSet_reg (set : ReservationSet) (s : State) : (activateSet set s).reg =
    (putInForce (rescale (floors (configure set s)) (configure set s).reg.entries) (configure set s)).reg := by
  unfold activateSet
  dsimp only
  split
  · exact rescaledNotice_reg 6 _
  · rfl

theorem nth_map_of_lt {α β : Type} (f : α → β) {xs : List α} {n : Nat} (h : n < xs.length) (d : β) (d' : α) :
    nth (xs.map f) n d = f (nth xs n d') := by
  simp [nth, h]

theorem entryAt_configure {s : State} {e : Nat} (there : e < s.reg.entries.length) (set : ReservationSet) :
    entryAt (configure set s) e = (entryAt s e).configured set.at_ (look {} e set.records) :=
  nth_map_zipIdx (fun x : RegEntry × Nat => x.1.configured set.at_ (look {} x.2 set.records)) there {} {}

theorem entryAt_putInForce {s : State} {e : Nat} (there : e < s.reg.entries.length) (effs : List Nat) :
    entryAt (putInForce effs s) e = refill s.reg.w ((entryAt s e).allowed (nth effs e 0)) := by
  have effective : entryAt (setEffective effs s) e = (entryAt s e).allowed (nth effs e 0) :=
    nth_map_zipIdx (fun x : RegEntry × Nat => x.1.allowed (nth effs x.2 0)) there {} {}
  rw [← effective]
  exact nth_map_of_lt _ (by simpa [setEffective] using there) ({} : RegEntry) ({} : RegEntry)

theorem entryAt_activateSet {s : State} {e : Nat} (there : e < s.reg.entries.length) (set : ReservationSet) :
    ∃ eff, entryAt (activateSet set s) e = refill set.w (((entryAt s e).configured set.at_ (look {} e set.records)).allowed eff) := by
  have there' : e < (configure set s).reg.entries.length := by simpa [configure] using there
  rw [entryAt, activateSet_reg, ← entryAt, entryAt_putInForce there', entryAt_configure there]
  exact ⟨_, rfl⟩

theorem execReservationSetActivate_due {s : State} (high : s.released = true) {set : ReservationSet} (waits : s.reg.pending = some set)
    (due : set.at_ ≤ s.clk.hub) : execReservationSetActivate s =
      .next (keepFixed s true (examineAll (demoteUrgency set.at_ (takeWritten (activateSet set s))))) := by
  rw [execReservationSetActivate, whenReleased_high high, waits]
  dsimp only
  rw [if_neg (Nat.not_lt.mpr due)]

/-- Settles O32: a boundary and an activation that are due, a refill at the boundary it belongs to, the write of a set by whether it is
admitted, and what an activated entry is. -/
theorem boundariesAndReservations : Obligations.BoundariesAndReservations := by
  unfold Obligations.BoundariesAndReservations
  refine ⟨fun s high due => ⟨execRegulationWindowBoundary_due high due, fun w n x long => ⟨atWindow_refills long, atWindow_taken long⟩,
      fun w x windowed => ⟨refill_br w windowed, refill_queue w x, refill_bt w⟩⟩,
    fun src value s high => ⟨fun may => whenReleased_admitted true high may (performWrite_reservationSet src true value), fun x => ?_,
      fun set waits due => execReservationSetActivate_due high waits due, fun set x => ?_, fun cause => ?_⟩⟩
  · obtain ⟨result, admitted, entries⟩ := writeReservationSet_judges (bs := value) (s := x)
    refine ⟨result, admitted, entries, fun w recs some_ => ?_⟩
    rw [writeReservationSet_admitted some_]
    rfl
  · refine ⟨by rw [activateSet_reg]; rfl, by rw [activateSet_reg]; rfl, fun all48 e small => ?_⟩
    obtain ⟨eff, entry⟩ := entryAt_activateSet (all48.symm ▸ small) set
    rw [entry]
    exact ⟨rfl, rfl, rfl, rfl, rfl, rfl, rfl⟩
  · exact ⟨_, whenReleased_high high _, rfl, rfl, rfl, rfl, rfl⟩

end Sys2Proof.Machine
end

section
/-!
Credit, gates and gate lists (R191, R193, R200, R201).
-/
namespace Sys2Proof.Machine

/-! ### The head of a queue (R191, R200) -/

/-- The head of an entry's queue has been examined now. -/
def headSeen (e : Nat) (s : State) : State := updEntry e (fun x => { x with seen := s.clk.hub }) s

section
variable {e : Nat} {s : State} {r : Req} (head : ((entryAt s e).queue.head?).bind (reqAt s) = some r) (notWriteFence : r.op ≠ .fence)
  (notFullFence : r.op ≠ .fullFence) (mapped : fixedMapOn (headSeen e s) = false)
include head notWriteFence notFullFence mapped

/-- A head that its gate permits and its balances release leaves where it is taken, with its class and its charge. -/
theorem examineOnce_releases (permits : gatePermits (headSeen e s) (e / 8) (e % 8) = true) {cls : Nat} {z : RegEntry}
    (verdict : judge (headSeen e s) e (releaseCharge (headSeen e s) r) = some (cls, z))
    (taken : (sendOn { r with cls := cls } (headSeen e s)).2 = true) : examineOnce e s =
      (releaseHead e r cls (updEntry e (fun u => { u with br := z.br, bt := z.bt, v := z.v, win := z.win })
        (sendOn { r with cls := cls } (headSeen e s)).1), true) := by
  unfold headSeen at *
  simp [examineOnce, head, notWriteFence, notFullFence, mapped, permits, verdict, taken]

/-- A head that no balance releases stays. -/
theorem examineOnce_waits (held : judge (headSeen e s) e (releaseCharge (headSeen e s) r) = none) :
    examineOnce e s = (updEntry e (fun x => { x with stuck := false }) (headSeen e s), false) := by
  unfold headSeen at *
  simp [examineOnce, head, notWriteFence, notFullFence, mapped, held]

end

section
variable {s : State} (high : s.released = true)
include high

theorem execCreditPositive_examines {e : Fin 48} (paced : (entryAt s e).credit = true) (positive : 0 < creditOf s (entryAt s e)) :
    execCreditPositive e s = .next (keepFixed s true (examine e s)) := by
  rw [execCreditPositive, whenReleased_high high]
  simp [paced, positive]

theorem execGateOpen_examines {p : PortId} {g : Fin 8}
    (opened : (nth s.reg.gates p {}).opened s.clk.hub g (entryAt s (8 * p + g)).seen = true) :
    execGateOpen p g s = .next (keepFixed s true (examine (8 * p + g) s)) := by
  rw [execGateOpen, whenReleased_high high]
  dsimp only
  rw [if_pos opened]

/-! ### Gate lists (R201) -/

theorem execGateListActivate_due {p : PortId} {l : GateList} {at_ : Nat} (waits : nth s.reg.gateNext p none = some (l, at_))
    (due : at_ ≤ s.clk.hub) : execGateListActivate p s = .next (keepFixed s true
      (forEach ((List.range 8).map (8 * p.val + ·)) examine (s.onReg fun r =>
        { r with gates := modNth r.gates p fun _ => l, gateNext := modNth r.gateNext p fun _ => none }))) := by
  rw [execGateListActivate, whenReleased_high high, waits]
  dsimp only
  rw [if_neg (Nat.not_lt.mpr due)]

end

/-- A well-formed list with a cycle waits for the multiple of the cycle that comes next; the list in force stays. -/
theorem writeGateList_waits {value : Bytes} {l : GateList} {s : State} (wellFormed : gateListOf value = some l) (cycles : l.cycle ≠ 0) (p : Nat) :
    writeGateList p value s =
      (s.onReg fun r => { r with gateNext := modNth r.gateNext p fun _ => some (l, (s.clk.hub / l.cycle + 1) * l.cycle) }, true) := by
  simp [writeGateList, wellFormed, cycles]

/-- Settles O33: a credit, a gate and a list that are due examine their queues; a head is examined by its gate and its balances. -/
theorem gatesAndCredit : Obligations.GatesAndCredit := by
  unfold Obligations.GatesAndCredit
  refine ⟨fun s high => ⟨fun e => execCreditPositive_examines high, fun p g => execGateOpen_examines high, fun x e => rfl,
      fun y e r head notWriteFence notFullFence => ?_⟩,
    fun src p value s high => ⟨fun may => whenReleased_admitted true high may (performWrite_gateList src true p value),
      fun l x wellFormed five cycles => ?_, fun l at_ => execGateListActivate_due high⟩⟩
  · intro x mapped _ permits
    exact ⟨fun cls z => examineOnce_releases head notWriteFence notFullFence mapped permits,
      examineOnce_waits head notWriteFence notFullFence mapped⟩
  · rw [writeGateList_waits wellFormed cycles]
    exact ⟨rfl, rfl, nth_modNth_same (five.symm ▸ p.isLt) _ none⟩

end Sys2Proof.Machine
end

section
/-!
Scrub passes: the command that defines and stops them, their begin and end (R249, R253), and the row unit (R250 to R252).
-/
namespace Sys2Proof.Machine

/-! ### The scrub command (R249) -/

/-- A requester may write an object of one size only with a value of that size. -/
theorem size_of_mayWrite {s : State} {src : Src} {index sub : Nat} {value : Bytes} {r : ObjRow} (fixed : variableSize index = none)
    (may : mayWrite s src index sub value = true) (row : objRow index sub = some r) : value.length = r.size := by
  simp only [mayWrite, fits, row, fixed, Bool.and_eq_true] at may
  obtain ⟨⟨⟨-, sized⟩, -⟩, -⟩ := may
  simpa using sized

/-- A row that names a command of an object of one size, admitted on what it finds, is the write that it is. -/
theorem namedWrite_admitted {src : Src} {index k : Nat} {value : Bytes} {s : State} {r : ObjRow} {write : Bytes → State → State × Bool}
    (high : s.released = true) (row : objRow index 0 = some r) (fixed : variableSize index = none)
    (judges : ∀ bs x, bs.length = r.size → performWrite src true index 0 r bs x = judged (write bs x)) :
    let bs := leBytes 1 k ++ value.drop 1
    mayWrite s src index 0 bs = true → (write bs (beforeWrite src index 0 bs s)).2 = true →
    whenReleased s (namedWrite index k src value) = .next (wrote src index 0 bs (fun x => (write bs x).1) s) := by
  intro bs may admitted
  rw [whenReleased_high high, namedWrite, objectWrite_performs true may row, judges bs _ (size_of_mayWrite fixed may row), judged, admitted]
  rfl

theorem objRow_scrub : objRow 0x4020 0 = some ⟨0x4020, 0, 0, 8, 32, 2, 2, 0, 0, 0⟩ := by decide +kernel

theorem performWrite_scrub (src : Src) (ends : Bool) (bs : Bytes) (x : State) (whole : bs.length = 32) :
    performWrite src ends 0x4020 0 ⟨0x4020, 0, 0, 8, 32, 2, 2, 0, 0, 0⟩ bs x = judged (writeScrub bs x) := by
  simp [performWrite, whole, variableSize, isBlobCommand, writeBlob]

/-- The pass that a command defines (Table 8.6). -/
def definedPass (bs : Bytes) : Pass :=
  { options := field bs 1 1, scope := field bs 2 1, value := field bs 4 4, duration := field bs 8 4, rep := field bs 12 4 }

/-- The lowest identifier that no pass has. -/
def freePass (x : State) : Nat := (leastFrom (fun k => (passAt x k).isNone) 8 1).getD 1

section
variable {bs : Bytes} {x : State}

theorem writeScrub_rejects (bad : judgeScrub x bs ≠ 0) :
    writeScrub bs x = (x.onCodec fun c => { c with result := judgeScrub x bs }, false) := by
  simp [writeScrub, bad]

theorem writeScrub_defines (good : judgeScrub x bs = 0) (define : field bs 0 1 = 1) :
    writeScrub bs x = (beginPass (freePass x) (x.onCodec fun c =>
      { c with result := 256 * freePass x, passes := c.passes ++ [(freePass x, definedPass bs)] }), true) := by
  simp [writeScrub, good, define, freePass, definedPass, State.onCodec]

theorem writeScrub_stops (good : judgeScrub x bs = 0) (stop : field bs 0 1 = 2) {p : Pass} (defined : passAt x (field bs 3 1) = some p) :
    let y := x.onCodec fun c => { c with result := 256 * field bs 3 1 }
    writeScrub bs x = ((if p.running then endPass (field bs 3 1) 1 y else
      y.onCodec fun c => { c with passes := c.passes.filter (·.1 != field bs 3 1) }), true) := by
  intro y
  have kept : passAt y (field bs 3 1) = some p := defined
  unfold writeScrub
  simp only [good, stop, ne_eq, not_true_eq_false, if_false, if_true, kept, y]

end

/-! ### A pass begins (R250) -/

/-- A pass at its begin on a state: each channel of its scope at row 0, or counted as skipped. -/
def Pass.begun (x : State) (gs : List Nat) (p : Pass) : Pass :=
  ({ p with
    running := true, start := x.clk.hub, epoch := objGet x 0x4010 0, todo := (gs.filter fun g => !scrubSkips x g).map fun g => (g, 0, none),
    done := 0, size := gs.length, ended := false, outcome := 0, counts := List.replicate 13 0, worst := (0, 0, 0, 0) } : Pass).add 11
      (gs.filter (scrubSkips x)).length

theorem beginPass_defined {x : State} {id : Nat} {p : Pass} (defined : passAt x id = some p) :
    beginPass id x = updPass id (Pass.begun x (scopeChannels x p.scope p.value)) x := by
  unfold beginPass
  rw [defined]
  rfl

/-! ### A pass ends (R252, R253) -/

/-- A pass at its end, with its block mismatches. -/
def Pass.over (p : Pass) (mismatches : Nat) : Pass := { p.add 9 mismatches with running := false, ended := true }

/-- The blocks of an ending pass compared where its options ask for it. -/
def verifyPass (i : Nat) (p : Pass) (s : State) : State × Nat :=
  let s0 := retirePassUnits (fun k _ => k == i) s
  if bit p.options 1 = true then verifyBlocks p.value s0 else (s0, 0)

/-- The summary of a pass that is over, kept, journaled and said. -/
def reportPass (i : Nat) (e : Pass) (s : State) : State :=
  let r := summaryOf s i e
  let s1 := journal 0x82 r (s.onCodec fun c => { c with summaries := (r :: c.summaries).take 8 })
  if e.outcome = 0 then notify .hub 0x4010 0 r s1 else notify .hub 0x4011 1 r s1

/-- A pass that the host does not stop ends with its blocks verified and its summary reported. -/
theorem endPass_completes {i : Nat} {p : Pass} {s : State} (defined : passAt s i = some p) :
    let v := verifyPass i p s
    endPass i 0 s = if p.rep = 0 then (reportPass i (p.over v.2) v.1).onCodec fun c => { c with passes := c.passes.filter (·.1 != i) }
      else updPass i (fun _ => p.over v.2) (reportPass i (p.over v.2) v.1) := by
  intro v
  unfold endPass
  rw [defined]
  simp only [ne_eq, zero_ne_one, not_false_eq_true, decide_true, Bool.and_true, decide_false, Bool.or_false, decide_eq_true_eq, if_false]
  rfl

section
variable {s : State} (high : s.released = true) {pass : Fin 8} {p : Pass} (defined : passAt s (pass.val + 1) = some p)
include high defined

theorem execScrubPassEnd_ends (running : p.running = true) (covered : p.todo = []) :
    execScrubPassEnd pass s = .next (keepFixed s true (endPass (pass.val + 1) 0 s)) := by
  rw [execScrubPassEnd, whenReleased_high high, defined]
  simp [running, covered]

theorem execScrubRepeatStart_begins (waits : p.running = false) (repeats : p.rep ≠ 0) (due : p.start + p.rep * 1000000000 ≤ s.clk.hub) :
    execScrubRepeatStart pass s = .next (keepFixed s true (beginPass (pass.val + 1) s)) := by
  rw [execScrubRepeatStart, whenReleased_high high, defined]
  simp [waits, repeats, Nat.not_lt.mpr due]

end

/-! ### The next row of a channel (R250, R251) -/

section
variable {i c g cursor : Nat} {p : Pass} {s : State}

theorem nextScrub_done (done : (nextRow s p g cursor).1 = none) :
    nextScrub i c g cursor p s = leaveChannel i g 12 (updPass i (·.add 1 (nextRow s p g cursor).2) s) := by
  simp [nextScrub, done]

variable {k : Nat} (next : (nextRow s p g cursor).1 = some k)
include next

theorem nextScrub_asks (idle : rowUnit s c .scrub i = none) :
    nextScrub i c g cursor p s = askRow c g .scrub i (k / 4096) (k % 4096) s := by
  simp [nextScrub, next, idle]

variable {u : TUnit} (asked : rowUnit s c .scrub i = some u)
include asked

theorem nextScrub_waits (blocked : u.level < 3 ∨ mayOpen s c (k / 4096) (k % 4096) = false ∨ outranked s c 7 0 = true) :
    nextScrub i c g cursor p s = s := by
  have stops : (decide (u.level < 3) || !mayOpen s c (k / 4096) (k % 4096) || outranked s c 7 0) = true := by
    simpa [or_assoc] using blocked
  simp [nextScrub, next, asked, stops]

theorem nextScrub_reads (granted : 3 ≤ u.level) (opens : mayOpen s c (k / 4096) (k % 4096) = true)
    (first : outranked s c 7 0 = false) :
    nextScrub i c g cursor p s = scrubRow i p ⟨c, g, k / 4096, k % 4096⟩ (updPass i (fun p => { p with todo := p.todo.map fun t =>
        if t.1 == g then (g, k + 1, some (quadTime s (quadOf g))) else t })
      (updPass i (·.add 1 (nextRow s p g cursor).2) (dropRowUnit u s))) := by
  simp [nextScrub, next, asked, Nat.not_lt.mpr granted, opens, first]

end

/-- A channel whose turn has come is left where the pass skips it, and served its next row where not. -/
theorem execScrubRowUnit_turn {pass : Fin 8} {n : Fin 32} {ch : Fin 64} {s : State} {p : Pass} {c cursor : Nat} {last : Option Nat}
    (high : s.released = true) (defined : passAt s (pass.val + 1) = some p)
    (todo : p.todo.find? (·.1 == 64 * n.val + ch.val) = some (64 * n.val + ch.val, cursor, last))
    (serving : servingSlot s (64 * n.val + ch.val) = some c) (running : p.running = true)
    (paced : ∀ t, last = some t → t + Nat.max 1000 (p.duration * 1000000000 / 262144) ≤ quadTime s (quadOf (64 * n.val + ch.val)))
    (turn : passTurn s (pass.val + 1) (64 * n.val + ch.val) = true) (awake : (chanAt s c).inRest = false)
    (refreshed : (chanAt s c).selfRefresh = false) :
    execScrubRowUnit pass n ch s = .next (keepFixed s true (if scrubSkips s (64 * n.val + ch.val) = true
      then leaveChannel (pass.val + 1) (64 * n.val + ch.val) 11 s
      else nextScrub (pass.val + 1) c (64 * n.val + ch.val) cursor p s)) := by
  rw [execScrubRowUnit, whenReleased_high high]
  dsimp only
  rw [defined]
  cases last with
  | none => simp [todo, serving, running, turn, awake, refreshed]
  | some t => simp [todo, serving, running, turn, awake, refreshed, paced t rfl]

/-! ### The row unit (R251, R252) -/

/-- The sectors of a row that a port wrote in the pass's epoch, where the pass counts them. -/
def rowCensus (p : Pass) (a : RowAt) (r : RowRead) (y : State) : Nat :=
  if bit p.options 2 = false then 0 else
    ((scopeSectors y p a).filter fun k => let t := (nth r.sectors k zeroSector).2; decide (tagWriter t ≤ 5) && tagEpoch t == p.epoch).length

/-- A pass with one more row counted. -/
def Pass.counted (a : RowAt) (r : RowRead) (census : Nat) (p : Pass) : Pass :=
  let syms := if r.failed then 0xFFFF else r.symbols
  let p := (p.add 0 1).add 10 census
  let p := if r.failed then p.add 4 1 else if 0 < r.symbols then (p.add 2 1).add 3 r.symbols else p
  if p.worst.2.2.2 < syms then { p with worst := (a.gch, a.bank, a.row, syms) } else p

theorem filter_isNone_of_pairs (f : Nat → Option (Bytes × Nat)) (bad : List Nat) :
    ((bad.map fun k => (k, f k)).filter (·.2.isNone)).map (·.1) = bad.filter fun k => (f k).isNone := by
  simp [List.filter_map, Function.comp_def]

/-- Without repair a row unit reads its row and counts what it read. -/
theorem scrubRow_counts {p : Pass} (noRepair : bit p.options 0 = false) (i : Nat) (a : RowAt) (x : State) :
    let r := readRow x a
    let y := sendRow a.c a.bank a.row (rowSlots x a) [] x
    scrubRow i p a x = updPass i (Pass.counted a r (rowCensus p a r y))
      (if r.failed then countUncorrectable a r.bad (r.bad.filter fun k => (stripeValue y a k).isNone) y
       else if 0 < r.symbols then bump 0x8502 (quadOfSlot a.c + 1) 1 y else y) := by
  intro r y
  unfold scrubRow
  simp only [filter_isNone_of_pairs, noRepair, Bool.not_false, if_true]
  simp only [rowCensus, Bool.not_eq_true', r, y]
  rfl

/-! ### The obligation -/

/-- Settles O47: the command by its result and its code, the end and the repeat of a pass, and the row unit by what its channel has next. -/
theorem scrubPassesRun : Obligations.ScrubPassesRun := by
  unfold Obligations.ScrubPassesRun
  refine ⟨fun src value s high => ⟨fun i k row => ?_, fun bs x => ⟨writeScrub_rejects, writeScrub_defines,
      fun good stop p defined => writeScrub_stops good stop defined⟩, fun x id p defined => beginPass_defined defined,
      fun pass p defined => ⟨fun running covered => ?_, execScrubRepeatStart_begins high defined⟩⟩,
    fun pass n ch s p c cursor last high => ?_⟩
  · intro bs may admitted
    simp only [List.mem_cons, Prod.mk.injEq, List.not_mem_nil, or_false] at row
    rcases row with ⟨rfl, rfl⟩ | ⟨rfl, rfl⟩
    all_goals exact namedWrite_admitted high objRow_scrub (by simp [variableSize]) (performWrite_scrub src true) may admitted
  · exact (execScrubPassEnd_ends high defined running covered).trans (by rw [endPass_completes defined]; rfl)
  · intro i g defined todo serving running paced turn awake refreshed passed
    have unit := execScrubRowUnit_turn high defined todo serving running paced turn awake refreshed
    refine ⟨fun skips => unit.trans (by rw [if_pos skips]), fun serves => ?_, fun x count => rfl,
      fun x a noRepair => scrubRow_counts noRepair i a x⟩
    have served : exec (.scrubRowUnit pass n ch) s = .next (keepFixed s true (nextScrub i c g cursor p s)) :=
      unit.trans (by rw [if_neg (Bool.not_eq_true _ ▸ serves)])
    rw [served]
    refine ⟨fun done => by rw [nextScrub_done done], fun k next => ⟨fun idle => by rw [nextScrub_asks next idle], fun u asked =>
      ⟨fun blocked => by rw [nextScrub_waits next asked blocked], fun granted opens first => ?_⟩⟩⟩
    rw [nextScrub_reads next asked granted opens first]

end Sys2Proof.Machine
end

section
/-!
Chains of descriptors: how the next one starts, how a Continue is followed, how a chain ends (R261 to R264), and what the close of an
outing leaves of the sequencers' places.
-/
namespace Sys2Proof.Machine

/-! ### An operative descriptor starts (R264, R266) -/

/-- What an operative descriptor fails with at its start, by its kind; 0 where nothing is wrong. -/
def descError (s : State) (domain : Nat) (bs : Bytes) : Nat :=
  if field bs 0 1 = 1 then hamperError s domain bs else if field bs 0 1 = 2 then ramblerError s bs
  else if field bs 0 1 = 3 then transcodeError s domain bs else blockCheckError s domain bs

/-- An outing with one more descriptor started and listed. -/
def Outing.listing (a : Active) (o : Outing) : Outing := { o with pc := o.pc + 1, started := o.started + 1, active := o.active ++ [a] }

/-- A descriptor that has done nothing yet, as its start lists it. -/
structure Active.Fresh (s : State) (q : Nat) (o : Outing) (bs : Bytes) (a : Active) : Prop where
  index : a.index = o.started
  bytes : a.bytes = bs
  timeout : a.timeout = objGet s 0x4810 0
  ringWait : a.ringWait = objGet s 0x4811 0
  progress : a.progress = quadTime s q
  ended : a.ended = false
  error : a.error = 0
  writes : a.writes = []
  due : a.due = []

/-- The descriptor is listed first; the error of its form, if it has one, then stops it. -/
theorem beginDesc_lists (q i : Nat) (o : Outing) (bs : Bytes) (s : State) : ∃ a : Active, a.Fresh s q o bs ∧
    beginDesc q i o bs s = if descError s o.domain bs = 0 then updOuting q i (Outing.listing a) s
      else stopDesc q i o.started (descError s o.domain bs) (updOuting q i (Outing.listing a) s) := by
  unfold beginDesc
  extract_lets kind err word seed a listed
  have judged : err = descError s o.domain bs := by
    unfold err descError kind
    split <;> simp_all
  exact ⟨a, ⟨rfl, rfl, rfl, rfl, rfl, rfl, rfl, rfl, rfl⟩, by rw [judged]; rfl⟩

/-! ### The rows of a chain -/

/-- A Continue is well formed (R263). -/
def continueFormed (bs : Bytes) : Bool :=
  zeros bs 1 7 && addrOk bs 8 64 && decide (1 ≤ field bs 16 1) && decide (field bs 16 1 ≤ 64) && zeros bs 17 47

section
variable {q : Fin 4} {slot : Nat} {s : State} {o : Outing} {bs : Bytes} (high : s.released = true) (held : outingAt s q slot = some o)
  (next : nextDesc o = some bs) (runs : engineRuns s q = true)
include high held next runs

/-- A descriptor starts where fewer than 4 run; one that waits for those before it, once nothing of them is left. -/
theorem execDescriptorStart_begins (low : 1 ≤ field bs 0 1) (operative : field bs 0 1 ≤ 4) (few : o.started < 65536)
    (room : (o.active.filter (!·.ended)).length < 4)
    (turn : bit (field bs 1 1) 1 = true → ∀ a ∈ o.active, a.ended = true ∧ a.writes = [] ∧ a.due = []) :
    execDescriptorStart q slot s = .next (keepFixed s true (beginDesc q slot o bs s)) := by
  have free : (bit (field bs 1 1) 1 && !o.active.all Active.over) = false := by
    cases waits : bit (field bs 1 1) 1 with
    | false => rfl
    | true => simpa [Active.over, and_assoc] using turn waits
  rw [execDescriptorStart, whenReleased_high high, held]
  simp [next, runs, show field bs 0 1 ≠ 0 by omega, show field bs 0 1 ≠ 15 by omega, Nat.not_lt.mpr operative, Nat.not_le.mpr few,
    Nat.not_le.mpr room, free]

/-- A type that names no descriptor fails the chain, which passes it. -/
theorem execDescriptorStart_unknown (low : 5 ≤ field bs 0 1) (reserved : field bs 0 1 ≤ 14) :
    execDescriptorStart q slot s = .next (keepFixed s true
      (chainFailure q slot 1 (bit (field bs 1 1) 0) (updOuting q slot (fun o => { o with pc := o.pc + 1 }) s))) := by
  rw [execDescriptorStart, whenReleased_high high, held]
  simp [next, runs, show field bs 0 1 ≠ 0 by omega, show field bs 0 1 ≠ 15 by omega, show 4 < field bs 0 1 by omega]

theorem execDescriptorStart_tooMany (low : 1 ≤ field bs 0 1) (operative : field bs 0 1 ≤ 4) (many : 65536 ≤ o.started) :
    execDescriptorStart q slot s = .next (keepFixed s true (chainFailure q slot 9 true s)) := by
  rw [execDescriptorStart, whenReleased_high high, held]
  simp [next, runs, show field bs 0 1 ≠ 0 by omega, show field bs 0 1 ≠ 15 by omega, Nat.not_lt.mpr operative, many]

theorem execEndDescriptor_ends (end_ : field bs 0 1 = 0) :
    execEndDescriptor q slot s = .next (keepFixed s true (updOuting q slot (fun o => { o with pc := o.pc + 1, chainEnd := true })
      (if zeros bs 1 63 = true then s else chainFailure q slot 1 false s))) := by
  rw [execEndDescriptor, whenReleased_high high, held]
  simp [next, runs, end_]

section
variable (continue_ : field bs 0 1 = 0xF)
include continue_

theorem execContinueDescriptor_tooMany (many : 1024 ≤ o.continues) :
    execContinueDescriptor q slot s = .next (keepFixed s true (chainFailure q slot 9 true s)) := by
  rw [execContinueDescriptor, whenReleased_high high, held]
  simp [next, runs, continue_, many]

variable (few : o.continues < 1024)
include few

theorem execContinueDescriptor_malformed (bad : continueFormed bs = false) :
    execContinueDescriptor q slot s = .next (keepFixed s true (chainFailure q slot 1 true s)) := by
  unfold continueFormed at bad
  rw [execContinueDescriptor, whenReleased_high high, held]
  simp only [next, runs, continue_, bad, Nat.not_le.mpr few, Bool.not_true, Bool.not_false, ne_eq, not_true_eq_false, decide_false,
    Bool.or_self, Bool.false_eq_true, if_false, if_true]

variable (formed : continueFormed bs = true)
include formed

theorem execContinueDescriptor_reads
    (away : fetched s q slot continueIndex offsetKey (field bs 8 8) (64 * field bs 16 1) = none) :
    execContinueDescriptor q slot s = .next (keepFixed s true
      (fetch q slot continueIndex offsetKey (field bs 8 8) (64 * field bs 16 1) s)) := by
  unfold continueFormed at formed
  rw [execContinueDescriptor, whenReleased_high high, held]
  simp only [next, runs, continue_, formed, away, Nat.not_le.mpr few, Bool.not_true, ne_eq, not_true_eq_false, decide_false,
    Bool.or_self, Bool.false_eq_true, if_false]

theorem execContinueDescriptor_takes {r : EngRead}
    (came_ : fetched s q slot continueIndex offsetKey (field bs 8 8) (64 * field bs 16 1) = some r) :
    execContinueDescriptor q slot s = .next (keepFixed s true (takeBlock q slot (field bs 16 1) r s)) := by
  unfold continueFormed at formed
  rw [execContinueDescriptor, whenReleased_high high, held]
  simp only [next, runs, continue_, formed, came_, Nat.not_le.mpr few, Bool.not_true, ne_eq, not_true_eq_false, decide_false,
    Bool.or_self, Bool.false_eq_true, if_false]

end
end

/-! ### What a Continue's block gives -/

section
variable {q i n : Nat} {r : EngRead} {s : State}

theorem takeBlock_good (good : r.err = 0) (clean : r.poison = false) :
    takeBlock q i n r s = updOuting q i (fun o => { o with
      block := (List.range n).map (fun j => slice r.bytes (64 * j) 64), pc := 0, continues := o.continues + 1 })
      (dropFetches q i (·.idx = continueIndex) s) := by
  simp [takeBlock, good, clean]

theorem takeBlock_failed (failed : r.err ≠ 0) :
    takeBlock q i n r s = chainFailure q i r.err true (dropFetches q i (·.idx = continueIndex) s) := by
  simp [takeBlock, failed]

theorem takeBlock_poisoned (good : r.err = 0) (poisoned : r.poison = true) :
    takeBlock q i n r s = chainFailure q i 0xD true (dropFetches q i (·.idx = continueIndex) s) := by
  simp [takeBlock, good, poisoned]

end

/-! ### The end of an outing (R261) -/

@[simp] theorem requestOver_engines (r : Resp) (s : State) : (requestOver r s).engines = s.engines := by
  unfold requestOver serveRequest
  split
  · split
    · simp [serveCollective, dropReq]
    · rfl
  · rfl

@[simp] theorem endResponse_engines (p : Nat) (r : Resp) (s : State) : (endResponse p r s).engines = s.engines := by
  by_cases over_ : r.final = true ∧ r.kind ≠ 8
  · rw [endResponse_final over_.1 over_.2, freeTag, updPort_engines, requestOver_engines]
  · simp [endResponse, over_]

@[simp] theorem respond_engines (p : Nat) (r : Resp) (s : State) : (respond p r s).engines = s.engines := by
  unfold respond
  (repeat' split) <;> simp

@[simp] theorem updReq_engines (id : Nat) (f : Req → Req) (s : State) : (updReq id f s).engines = s.engines := rfl

/-- The response of an outing that closes, sent or discarded, touches no outing. -/
theorem closeOuting_outings (q : Fin 4) (slot : Nat) (o : Outing) (s : State) :
    (closeOuting q slot o s).engines.outings = s.engines.outings.filter (·.1 != (q.val, slot)) := by
  unfold closeOuting
  extract_lets record closed response marked
  split <;> simp [marked, closed]

theorem execOutingComplete_closes {q : Fin 4} {slot : Nat} {s : State} {o : Outing} (high : s.released = true)
    (held : outingAt s q slot = some o) (over_ : outingOver s q slot o = true) :
    execOutingComplete q slot s = .next (keepFixed s true (wakeHeld o.port (retryHeads (closeOuting q slot o s)))) := by
  rw [execOutingComplete, whenReleased_high high, held]
  simp [over_]

/-! ### The obligation -/

/-- Settles O45: a start lists its descriptor before its error stops it, a Continue is followed as its block stands, and the close
of an outing filters the list of outings. -/
theorem chainsRunTheirDescriptors : Obligations.ChainsRunTheirDescriptors := by
  unfold Obligations.ChainsRunTheirDescriptors
  intro q slot s o high held
  refine ⟨fun bs next runs => ⟨fun low operative few room turn => ⟨?_, ?_⟩, execDescriptorStart_unknown high held next runs,
    execDescriptorStart_tooMany high held next runs, fun continue_ => ⟨execContinueDescriptor_tooMany high held next runs continue_,
      fun few => ⟨execContinueDescriptor_malformed high held next runs continue_ few,
        execContinueDescriptor_reads high held next runs continue_ few, fun r formed came_ => ?_⟩⟩,
    execEndDescriptor_ends high held next runs⟩, fun over_ => ⟨execOutingComplete_closes high held over_, closeOuting_outings q slot o s⟩⟩
  · exact execDescriptorStart_begins high held next runs low operative few room turn
  · obtain ⟨a, fresh, listed⟩ := beginDesc_lists q slot o bs s
    exact ⟨a, fresh.index, fresh.bytes, fresh.timeout, fresh.ringWait, fresh.progress, fresh.ended, fresh.error, fresh.writes, fresh.due,
      fun good => listed.trans (if_pos good), fun bad => listed.trans (if_neg bad)⟩
  · have taken : exec (.continueDescriptor q slot) s = .next (keepFixed s true (takeBlock q slot (field bs 16 1) r s)) :=
      execContinueDescriptor_takes high held next runs continue_ few formed came_
    rw [taken]
    exact ⟨fun good clean => by rw [takeBlock_good good clean], fun failed => by rw [takeBlock_failed failed],
      fun good poisoned => by rw [takeBlock_poisoned good poisoned]⟩

end Sys2Proof.Machine
end

section
/-!
The engines' descriptors: which step each of their rows takes, and what the step is by what the descriptor has read (R274 to R285, R293).
-/
namespace Sys2Proof.Machine

/-! ### The rows, while the engines run and the outing is heard -/

section
variable {q : Fin 4} {slot index : Nat} {s : State} {o : Outing} {a : Active} (high : s.released = true)
  (listed : activeAt s q slot index = some (o, a)) (runs : engineRuns s q = true) (heard : o.silent = false)
include high listed runs heard

theorem execHamperDescriptor_steps (kind : field a.bytes 0 1 = 1) :
    execHamperDescriptor q slot index s = .next (keepFixed s true (pumpDue (hamperStep q slot a s))) := by
  rw [execHamperDescriptor, whenReleased_high high, listed]
  simp [runs, heard, kind]

theorem execBagMerge_merges {bag : Nat} {b : Bag} (ready : a.bags.find? (fun b => b.index == bag && b.ready) = some b)
    (room : mergeInFlight s < 1024) :
    execBagMerge q slot index bag s = .next (keepFixed s true (pumpDue (mergeBag q slot index a b s))) := by
  rw [execBagMerge, whenReleased_high high, listed]
  simp [ready, runs, heard, Nat.not_le.mpr room]

theorem execTranscodeCopyDescriptor_steps (kind : field a.bytes 0 1 = 3) :
    execTranscodeCopyDescriptor q slot index s = .next (keepFixed s true (pumpDue (transcodeStep q slot a s))) := by
  rw [execTranscodeCopyDescriptor, whenReleased_high high, listed]
  simp [runs, heard, kind]

section
variable (kind : field a.bytes 0 1 = 4)
include kind

theorem execBlockCheckDescriptor_reads (away : fetched s q slot index (rowKey a.row) (field a.bytes 8 8 + a.row * 65536) 65536 = none) :
    execBlockCheckDescriptor q slot index s = .next (keepFixed s true
      (fetch q slot index (rowKey a.row) (field a.bytes 8 8 + a.row * 65536) 65536 s)) := by
  rw [execBlockCheckDescriptor, whenReleased_high high, listed]
  simp [runs, heard, kind, away]

theorem execBlockCheckDescriptor_checks {r : EngRead}
    (came_ : fetched s q slot index (rowKey a.row) (field a.bytes 8 8 + a.row * 65536) 65536 = some r) :
    execBlockCheckDescriptor q slot index s = .next (keepFixed s true (checkBlock q slot a r s)) := by
  rw [execBlockCheckDescriptor, whenReleased_high high, listed]
  simp [runs, heard, kind, came_]

end

section
variable (kind : field a.bytes 0 1 = 2)
include kind

theorem execRamblerDescriptor_takesSlot (none_ : a.walk = none) (room : walksActive s q < 64) :
    execRamblerDescriptor q slot index s = .next (keepFixed s true (updActive q slot index (fun x => { x with walk := some {} }) s)) := by
  rw [execRamblerDescriptor, whenReleased_high high, listed]
  simp [runs, heard, kind, none_, Nat.not_le.mpr room]

variable {w : Walk} (walks : a.walk = some w) (going : w.finished = false)
include walks going

theorem execRamblerDescriptor_begins (new : w.begun = false) (room : trackerRoom s q = true) :
    execRamblerDescriptor q slot index s = .next (keepFixed s true (pumpDue (beginWalk q slot a s))) := by
  rw [execRamblerDescriptor, whenReleased_high high, listed]
  simp [runs, heard, kind, walks, going, new, room]

theorem execRamblerDescriptor_awaitsConsumed (begun : w.begun = true) (polling : w.polling = true) :
    execRamblerDescriptor q slot index s = .next (keepFixed s true (pumpDue (takeConsumed q slot a w s))) := by
  rw [execRamblerDescriptor, whenReleased_high high, listed]
  simp [runs, heard, kind, walks, going, begun, polling]

theorem execRamblerDescriptor_steps (begun : w.begun = true) (idle : w.polling = false) :
    execRamblerDescriptor q slot index s = .next (keepFixed s true (pumpDue (walkStep q slot a w s))) := by
  rw [execRamblerDescriptor, whenReleased_high high, listed]
  simp [runs, heard, kind, walks, going, begun, idle]

end

section
variable {w : Walk} (walks : a.walk = some w)
include walks

theorem execProducedWordUpdate_steps (begun : w.begun = true) :
    execProducedWordUpdate q slot index s = .next (keepFixed s true (pumpDue (produceStep q slot a w s))) := by
  rw [execProducedWordUpdate, whenReleased_high high, listed]
  simp [walks, runs, heard, begun]

variable (blocked : w.blocked = true) (going : w.finished = false)
include blocked going

theorem execConsumedWordPoll_reads (idle : w.polling = false) (due : w.polledAt + 1000 ≤ quadTime s q) :
    execConsumedWordPoll q slot index s = .next (keepFixed s true (readConsumed q slot a s)) := by
  rw [execConsumedWordPoll, whenReleased_high high, listed]
  simp [walks, runs, heard, blocked, going, idle, Nat.not_lt.mpr due]

theorem execConsumedWordPoll_takes (polling : w.polling = true) :
    execConsumedWordPoll q slot index s = .next (keepFixed s true (takeConsumed q slot a w s)) := by
  rw [execConsumedWordPoll, whenReleased_high high, listed]
  simp [walks, runs, heard, blocked, going, polling]

end
end

/-- A descriptor whose walk, where it has one, is not over ends by the limit of what it waits for: the consumed word or progress. -/
theorem execDescriptorTimeout_ends {q : Fin 4} {slot index : Nat} {s : State} {o : Outing} {a : Active} (high : s.released = true)
    (listed : activeAt s q slot index = some (o, a)) (heard : o.silent = false) {blocked : Bool}
    (waits : blocked = (a.walk.map (·.blocked)).getD false) (going : ∀ w, a.walk = some w → w.finished = false)
    (over_ : a.progress + (if blocked then a.ringWait else a.timeout) * 1000000 ≤ quadTime s q) :
    execDescriptorTimeout q slot index s = .next (keepFixed s true
      (notify (.med q) 0x8021 1 (leBytes 1 (o.port + 1) ++ leBytes 2 o.tag ++ leBytes 4 index ++ leBytes 1 (if blocked then 2 else 1))
        (timeOut q slot a s))) := by
  have unsaid : (a.walk.map fun w => w.finished && w.stop == 0xA).getD false = false := by
    cases walks : a.walk with
    | none => rfl
    | some w => simp [going w walks]
  subst waits
  rw [execDescriptorTimeout, whenReleased_high high, listed]
  simp only [unsaid, heard, Nat.not_lt.mpr over_, decide_false, Bool.or_self, Bool.false_eq_true, if_false]

/-! ### Hamper: a bag's reads and its row (R274, R275) -/

section
variable {q i : Nat} {a : Active} {s : State}

theorem hamperStep_partials {b : Bag} {rs : List (Nat × Option FVal × Option EngRead)}
    (there : ((a.bags.filter fun b => !b.ready && b.ix.isSome).findSome? fun b => (bagRows s q i a b).map fun rs => (b, rs)) = some (b, rs)) :
    hamperStep q i a s = makePartials q i a b rs s := by
  simp only [hamperStep, there]

theorem hamperStep_nextBag (noBags : a.bags = []) (more : a.nextBag < field a.bytes 20 4) (room : bagsInFlight s < 256) :
    hamperStep q i a s = bagControl q i a a.nextBag
      (updActive q i a.index (fun x => { x with bags := x.bags ++ [{ index := a.nextBag }], nextBag := x.nextBag + 1 }) s) := by
  simp [hamperStep, noBags, Nat.not_le.mpr more, Nat.not_le.mpr room]

variable {b : Nat}

theorem bagControl_reads (away : fetched s q i a.index offsetKey (field a.bytes 24 8 + 4 * b) 8 = none) :
    bagControl q i a b s = fetchArray q i a.index offsetKey (field a.bytes 24 8 + 4 * b) 8 s := by
  simp only [bagControl, away]

variable {r : EngRead} (came_ : fetched s q i a.index offsetKey (field a.bytes 24 8 + 4 * b) 8 = some r)
include came_

theorem bagControl_failed (failed : r.err ≠ 0) : bagControl q i a b s = stopDesc q i a.index r.err s := by
  simp only [bagControl, came_, failed, ne_eq, not_false_eq_true, if_true]

/-- Offsets that fall are malformed. -/
theorem bagControl_falling (good : r.err = 0) (clean : r.poison = false) (falls : field r.bytes 4 4 < field r.bytes 0 4) :
    bagControl q i a b s = stopDesc q i a.index 1 s := by
  simp only [bagControl, came_, good, clean, falls, ne_eq, not_true_eq_false, Bool.false_eq_true, if_false, if_true]

end

/-- The output row of a bag, and the merge unit's generator after it. -/
def bagRow (a : Active) (b : Bag) (draw : Nat) : Bytes × Nat :=
  narrowRow (field a.bytes 3 1) ((roundingOf (field a.bytes 60 1)).getD ⟨false, false⟩) (nth a.rng 4 1)
    (if b.count = 0 then List.replicate (field a.bytes 6 2) (FVal.fin false 0) else poolBag (field a.bytes 2 1) draw b)

/-- A descriptor without a bag that is merged; a poisoned row draws nothing from the generator. -/
def Active.dropBag (b : Bag) (rng : Nat) (x : Active) : Active :=
  { x with bags := x.bags.filter (·.index != b.index), rng := x.rng.set 4 (if b.poisoned then nth x.rng 4 1 else rng) }

/-- The row of a merged bag is handed to its descriptor to write, or fails it where it leaves its segment. -/
def bagWritten (q : Fin 4) (slot index : Nat) (a : Active) (b : Bag) (s : State) : State :=
  let n := outputRow (field a.bytes 3 1) (field a.bytes 6 2)
  let at_ := field a.bytes 48 8 + b.index * field a.bytes 56 4
  let s1 := updActive q slot index (Active.dropBag b (bagRow a b s.draw).2) { s with draw := s.draw + 1 }
  if rowInSegment at_ n then
    addDue q slot index { entry := 45, addr := at_, stream := 0, data := if b.poisoned then List.replicate n 0 else (bagRow a b s.draw).1,
                          poison := b.poisoned, fmt := some (field a.bytes 3 1) }
      (if b.poisoned then updOuting q slot (fun o => { o with poisoned := o.poisoned + 1 }) s1 else s1)
  else failDesc q slot index 1 s1

/-- A merge ends the descriptor with its last bag. -/
theorem mergeBag_writes {q : Fin 4} {slot index : Nat} {a : Active} {b : Bag} {s : State} {y : Outing} {x : Active}
    (listed : activeAt (bagWritten q slot index a b s) q slot index = some (y, x)) :
    mergeBag q slot index a b s = if x.bags.isEmpty && decide (field a.bytes 20 4 ≤ x.nextBag)
      then endDesc q slot index (bagWritten q slot index a b s) else bagWritten q slot index a b s := by
  unfold mergeBag
  extract_lets bs out e n at_ rounding v
  rcases drawn : narrowRow out rounding (nth a.rng 4 1) v with ⟨row, g⟩
  dsimp -zeta only
  extract_lets s2 s3
  have written : s3 = bagWritten q slot index a b s := by
    rw [bagWritten, show bagRow a b s.draw = (row, g) from drawn]
    unfold s3
    cases rowInSegment at_ n <;> rfl
  rw [written, listed]

/-! ### Rambler: the ring and its two words (R279, R280) -/

section
variable {q i : Nat} {a : Active} {w : Walk} {s : State}

section
variable (noneAhead : w.ahead = [])
include noneAhead

theorem walkStep_atRing (atRing : w.rest ≠ []) : walkStep q i a w s = ringStep q i a w s := by
  simp [walkStep, noneAhead, atRing]

variable (ringDone : w.rest = [])
include ringDone

theorem walkStep_over (spent : walkSpent a w = true) :
    walkStep q i a w s = updWalk q i a.index (fun w => { w with finished := true }) s := by
  simp [walkStep, noneAhead, ringDone, tokenReady, sortBy, spent]

theorem walkStep_next (more : walkSpent a w = false) : walkStep q i a w s = nextToken q i a w s := by
  simp [walkStep, noneAhead, ringDone, tokenReady, sortBy, more]

end

/-- P moves by a chunk once the writes of a chunk are visible. -/
theorem produceStep_chunk (going : w.finished = false) (visible : w.produced + field a.bytes 36 4 ≤ visibleStream a w) :
    produceStep q i a w s = writeProduced q i a (w.produced + field a.bytes 36 4) s := by
  simp [produceStep, going, visible]

/-- At the end of the walk P takes what is left of the stream. -/
theorem produceStep_total (over_ : w.finished = true) (whole : visibleStream a w = w.stream) (behind : w.produced < visibleStream a w)
    (short : visibleStream a w < w.produced + field a.bytes 36 4) :
    produceStep q i a w s = endDesc q i a.index (writeProduced q i a (visibleStream a w) s) := by
  rw [whole] at behind short
  simp [produceStep, Nat.not_le.mpr short, over_, whole, behind.ne]

theorem produceStep_waits (short : visibleStream a w < w.produced + field a.bytes 36 4)
    (hidden : w.finished = true → visibleStream a w ≠ w.stream) : produceStep q i a w s = s := by
  simpa [produceStep, Nat.not_le.mpr short] using fun over_ whole => absurd whole (hidden over_)

theorem readConsumed_room (room : trackerRoom s q = true) :
    readConsumed q i a s = updWalk q i a.index (fun w => { w with polling := true, polledAt := quadTime s q })
      (fetch q i a.index consumedKey (field a.bytes 48 8) 8 (dropFetches q i (fun f => f.idx = a.index && f.key = consumedKey) s)) := by
  simp only [readConsumed, room, Bool.not_true, Bool.false_eq_true, if_false]

section
variable (polling : w.polling = true) {r : EngRead} (came_ : fetched s q i a.index consumedKey (field a.bytes 48 8) 8 = some r)
include polling came_

theorem consumed_awaited : (fetched s q i a.index consumedKey (field a.bytes 48 8) 8).filter (fun _ => w.polling) = some r := by
  rw [came_, polling]
  rfl

variable (good : r.err = 0)
include good

theorem takeConsumed_outside (outside : leNat r.bytes < w.consumed ∨ w.produced < leNat r.bytes) :
    takeConsumed q i a w s = cutWalk q i a.index 0xC s := by
  simp [takeConsumed, consumed_awaited polling came_, good, outside]

theorem takeConsumed_within (low : w.consumed ≤ leNat r.bytes) (high : leNat r.bytes ≤ w.produced) :
    takeConsumed q i a w s = updWalk q i a.index (fun w =>
      { w with polling := false, consumed := leNat r.bytes, blocked := w.blocked && decide (leNat r.bytes = w.consumed) }) s := by
  simp [takeConsumed, consumed_awaited polling came_, good, Nat.not_lt.mpr low, Nat.not_lt.mpr high]

end
end

/-! ### Transcode Copy: a row (R284) -/

theorem leastError_one (e : Nat) : leastError [e, 0] = e ∧ leastError [0, e] = e := by
  by_cases none_ : e = 0 <;> simp [leastError, sortBy, sortBy.ins, none_]

/-- The error of a row that has come: that of its read, or of a destination that leaves its segment. -/
def rowError (a : Active) (row : Nat) (r : EngRead) : Nat :=
  if r.err ≠ 0 then r.err else if rowInSegment (transcodeDest a row).1 (transcodeDest a row).2 then 0 else 1

/-- Where a row has at most one of the two errors, the least of them is the one it has. -/
theorem leastError_row {a : Active} {row : Nat} {r : EngRead}
    (one : r.err = 0 ∨ rowInSegment (transcodeDest a row).1 (transcodeDest a row).2 = true) :
    leastError [r.err, check (rowInSegment (transcodeDest a row).1 (transcodeDest a row).2) 1] = rowError a row r := by
  rcases one with good | inside
  · simp [rowError, good, check, (leastError_one _).2]
  · simp [rowError, inside, check, (leastError_one _).1]

/-- A row converted and handed to its descriptor to write. -/
def rowConverted (q : Fin 4) (slot : Nat) (a : Active) (row : Nat) (r : EngRead) (s : State) : State :=
  let out := field a.bytes 2 1
  let v := convertRow (a.fmt.getD 0) out (field a.bytes 4 2) ((roundingOf (field a.bytes 3 1)).getD ⟨false, false⟩) (nth a.rng q 1) r.bytes
  addDue q slot a.index { entry := 40 + q, addr := (transcodeDest a row).1, stream := 0, data := v.1, fmt := some out }
    (updActive q slot a.index (fun y => { y with rows := y.rows.filter (· ≠ row), rng := y.rng.set q v.2 })
      (dropFetches q slot (fun f => f.idx = a.index && f.key = rowKey row) s))

section
variable {q : Fin 4} {slot : Nat} {a : Active} {row : Nat} {r : EngRead} {s : State}

theorem transcodeStep_row (ready : rowReady s q slot a = some (row, r)) :
    transcodeStep q slot a s = transcodeRow q slot a row r { s with draw := s.draw + 1 } := by
  simp only [transcodeStep, ready]

theorem transcodeRow_fails (failed : rowError a row r ≠ 0)
    (one : r.err = 0 ∨ rowInSegment (transcodeDest a row).1 (transcodeDest a row).2 = true) :
    transcodeRow q slot a row r s = stopDesc q slot a.index (rowError a row r) s := by
  simp only [transcodeRow, leastError_row one, failed, ne_eq, not_false_eq_true, if_true]

theorem transcodeRow_converts (good : rowError a row r = 0) (clean : r.poison = false) :
    transcodeRow q slot a row r s = if field a.bytes 24 4 ≤ a.row && (a.rows.filter (· ≠ row)).isEmpty
      then endDesc q slot a.index (rowConverted q slot a row r s) else rowConverted q slot a row r s := by
  have read : r.err = 0 := by
    by_contra failed
    simp [rowError, failed] at good
  simp only [transcodeRow, leastError_row (.inl read), good, clean, ne_eq, not_true_eq_false, Bool.false_eq_true, if_false, rowConverted]

end

/-! ### Block Check: a block (R285) -/

/-- A block's bytes differ from its word; of a poisoned one nothing is said. -/
def blockBad (s : State) (a : Active) (r : EngRead) : Bool :=
  let at_ := field a.bytes 8 8 + a.row * 65536
  !r.poison && crc32c r.bytes != readBlockWord s (curEntry s (at_ / 2 ^ 22)).place (at_ % 2 ^ 22 / 65536)

/-- A block counted, and the next one named. -/
def blockCounted (q : Fin 4) (slot : Nat) (a : Active) (r : EngRead) (s : State) : State :=
  updActive q slot a.index (fun x => { x with row := x.row + 1 }) (updOuting q slot (fun o =>
    { o with poisoned := o.poisoned + b2n r.poison, mismatch := o.mismatch + b2n (blockBad s a r) })
    (dropFetches q slot (fun f => f.idx = a.index) s))

section
variable {q : Fin 4} {slot : Nat} {a : Active} {r : EngRead} {s : State}

theorem checkBlock_failed (failed : r.err ≠ 0) : checkBlock q slot a r s = stopDesc q slot a.index r.err s := by
  simp [checkBlock, failed]

variable (good : r.err = 0)
include good

theorem checkBlock_noWords (noWords : (curEntry s ((field a.bytes 8 8 + a.row * 65536) / 2 ^ 22)).blockSum = false) :
    checkBlock q slot a r s = stopDesc q slot a.index 4 s := by
  simp only [checkBlock, good, noWords, check, ne_eq, not_true_eq_false, Bool.false_eq_true, if_false, OfNat.ofNat_ne_zero,
    not_false_eq_true, if_true]

theorem checkBlock_compares (words : (curEntry s ((field a.bytes 8 8 + a.row * 65536) / 2 ^ 22)).blockSum = true) :
    checkBlock q slot a r s = if blockBad s a r && bit (field a.bytes 1 1) 0 then stopDesc q slot a.index 0xB (blockCounted q slot a r s)
      else if field a.bytes 16 4 ≤ a.row + 1 then endDesc q slot a.index (blockCounted q slot a r s) else blockCounted q slot a r s := by
  simp only [checkBlock, good, words, check, ne_eq, not_true_eq_false, if_true, if_false]
  rfl

end

/-! ### The obligation -/

/-- Settles O46: each row of a descriptor takes its step, and each step is told by what the descriptor has read. -/
theorem enginesAdvance : Obligations.EnginesAdvance := by
  unfold Obligations.EnginesAdvance
  refine ⟨fun q slot index s o a high listed runs heard => ⟨fun kind => ?hamper, fun bag b ready room => ?merge, fun kind => ?rambler,
    fun kind => ?transcode, fun kind => ?blocks⟩, fun q slot index s o a high listed heard => ⟨fun w walks runs begun => ?produced,
    fun w walks runs blocked going => ?consumed, fun blocked waits going over_ => ?timeout⟩⟩
  case hamper =>
    exact ⟨execHamperDescriptor_steps high listed runs heard kind, fun b rs there => hamperStep_partials there, hamperStep_nextBag,
      fun b x => ⟨bagControl_reads, fun r came_ => ⟨bagControl_failed came_, bagControl_falling came_⟩⟩⟩
  case merge =>
    exact ⟨execBagMerge_merges high listed runs heard ready room, fun y x left => mergeBag_writes left⟩
  case rambler =>
    refine ⟨execRamblerDescriptor_takesSlot high listed runs heard kind, fun w walks going =>
      ⟨execRamblerDescriptor_begins high listed runs heard kind walks going,
       execRamblerDescriptor_awaitsConsumed high listed runs heard kind walks going, fun begun idle =>
      ⟨execRamblerDescriptor_steps high listed runs heard kind walks going begun idle, fun atRing noneAhead => walkStep_atRing noneAhead atRing,
       fun ringDone noneAhead => walkStep_over noneAhead ringDone, fun ringDone noneAhead => walkStep_next noneAhead ringDone⟩⟩⟩
  case transcode =>
    exact ⟨execTranscodeCopyDescriptor_steps high listed runs heard kind, fun row r ready => transcodeStep_row ready,
      fun row r x => ⟨transcodeRow_fails, transcodeRow_converts⟩⟩
  case blocks =>
    exact ⟨execBlockCheckDescriptor_reads high listed runs heard kind, fun r came_ =>
      ⟨execBlockCheckDescriptor_checks high listed runs heard kind came_, checkBlock_failed, checkBlock_noWords, checkBlock_compares⟩⟩
  case produced =>
    exact ⟨execProducedWordUpdate_steps high listed runs heard walks begun, produceStep_chunk, produceStep_total, produceStep_waits⟩
  case consumed =>
    exact ⟨fun idle due => ⟨execConsumedWordPoll_reads high listed runs heard walks blocked going idle due, readConsumed_room⟩,
      fun polling => ⟨execConsumedWordPoll_takes high listed runs heard walks blocked going polling, fun r came_ good =>
        ⟨takeConsumed_outside polling came_ good, fun low => takeConsumed_within polling came_ good low.le⟩⟩⟩
  case timeout =>
    exact ⟨execDescriptorTimeout_ends high listed heard waits going over_, rfl⟩

end Sys2Proof.Machine
end

section
/-!
What NOR's writer does: records are programmed, a ledger short of free sectors is checkpointed, a sector that fails is marked bad (R349,
R350, R353); wear records and forecasts are handed over once an hour (R353, R356, R357).
-/
namespace Sys2Proof.Machine

/-! ### The directory, the journal and the ledger beside the rest of NOR -/

/-- The directory is NOR's halves and erase counts: what does not read them stays as it is. -/
theorem keepDirectory_same {β : Type} (g : Nor → β) (reads : ∀ (n : Nor) h e, g { n with halves := h, erased := e } = g n) (was n : Nor) :
    g (keepDirectory was n) = g n := by
  unfold keepDirectory writeDirectory
  split
  · rfl
  · exact reads n _ _

section
variable (was n : Nor)
@[simp] theorem keepDirectory_waiting : (keepDirectory was n).waiting = n.waiting := keepDirectory_same (·.waiting) (fun _ _ _ => rfl) was n
@[simp] theorem keepDirectory_ledger : (keepDirectory was n).ledger = n.ledger := keepDirectory_same (·.ledger) (fun _ _ _ => rfl) was n
@[simp] theorem keepDirectory_journal : (keepDirectory was n).journal = n.journal := keepDirectory_same (·.journal) (fun _ _ _ => rfl) was n
@[simp] theorem keepDirectory_cycles : (keepDirectory was n).cycles = n.cycles := keepDirectory_same (·.cycles) (fun _ _ _ => rfl) was n
end

/-- A record handed to the ledger waits: the ring that is written is as it was. -/
@[simp] theorem ledger_ring (kind : Nat) (body : Bytes) (s : State) : (ledger kind body s).nor.ledger = s.nor.ledger := by
  unfold ledger
  split <;> rfl

section
variable (d : Die) (c v : Nat) (b : Bytes) (s : State)

@[simp] theorem notify_foreHour : (notify d c v b s).nor.foreHour = s.nor.foreHour :=
  notify_same (·.nor.foreHour) (fun _ _ _ => rfl) (fun _ _ _ => congrArg Nor.foreHour (updPort_nor _ _ _))
    (fun k b t => by unfold journal; dsimp only; (repeat' split) <;> rfl) d c v b s

@[simp] theorem notify_forecasts : (notify d c v b s).nor.forecasts = s.nor.forecasts :=
  notify_same (·.nor.forecasts) (fun _ _ _ => rfl) (fun _ _ _ => congrArg Nor.forecasts (updPort_nor _ _ _))
    (fun k b t => by unfold journal; dsimp only; (repeat' split) <;> rfl) d c v b s

end

/-! ### LEDGER_WRITE -/

/-- A ledger record programmed: it joins the forecast window, and a record of powered time or cycles is what NOR keeps of them. -/
def recordProgrammed (kind : Nat) (body stamp : Bytes) (rest : List (Bool × Nat × Bytes × Bytes)) (s : State) : State :=
  rememberRecord (s.onNor fun n => { n with
    waiting := rest, ledger := n.ledger.append ledgerSize kind body stamp,
    powered := if kind = 0x09 then field stamp 4 4 else n.powered, cycles := field stamp 0 4 })

/-- A sector of a ring failed, and the directory says so. -/
def sectorFailed (led : Bool) (len : Nat) (s : State) : State :=
  s.onNor fun n => writeDirectory { n with
    ledger := if led then n.ledger.fail ledgerSize (poweredNow s) len else n.ledger,
    journal := if led then n.journal else n.journal.fail journalSize (poweredNow s) len }

section
variable {s : State} {kind : Nat} {body stamp : Bytes} {rest : List (Bool × Nat × Bytes × Bytes)}
  (high : s.released = true) (present : s.nor.present = true)
include high present

theorem execLedgerWrite_journal (waits : s.nor.waiting = (false, kind, body, stamp) :: rest) :
    execLedgerWrite true s = .next (keepFixed s true (s.onNor fun n =>
      keepDirectory s.nor { n with waiting := rest, journal := n.journal.append journalSize kind body stamp })) := by
  rw [execLedgerWrite, whenReleased_high high, present, waits]
  rfl

theorem execLedgerWrite_ledger (waits : s.nor.waiting = (true, kind, body, stamp) :: rest) :
    let s1 := recordProgrammed kind body stamp rest s
    execLedgerWrite true s =
      .next (keepFixed s true ((if checkpointDue s1 then checkpoint s1 else s1).onNor (keepDirectory s.nor))) := by
  rw [execLedgerWrite, whenReleased_high high, present, waits]
  simp only [Bool.true_and, decide_eq_true_eq, if_true]
  rfl

theorem execLedgerWrite_fails {led : Bool} (waits : s.nor.waiting = (led, kind, body, stamp) :: rest) :
    let s1 := sectorFailed led (recordBytes kind 0 body stamp).length s
    let good := goodSectors s1
    execLedgerWrite false s = .next (keepFixed s true
      (if good.1 < 896 || good.2 < 256 then notify .hub 0x5060 2 (leBytes 2 good.1 ++ leBytes 2 good.2) s1 else s1)) := by
  rw [execLedgerWrite, whenReleased_high high, present, waits]
  rfl

end

/-- A checkpoint is due once few sectors are free and no record of the ledger waits (R353). -/
theorem checkpointDue_recordProgrammed (kind : Nat) (body stamp : Bytes) (rest : List (Bool × Nat × Bytes × Bytes)) (s : State) :
    checkpointDue (recordProgrammed kind body stamp rest s) = true ↔
      (s.nor.ledger.append ledgerSize kind body stamp).freeCount ledgerSize < 512 ∧ ∀ w ∈ rest, w.1 = false := by
  rw [checkpointDue, Bool.and_eq_true, decide_eq_true_iff, List.all_eq_true]
  simp only [Bool.not_eq_true']
  rfl

/-! ### STACK_WEAR_RECORD -/

/-- The wear records of the enabled stacks handed over. -/
def wearRecorded (s : State) : State :=
  forEach ((List.range 32).filter s.variant.enables) (fun n s => ledger 0x0A (wearRecord s n) s) s

theorem wearRecorded_same {β : Type} (g : State → β) (kept : ∀ k b t, g (ledger k b t) = g t) (s : State) :
    g (wearRecorded s) = g s := forEach_same g (fun _ t => kept _ _ t) _ s

theorem execStackWearRecord_newHour {s : State} (high : s.released = true) (new : s.nor.wearHour < poweredNow s / 3600) :
    execStackWearRecord s = .next (keepFixed s true ((wearRecorded s).onNor fun m => { m with wearHour := poweredNow s / 3600 })) := by
  rw [execStackWearRecord, whenReleased_high high]
  simp only [Nat.not_le.mpr new, if_false]
  rfl

/-! ### FORECAST -/

/-- The entry of a forecast: resource, scope kind, scope value, hours. -/
def entryOfForecast (s : State) (x : Nat × Nat × Nat × Nat) : Bytes :=
  forecastEntry x.1 x.2.1 x.2.2.1 x.2.2.2 (forecastDate s x.2.2.2)

/-- What objects 0x5430 show: of each resource the forecast of fewest hours. -/
def nearestForecasts (s : State) : List Bytes :=
  (List.range 6).map fun i =>
    match bestOf (fun (a b : Nat × Nat × Nat × Nat) => decide (a.2.2.2 < b.2.2.2)) ((forecasts s).filter (·.1 == i + 1)) with
    | some x => entryOfForecast s x
    | none => forecastEntry (i + 1) 0 0 0xFFFFFFFF 0

/-- Notice 0x5050 of a forecast that falls short of object 0x5011, not said within the last 24 hours (R357). -/
def sayForecast (hour : Nat) (entry : Nat × Nat × Nat × Nat → Bytes) (x : Nat × Nat × Nat × Nat) (s : State) : State :=
  let key := (x.1, x.2.1 * 65536 + x.2.2.1)
  let said := s.nor.foreSaid.any fun e => e.1 == key && decide (hour < e.2 + 24)
  if said || decide (objGet s 0x5011 0 ≤ x.2.2.2) then s
  else notify .hub 0x5050 1 (entry x) (s.onNor fun n => { n with foreSaid := n.foreSaid.filter (·.1 != key) ++ [(key, hour)] })

/-- What neither the list of notices sent nor a notice changes, saying a forecast does not change. -/
theorem sayForecast_same {β : Type} (g : State → β) (list : ∀ (f : List ((Nat × Nat) × Nat)) t, g (t.onNor fun n => { n with foreSaid := f }) = g t)
    (note : ∀ d c v b t, g (notify d c v b t) = g t) (hour : Nat) (entry : Nat × Nat × Nat × Nat → Bytes) (x : Nat × Nat × Nat × Nat)
    (s : State) : g (sayForecast hour entry x s) = g s := by
  unfold sayForecast
  extract_lets key said
  split
  · rfl
  · exact (note _ _ _ _ _).trans (list _ s)

/-- The forecasts of an hour handed to the ledger and published, before any notice of them. -/
def forecastsPublished (s : State) : State :=
  (forEach (forecasts s) (fun x t => ledger 0x0B (entryOfForecast s x) t) s).onNor fun n =>
    { n with foreHour := poweredNow s / 3600, forecasts := nearestForecasts s }

theorem forecastsPublished_same {β : Type} (g : State → β) (nor : ∀ f t, g (State.onNor t f) = g t)
    (kept : ∀ k b t, g (ledger k b t) = g t) (s : State) : g (forecastsPublished s) = g s :=
  (nor _ _).trans (forEach_same g (fun _ t => kept _ _ t) _ s)

theorem execForecast_newHour {s : State} (high : s.released = true) (new : s.nor.foreHour < poweredNow s / 3600) :
    execForecast s = .next (keepFixed s true
      (forEach (forecasts s) (sayForecast (poweredNow s / 3600) (entryOfForecast s)) (forecastsPublished s))) := by
  rw [execForecast, whenReleased_high high]
  simp only [Nat.not_le.mpr new, if_false]
  rfl

/-! ### The obligation -/

/-- Settles O51: each row has one equation, and the directory, the ledger and a notice leave what is published as it is. -/
theorem recordsAreWritten : Obligations.RecordsAreWritten := by
  unfold Obligations.RecordsAreWritten
  refine fun s high => ⟨fun kind body stamp rest present waits => ?journal, fun kind body stamp rest present waits => ?ledger,
    fun led kind body stamp rest present waits => ⟨execLedgerWrite_fails high present waits, rfl⟩, fun new => ?wear, fun new => ?forecast⟩
  case journal =>
    exact ⟨_, execLedgerWrite_journal high present waits, by simp⟩
  case ledger =>
    have run := execLedgerWrite_ledger high present waits
    have due := checkpointDue_recordProgrammed kind body stamp rest s
    refine ⟨fun notDue => ⟨_, ?_, rfl, ?_⟩, fun few noneWaits => ?_⟩
    · have notDue : ¬checkpointDue (recordProgrammed kind body stamp rest s) = true := by
        rw [due]
        rintro ⟨few, noneWaits⟩
        rcases notDue with many | ⟨w, mem, waits⟩
        · omega
        · simp [noneWaits w mem] at waits
      dsimp only at run
      rwa [if_neg notDue] at run
    · simp [rememberRecord]
    · dsimp only at run
      rwa [if_pos (due.mpr ⟨few, noneWaits⟩)] at run
  case wear =>
    refine ⟨_, execStackWearRecord_newHour high new, rfl, rfl, ?_, ?_, ?_, ?_⟩
    · exact wearRecorded_same (·.nor.ledger) ledger_ring s
    · exact wearRecorded_same State.clk (fun k b t => ledger_clk t k b) s
    · exact wearRecorded_same State.reqs (fun k b t => ledger_reqs t k b) s
    · exact wearRecorded_same State.mem (fun k b t => ledger_mem t k b) s
  case forecast =>
    refine ⟨_, execForecast_newHour high new, ?_⟩
    have said := fun {β : Type} (g : State → β) list note => forEach_same g
      (sayForecast_same g list note (poweredNow s / 3600) (entryOfForecast s)) (forecasts s) (forecastsPublished s)
    have shown : _ = nearestForecasts s := said (·.nor.forecasts) (fun _ _ => rfl) notify_forecasts
    refine ⟨said (·.nor.foreHour) (fun _ _ => rfl) notify_foreHour, ?_, shown, ?_, ?_, ?_⟩
    · exact (congrArg List.length shown).trans (by simp [nearestForecasts])
    · exact (said State.clk (fun _ _ => rfl) (fun d c v b t => notify_clk t d c v b)).trans
        (forecastsPublished_same State.clk (fun _ _ => rfl) (fun k b t => ledger_clk t k b) s)
    · exact (said State.reqs (fun _ _ => rfl) (fun d c v b t => notify_reqs t d c v b)).trans
        (forecastsPublished_same State.reqs (fun _ _ => rfl) (fun k b t => ledger_reqs t k b) s)
    · exact (said State.mem (fun _ _ => rfl) (fun d c v b t => notify_mem t d c v b)).trans
        (forecastsPublished_same State.mem (fun _ _ => rfl) (fun k b t => ledger_mem t k b) s)

end Sys2Proof.Machine
end

section
/-!
Channels that change their home: channel sparing (R342 to R344), map-out (R345, R346), and a lane that is spared in a pause (R332 to R334).
-/
namespace Sys2Proof.Machine

/-! ### CHANNEL_SPARING (R343, Table 11.6) -/

theorem execChannelSparing_notAsked {n : Fin 32} {ch : Fin 64} {s : State} {c : Nat} (high : s.released = true)
    (serves : servingSlot s (64 * n.val + ch.val) = some c) (spares : goodSpares s n ≠ []) (unasked : copyCause s c = none) :
    execChannelSparing n ch s = .next (keepFixed s true s) := by
  obtain ⟨d, rest, spare⟩ := List.exists_cons_of_ne_nil spares
  rw [execChannelSparing, whenReleased_high high]
  simp only [serves, spare, unasked, ite_self]

section
variable {n : Fin 32} {ch : Fin 64} {s : State} {c : Nat} (high : s.released = true) (serves : servingSlot s (64 * n.val + ch.val) = some c)
  (due : (dueCause s c).isSome = true) (free : actionOn s c = false)
  (idle : (s.rehomes.any fun h => h.kind == 1 && h.gch / 64 == n.val) = false) (runs : quadStops s (quadOf (64 * n.val + ch.val)) = false)
  (normal : inSlate s (quadOf (64 * n.val + ch.val)) = false) (live : liveChannel s (64 * n.val + ch.val) = true)
include high serves due free idle runs normal live

theorem execChannelSparing_begins {d cause : Nat} {rest : List Nat} (spare : goodSpares s n = d :: rest)
    (asked : copyCause s c = some cause) :
    execChannelSparing n ch s = .next (keepFixed s true (beginCopy (64 * n.val + ch.val) c (slotNo n d) cause s)) := by
  rw [execChannelSparing, whenReleased_high high]
  simp only [serves, Option.isNone_eq_false_iff.mpr due, free, idle, runs, normal, live, spare, asked, Bool.or_self, Bool.not_true,
    Bool.false_eq_true, if_false]

theorem execChannelSparing_exhausted (noSpare : goodSpares s n = []) (mapOutOff : sparingOn s 4 = false)
    (unsaid : (chanAt s c).exhausted = false) :
    execChannelSparing n ch s = .next (keepFixed s true (notify .hub 0x5012 1
      (leBytes 2 (64 * n.val + ch.val) ++ leBytes 1 (c % 66)) (updChan c (fun x => { x with exhausted := true }) s))) := by
  rw [execChannelSparing, whenReleased_high high]
  simp only [serves, Option.isNone_eq_false_iff.mpr due, free, idle, runs, normal, live, noSpare, mapOutOff, unsaid, Bool.or_self,
    Bool.not_true, Bool.false_eq_true, if_false]

end

/-! ### CHANNEL_SPARING_COPY_UNIT and CHANNEL_SPARING_COMPLETE (R343, R344) -/

/-- The unit of a slot's copy, where it has one, out of the tree. -/
def copyUnitDropped (c : Nat) (s : State) : State :=
  match rowUnit s c .copy 0 with
  | some u => dropRowUnit u s
  | none => s

section
variable {n : Fin 32} {s : State} {h : Rehome} {d : Nat} (high : s.released = true) (copies : copyOf s n = some h) (dest : h.dest = some d)
  (serves : quadStops s (n / 8) = false)
include high copies dest serves

theorem execChannelSparingCopyUnit_restarts (running : (stackAt s n).running = true) (fails : destFails s d = true) :
    execChannelSparingCopyUnit n s = .next (keepFixed s true (restartCopy h d s)) := by
  rw [execChannelSparingCopyUnit, whenReleased_high high, copies, Option.bind_some, dest]
  simp [serves, running, fails]

section
variable (good : destFails s d = false)
include good

theorem execChannelSparingComplete_switches (done : touchedRows s h.gch h.cursor = []) :
    let s1 := switchSlot h.gch d 2 (dropRehome h.gch s)
    let s2 := moveUnits h.source h.gch (moveEntries h.source h.gch (fun e => touched s1 h.gch e.bank e.row) s1)
    execChannelSparingComplete n s = .next (keepFixed s true
      (notify .hub 0x5011 0 (leBytes 2 h.gch ++ leBytes 1 (d % 66) ++ leBytes 1 (goodSpares s2 n).length) s2)) := by
  rw [execChannelSparingComplete, whenReleased_high high, copies]
  simp [dest, serves, good, done]

variable (running : (stackAt s n).running = true)
include running

/-- Past the last touched row the unit of the copy leaves the tree, and the cursor goes to its end. -/
theorem execChannelSparingCopyUnit_done (done : touchedRows s h.gch h.cursor = []) :
    execChannelSparingCopyUnit n s = .next (keepFixed s true (updRehome h.gch (fun h => { h with cursor := 2 ^ 18 })
      (copyUnitDropped h.source s))) := by
  rw [execChannelSparingCopyUnit, whenReleased_high high, copies, Option.bind_some, dest]
  cases unit : rowUnit s h.source .copy 0 <;> simp [serves, running, good, done, unit, copyUnitDropped]

section
variable {b r : Nat} {rest : List (Nat × Nat)} (next_ : touchedRows s h.gch h.cursor = (b, r) :: rest)
include next_

theorem execChannelSparingCopyUnit_asks (none_ : rowUnit s h.source .copy 0 = none) :
    execChannelSparingCopyUnit n s = .next (keepFixed s true (askRow h.source h.gch .copy 0 b r s)) := by
  rw [execChannelSparingCopyUnit, whenReleased_high high, copies, Option.bind_some, dest]
  simp [serves, running, good, next_, none_]

variable {u : TUnit} {j : Job} (unit : rowUnit s h.source .copy 0 = some u) (job : u.job = some j)
include unit job

theorem execChannelSparingCopyUnit_copies (granted : 3 ≤ u.level)
    (room : (chanAt s d).writes.length + (rowQueue s h.source b r).length ≤ 256) (opensSource : mayOpen s h.source b r = true)
    (opensDest : mayOpen s d b r = true)
    (first : outranked s h.source (if j.since + 10000 ≤ quadTime s (n / 8) then 1 else 6) j.seq = false) :
    execChannelSparingCopyUnit n s = .next (keepFixed s true (copyRow h d b r (dropRowUnit u s))) := by
  rw [execChannelSparingCopyUnit, whenReleased_high high, copies, Option.bind_some, dest]
  simp [serves, running, good, next_, unit, job, Nat.not_lt.mpr granted, room, opensSource, opensDest, first]

theorem execChannelSparingCopyUnit_waits
    (blocked : u.level < 3 ∨ ¬(chanAt s d).writes.length + (rowQueue s h.source b r).length ≤ 256 ∨ mayOpen s h.source b r = false ∨
      mayOpen s d b r = false ∨ outranked s h.source (if j.since + 10000 ≤ quadTime s (n / 8) then 1 else 6) j.seq = true) :
    execChannelSparingCopyUnit n s = .next (keepFixed s true s) := by
  rw [execChannelSparingCopyUnit, whenReleased_high high, copies, Option.bind_some, dest]
  rcases blocked with early | full | closed | closed | behind
  · simp [serves, running, good, next_, unit, job, early]
  · simp [serves, running, good, next_, unit, job, full]
  · simp [serves, running, good, next_, unit, job, closed]
  · simp [serves, running, good, next_, unit, job, closed]
  · simp [serves, running, good, next_, unit, job, behind]

end
end
end

/-! ### MAP_OUT and MAP_OUT_COMPLETE (R345, R346) -/

theorem mapOutDue_iff (s : State) (c : Nat) :
    mapOutDue s c = true ↔ (dueCause s c).isSome = true ∧ goodSpares s (stackOf c) = [] ∧
      (sparingOn s 4 = true ∨ (chanAt s c).wanted = 3 ∨ (chanAt s c).wanted = 5) := by
  simp [mapOutDue, asksMapOut, and_assoc]

/-- A map-out begun: its records, a pass over the map, and the first of its copies. -/
def mapOutBegun (g c : Nat) (s : State) : State :=
  pumpMapOut g (beginMapPass ((installRecords g (some 0) s).1.onRehomes
    (· ++ [{ kind := 3, gch := g, source := c, dest := none, frames := (installRecords g (some 0) s).2 }])))

section
variable {n : Fin 32} {ch : Fin 64} {s : State} (high : s.released = true)
include high

theorem execMapOut_begins {c : Nat} (serves : servingSlot s (64 * n.val + ch.val) = some c) (due : mapOutDue s c = true)
    (free : actionOn s c = false) (runs : quadStops s (quadOf (64 * n.val + ch.val)) = false)
    (normal : inSlate s (quadOf (64 * n.val + ch.val)) = false) (live : liveChannel s (64 * n.val + ch.val) = true) :
    execMapOut n ch s = .next (keepFixed s true (mapOutBegun (64 * n.val + ch.val) c s)) := by
  rw [execMapOut, whenReleased_high high]
  simp only [serves, due, free, runs, normal, live, Bool.or_self, Bool.not_true, Bool.false_eq_true, if_false]
  rfl

variable {h : Rehome} (under : mapOutAt (pumpMapOut (64 * n.val + ch.val) s) (64 * n.val + ch.val) = some h)
include under

theorem execMapOutComplete_copies (left_ : (copyRun (pumpMapOut (64 * n.val + ch.val) s) (64 * n.val + ch.val)).isSome = true) :
    execMapOutComplete n ch s = .next (keepFixed s true (pumpMapOut (64 * n.val + ch.val) s)) := by
  rw [execMapOutComplete, whenReleased_high high]
  simp only [under, left_, if_true]

theorem execMapOutComplete_ends (copied : copyRun (pumpMapOut (64 * n.val + ch.val) s) (64 * n.val + ch.val) = none) :
    let g := 64 * n.val + ch.val
    let s0 := pumpMapOut g s
    let s1 := forEach (touchedRows s0 g 0) (fun r s => clearTouch g r.1 r.2 s)
      (moveUnits h.source g (moveEntries h.source g (fun _ => true) s0))
    let s2 := finishMapOut g h.frames s1
    execMapOutComplete n ch s = .next (keepFixed s true (reportLoss g (homeless s2 g) s2)) := by
  rw [execMapOutComplete, whenReleased_high high]
  simp only [under, copied, Option.isSome_none, Bool.false_eq_true, if_false]

end

/-- A channel whose table entry names no slot, and that no move serves any more. -/
def channelUnserved (g : Nat) (x : State) : State :=
  (updStack (g / 64) (fun t => { t with table := modNth t.table (g % 64) fun _ => 255 }) (dropRehome g x)).onMap fun m =>
    { m with mapped := m.mapped ++ [g], touchDue := m.touchDue.filter (· / 512 != g) }

/-- A channel is served through the moves and its stack's table alone. -/
theorem servingSlot_congr {s t : State} (moves : t.rehomes = s.rehomes) (table : t.stk = s.stk) (g : Nat) :
    servingSlot t g = servingSlot s g := by
  unfold servingSlot stackAt
  rw [moves, table]

theorem servingSlot_channelUnserved {g : Nat} {x : State} (stack : g / 64 < x.stk.length)
    (entry : g % 64 < (stackAt x (g / 64)).table.length) : servingSlot (channelUnserved g x) g = none := by
  have moved : (channelUnserved g x).rehomes.find? (fun h => h.kind == 2 && h.gch == g) = none := by
    refine List.find?_eq_none.mpr fun h kept => ?_
    have other : h.gch ≠ g := by simpa using (List.mem_filter.mp kept).2
    simp [other]
  have tabled : nth (stackAt (channelUnserved g x) (g / 64)).table (g % 64) 255 = 255 := by
    have changed : stackAt (channelUnserved g x) (g / 64) =
        { stackAt x (g / 64) with table := modNth (stackAt x (g / 64)).table (g % 64) fun _ => 255 } := stackAt_updStack_same stack _
    rw [changed]
    exact nth_modNth_same entry _ _
  rw [servingSlot, moved, tabled]
  rfl

/-! ### LANE_SPARING_PAUSE (R332 to R334, Table 11.3) -/

section
variable {n : Fin 32} {p : Fin 66} {errors eye : Nat} {s : State} {g pos cause spare : Nat} (high : s.released = true)
  (serves : channelOf s (slotNo n p) = some g) (target : pauseTarget s (slotNo n p) = some (pos, cause, spare))
  (may : mayPause s (slotNo n p) = true) (runs : quadStops s (quadOfSlot (slotNo n p)) = false)
  (awake : (chanAt s (slotNo n p)).inRest = false) (active : (chanAt s (slotNo n p)).selfRefresh = false)
include target may

/-- The due position of a slot that may pause is what its pause spares. -/
theorem pauseTarget_admitted : (pauseTarget s (slotNo n p)).filter (fun _ => mayPause s (slotNo n p)) = some (pos, cause, spare) := by
  rw [target, may]
  rfl

include high serves runs awake active

theorem execLaneSparingPause_pauses (holds : (stackAt (askToken n p s) n).token = some p.val)
    (quiet : quiescent (chanAt (askToken n p s) (slotNo n p)) = true) :
    execLaneSparingPause n p errors eye s =
      .next (keepFixed s true (passToken n p (lanePause (slotNo n p) g pos cause spare errors eye (askToken n p s)))) := by
  rw [execLaneSparingPause, whenReleased_high high]
  simp [serves, pauseTarget_admitted target may, runs, awake, active, holds, quiet]

theorem execLaneSparingPause_asks
    (waits : (stackAt (askToken n p s) n).token ≠ some p.val ∨ quiescent (chanAt (askToken n p s) (slotNo n p)) = false) :
    execLaneSparingPause n p errors eye s = .next (keepFixed s true (askToken n p s)) := by
  rw [execLaneSparingPause, whenReleased_high high]
  rcases waits with other | busy
  · simp [serves, pauseTarget_admitted target may, runs, awake, active, other]
  · simp [serves, pauseTarget_admitted target may, runs, awake, active, busy]

end

/-! ### The obligation -/

/-- Settles O49: each row by the case of its slot, its copy or its map-out; a row's copy and the end of a map-out are as defined. -/
theorem channelsAreSparedAndMappedOut : Obligations.ChannelsAreSparedAndMappedOut := by
  unfold Obligations.ChannelsAreSparedAndMappedOut
  refine ⟨fun n s high => ⟨fun ch c serves due free idle runs normal live => ?sparing, fun h d copies dest serves => ?copy,
    fun x h d b r => rfl⟩, fun n s high => ⟨fun ch c serves due free runs normal live => ?mapOut, mapOutDue_iff s,
    fun ch h under => ?mapOutEnd, fun x g frames => ⟨rfl, fun stack entry => ?unserved⟩,
    fun p errors eye g pos cause spare serves target may runs awake active => ?pause⟩⟩
  case sparing =>
    exact ⟨fun d rest cause => execChannelSparing_begins high serves due free idle runs normal live,
      execChannelSparing_notAsked high serves,
      execChannelSparing_exhausted high serves due free idle runs normal live⟩
  case copy =>
    exact ⟨execChannelSparingCopyUnit_restarts high copies dest serves, fun good =>
      ⟨execChannelSparingCopyUnit_done high copies dest serves good, fun b r rest running next_ =>
        ⟨execChannelSparingCopyUnit_asks high copies dest serves good running next_, fun u j unit job =>
          ⟨execChannelSparingCopyUnit_copies high copies dest serves good running next_ unit job,
           execChannelSparingCopyUnit_waits high copies dest serves good running next_ unit job⟩⟩,
       execChannelSparingComplete_switches high copies dest serves good⟩⟩
  case mapOut =>
    exact execMapOut_begins high serves due free runs normal live
  case mapOutEnd =>
    exact ⟨execMapOutComplete_copies high under, execMapOutComplete_ends high under⟩
  case unserved =>
    refine (servingSlot_congr ?_ ?_ g).trans (servingSlot_channelUnserved stack entry)
    · split <;> rfl
    · split <;> rfl
  case pause =>
    exact ⟨execLaneSparingPause_pauses high serves target may runs awake active,
      execLaneSparingPause_asks high serves target may runs awake active⟩

end Sys2Proof.Machine
end

section
/-!
Shutdown of the complex by command, and its resume (R382 to R386).
-/
namespace Sys2Proof.Machine

/-! ### Objects 0x6031 and 0x6032 -/

theorem objRow_shutdown : objRow 0x6031 0 = some ⟨0x6031, 0, 0, 1, 1, 2, 3, 0, 0, 255⟩ := by decide +kernel

theorem objRow_resume : objRow 0x6032 0 = some ⟨0x6032, 0, 0, 1, 1, 2, 3, 0, 0, 255⟩ := by decide +kernel

/-- A write of 1 or 2 to object 0x6031:00 is accepted (R382): 2 asks for an immediate shutdown. -/
theorem performWrite_shutdown (src : Src) (ends : Bool) {v : BitVec 8} (known : v = 1 ∨ v = 2) (x : State) :
    performWrite src ends 0x6031 0 ⟨0x6031, 0, 0, 1, 1, 2, 3, 0, 0, 255⟩ [v] x =
      doneWrite (triggerShutdown { cause := 3, force := v == 2 } x) := by
  rcases known with rfl | rfl <;> simp [performWrite, variableSize, isBlobCommand, writeCommand, onlyIf, leNat]

/-- A write of 1 to object 0x6032:00 is accepted where the complex may resume (R386). -/
theorem performWrite_resume (src : Src) (ends : Bool) {x : State} (allowed : resumeAllowed x = true) :
    performWrite src ends 0x6032 0 ⟨0x6032, 0, 0, 1, 1, 2, 3, 0, 0, 255⟩ [1] x = doneWrite (beginResume x) := by
  simp [performWrite, variableSize, isBlobCommand, writeCommand, onlyIf, leNat, allowed]

theorem shutdown_wrote {src : Src} {v : BitVec 8} {s : State} (known : v = 1 ∨ v = 2) (high : s.released = true)
    (may : mayWrite s src 0x6031 0 [v] = true) :
    whenReleased s (byteWrite src 0x6031 0 v) = .next (wrote src 0x6031 0 [v] (triggerShutdown { cause := 3, force := v == 2 }) s) :=
  whenReleased_wrote true high may objRow_shutdown (performWrite_shutdown src true known)

theorem execResume_wrote {src : Src} {s : State} (high : s.released = true) (may : mayWrite s src 0x6032 0 [1] = true)
    (allowed : resumeAllowed (beforeWrite src 0x6032 0 [1] s) = true) :
    execResume src 1 s = .next (wrote src 0x6032 0 [1] beginResume s) := by
  rw [execResume, whenReleased_high high, byteWrite, objectWrite_performs true may objRow_resume, performWrite_resume src true allowed]
  rfl

/-! ### Shutdown (R382 to R384) -/

@[simp] theorem recordShutdown_power (body : Bytes) (s : State) : (recordShutdown body s).power = s.power := by
  unfold recordShutdown; split <;> rfl
@[simp] theorem recordShutdown_reqs (body : Bytes) (s : State) : (recordShutdown body s).reqs = s.reqs := by
  unfold recordShutdown; split <;> rfl

/-- What a shutdown begins with: its duration is drawn, and every test stops. -/
def testsStopped (s : State) : State := stopTests (fun _ => true) 2 (drawUpTo 2000000 s).2

/-- Where a shutdown stands, and the requests that still wait. -/
def shutdownAndReqs (s : State) : Nat × List Req := (s.power.shutdown, s.reqs)

theorem shutdownAndReqs_orderly (s : State) : shutdownAndReqs (orderly s).1 = (3, []) := rfl
theorem shutdownAndReqs_immediate (s : State) : shutdownAndReqs (immediate s).1 = (4, []) := rfl

section
variable {t : Trigger} {s : State} (running : s.power.shutdown = 0)
include running

/-- A forced shutdown, and any while object 0x6030:00 is 1, is immediate; its record and its notice leave it so. -/
theorem triggerShutdown_immediate (atOnce : t.force = true ∨ objGet s 0x6030 0 = 1) :
    shutdownAndReqs (triggerShutdown t s) = (4, []) := by
  have mode : (t.force || decide (objGet s 0x6030 0 = 1) || (t.soon && (decide (t.cause = 1) || decide (t.cause = 5)))) = true := by
    rcases atOnce with force | asked
    · simp [force]
    · simp [asked]
  rw [← shutdownAndReqs_immediate (testsStopped s)]
  simp [triggerShutdown, running, mode, shutdownAndReqs, testsStopped]

/-- A shutdown that nothing hurries is orderly; its record, its ledger entry and its notice leave it so. -/
theorem triggerShutdown_orderly (free : t.force = false) (later : t.soon = false) (asked : objGet s 0x6030 0 ≠ 1) :
    shutdownAndReqs (triggerShutdown t s) = (3, []) := by
  rw [← shutdownAndReqs_orderly (testsStopped s)]
  simp [triggerShutdown, running, free, later, asked, shutdownAndReqs, testsStopped]

end

/-! ### Resume (R386) -/

theorem resumeAllowed_iff (s : State) : resumeAllowed s = true ↔
    s.power.shutdown = 3 ∧ allCool s = true ∧ ∃ t, s.power.coolSince = some t ∧ t + 1000000000 ≤ s.clk.hub := by
  cases since : s.power.coolSince <;> simp [resumeAllowed, since, and_assoc]

/-- Every slot of the quadrants out of self-refresh and trained, and the resume over. -/
def slotsResumed (s : State) : State :=
  (forEach (List.range 4) (fun q s => forEach (quadSlots s q) (fun c s => trainDone c (leaveSelfRefresh c s)) s) s).onPower
    fun w => { w with shutdown := 0 }

theorem execResumed_resuming {s : State} (high : s.released = true) (resuming : s.power.shutdown = 5) :
    execResumed s = .next (keepFixed s true (notify .hub 0x6031 0
      (leBytes 4 (((slotsResumed s).clk.hub - (slotsResumed s).power.resumeAt) / 1000000)) (slotsResumed s))) := by
  rw [execResumed, whenReleased_high high, if_neg (not_not_intro resuming)]
  rfl

/-! ### The obligation -/

/-- Settles O44: the writes are accepted and do what their objects ask, a shutdown is judged by its mode, and a resume ends at
RESUMED. -/
theorem shutdownAndResume : Obligations.ShutdownAndResume := by
  unfold Obligations.ShutdownAndResume
  refine fun src s high => ⟨shutdown_wrote (.inl rfl) high, shutdown_wrote (.inr rfl) high, fun x running => ?shutdown,
    execResume_wrote high, fun x allowed => ?allowed, fun resuming => ?resumed⟩
  case shutdown =>
    obtain ⟨state, reqs⟩ := Prod.ext_iff.mp (triggerShutdown_immediate running (t := { cause := 3, force := true }) (.inl rfl))
    refine ⟨state, reqs, fun asked => ?_, fun asked => ?_⟩
    · exact congrArg Prod.fst (triggerShutdown_immediate running (.inr asked))
    · exact Prod.ext_iff.mp (triggerShutdown_orderly running (t := { cause := 3 }) rfl rfl asked)
  case allowed =>
    obtain ⟨down, -, cool⟩ := (resumeAllowed_iff x).mp allowed
    exact ⟨down, cool, rfl, rfl⟩
  case resumed =>
    exact ⟨_, execResumed_resuming high resuming, congrArg (·.shutdown) (notify_power ..), rfl⟩

end Sys2Proof.Machine
end

section
/-!
Readouts, sensors, meters and the governor (R143, R360 to R382, R450).
-/
namespace Sys2Proof.Machine

/-! ### TEMPERATURE_READOUT (R143, R370, R450) -/

section
variable {n : Fin 32} {first repeated : TempFrame} {s : State}

/-- In a new millisecond the readout of an enabled, qualified stack is taken, the repeat where the first is not good. -/
theorem takeReadout_due (new : (stackAt s n).readMs < quadTime s (n.val / 8) / 1000000) (enabled : s.variant.enables n.val = true)
    (qualified : (stackAt s n).qualified = true) :
    (takeReadout n first repeated s).2 = ((frameTemp first).or (frameTemp repeated), true) := by
  simp only [takeReadout, Nat.not_le.mpr new, enabled, qualified, decide_false, Bool.not_true, Bool.or_self, Bool.false_eq_true, if_false]
  cases (frameTemp first).or (frameTemp repeated) <;> rfl

variable (high : s.released = true)
include high

theorem execTemperatureReadout_cutOff (cut : (quadAt (takeReadout n first repeated s).1 (n.val / 8)).offCause = 2) :
    execTemperatureReadout n first repeated s = .next (keepFixed s true (takeReadout n first repeated s).1) := by
  simp [execTemperatureReadout, whenReleased_high high, cut]

variable (taken : (takeReadout n first repeated s).2.2 = true)
  (reached : (quadAt (takeReadout n first repeated s).1 (n.val / 8)).offCause ≠ 2)
include taken reached

theorem execTemperatureReadout_bad (none_ : (takeReadout n first repeated s).2.1 = none) :
    execTemperatureReadout n first repeated s = .next (keepFixed s true (noteCool (takeReadout n first repeated s).1)) := by
  simp [execTemperatureReadout, whenReleased_high high, taken, reached, none_]

theorem execTemperatureReadout_good {x : Int} (good : (takeReadout n first repeated s).2.1 = some x) :
    execTemperatureReadout n first repeated s =
      .next (keepFixed s true (noteCool (calibrate n x (takeReadout n first repeated s).1))) := by
  simp [execTemperatureReadout, whenReleased_high high, taken, reached, good]

end

/-! ### Levels, allowances, junctions and supplies (R366, R375, R380, R382) -/

section
variable {s : State} (high : s.released = true)
include high

theorem execDivisionLowerHoldExpiry_governed {n : Fin 32} (reached : (governed s).contains n.val = true) :
    execDivisionLowerHoldExpiry n s = .next (keepFixed s true (publishing (applyLevel n) s)) := by
  rw [execDivisionLowerHoldExpiry, whenReleased_high high, if_pos reached]

/-- The end of an allowance: the deferred level applies, is said in 0x6010, and a limit that came early is counted. -/
def allowanceEnded (n : Fin 32) (cause : Nat) (s : State) : State :=
  let s0 := publishing (fun s => applyLevel n (updHeat n (fun h => { h with flask := none }) s)) s
  saidThrottle n (if cause = 3 then s0.onPower fun w => { w with flaskTotals := w.flaskTotals.modify 2 (· + 1) } else s0)

theorem execFlaskAllowanceEnded_ends {n : Fin 32} {at_ cause : Nat} (runs : (heatAt s n).flask = some at_)
    (event : flaskEvent s n at_ = some cause) :
    execFlaskAllowanceEnded n s = .next (keepFixed s true (notify .hub 0x6022 0
      (leBytes 1 n ++ leBytes 1 cause ++ leBytes 4 (Nat.min (2 ^ 32 - 1) ((allowanceEnded n cause s).clk.hub - at_)))
      (allowanceEnded n cause s))) := by
  rw [execFlaskAllowanceEnded, whenReleased_high high]
  simp only [runs, event]
  rfl

/-- The junction sensors' next reading is due 100 µs later. -/
def junctionsRead (s : State) : State := s.onPower fun w => { w with junctionAt := s.power.junctionAt + 100000 }

theorem execJunctionRead_due (due : s.power.junctionAt + 100000 ≤ s.clk.hub) (temps : List Int) :
    execJunctionRead temps s = .next (keepFixed s true
      (forEach (((temps.take 5).zipIdx).filter fun x => x.2 = 0 || !cutOff (junctionsRead s) (x.2 - 1))
        (fun x s => judgeJunction x.2 x.1 s) (junctionsRead s))) := by
  rw [execJunctionRead, whenReleased_high high]
  simp only [Nat.not_lt.mpr due, if_false]
  rfl

theorem execSupplyFault_long {ns : Nat} (long : 1000 ≤ ns) (die : Die) :
    execSupplyFault die ns s =
      .next (keepFixed s true (triggerShutdown { cause := 4, source := dieCode die, force := true } s)) := by
  rw [execSupplyFault, whenReleased_high high, if_neg (Nat.not_lt.mpr long)]

end

theorem execSupplyFault_short {ns : Nat} (short : ns < 1000) (die : Die) (s : State) : execSupplyFault die ns s = .next s :=
  whenReleased_same (if_pos short)

/-! ### METER_REPORT (R360 to R362) -/

/-- The power of a die's supplies: the hub's one, a MED's three. -/
def suppliesPower (die : Die) (core phy pll : Supply) : Rat :=
  supplyPower core + (if die = .hub then 0 else supplyPower phy + supplyPower pll)

/-- A die's report of a period: its time, its power and currents, the power of its PHY, the energy of 100 µs. -/
def dieReported (die : Die) (core phy pll : Supply) (s : State) : State :=
  s.onPower fun w => { w with
    dieAt := modNth w.dieAt (dieNo die) fun _ => nth s.power.dieAt (dieNo die) 0 + 100000,
    die := modNth w.die (dieNo die) (keepTen (suppliesPower die core phy pll)),
    currents := modNth w.currents (dieNo die) fun _ => [core.milliamps, phy.milliamps, pll.milliamps],
    phyReady := if (nth w.phy (dieNo die) []).isEmpty || !isReady s then modNth w.phyReady (dieNo die) fun _ => supplyPower phy else w.phyReady,
    phy := modNth w.phy (dieNo die) (keepTen (supplyPower phy)),
    energy := w.energy + suppliesPower die core phy pll / 10 }

section
variable {s : State} (high : s.released = true) (core phy pll : Supply)
include high

theorem execMeterReport_hub (due : nth s.power.dieAt (dieNo .hub) 0 + 100000 ≤ dieTime s .hub) :
    execMeterReport .hub core (phy, pll) s = .next (keepFixed s true (dieReported .hub core phy pll s)) := by
  rw [execMeterReport, whenReleased_high high]
  simp only [Nat.not_lt.mpr due, decide_false, Bool.or_self, Bool.false_eq_true, if_false]
  rfl

theorem execMeterReport_med {q : Fin 4} (due : nth s.power.dieAt (dieNo (.med q)) 0 + 100000 ≤ dieTime s (.med q))
    (reached : cutOff s q = false) :
    execMeterReport (.med q) core (phy, pll) s = .next (keepFixed s true
      (forEach (((List.range 8).map (8 * q.val + ·)).filter s.variant.enables) reportStack (dieReported (.med q) core phy pll s))) := by
  rw [execMeterReport, whenReleased_high high]
  simp only [Nat.not_lt.mpr due, reached, decide_false, Bool.or_self, Bool.false_eq_true, if_false]
  rfl

end

/-- The hub monitors vdd_core alone (R361). -/
@[simp] theorem suppliesPower_hub (core phy pll : Supply) : suppliesPower .hub core phy pll = supplyPower core := by simp [suppliesPower]

/-! ### GOVERNOR_STEP (R363, R367, R369) -/

theorem execGovernorStep_due {s : State} (high : s.released = true) (due : s.power.stepAt + 100000 ≤ s.clk.hub) (ready : isReady s = true) :
    execGovernorStep s =
      .next (keepFixed s true (forEach (modelled (governorUpdate s)) judgeShutdown (governorUpdate s))) := by
  rw [execGovernorStep, whenReleased_high high]
  simp [Nat.not_lt.mpr due, ready]

/-! ### The obligation -/

/-- Settles O43, row by row: each due reading, report and step is one equation; a readout by its quadrant's reach and its result, a
report by its die. -/
theorem temperaturesMetersAndGovernor : Obligations.TemperaturesMetersAndGovernor := by
  unfold Obligations.TemperaturesMetersAndGovernor
  refine ⟨fun n s high => ⟨fun first repeated new enabled qualified => ?readout, execDivisionLowerHoldExpiry_governed high,
    fun at_ cause => execFlaskAllowanceEnded_ends high, execJunctionRead_due high,
    fun die ns => ⟨fun long => execSupplyFault_long high long die, fun short => execSupplyFault_short short die s⟩,
    fun x die running => congrArg Prod.fst (triggerShutdown_immediate running (.inl rfl))⟩,
    fun s high => ⟨fun die core phy pll due reached => ⟨?hub, ?med⟩, fun core phy pll due dies kept => ?energy,
    execGovernorStep_due high⟩⟩
  case readout =>
    have result := takeReadout_due (first := first) (repeated := repeated) new enabled qualified
    have taken : (takeReadout n first repeated s).2.2 = true := congrArg Prod.snd result
    exact ⟨congrArg Prod.fst result, taken, execTemperatureReadout_cutOff high, execTemperatureReadout_bad high taken,
      fun x reached good => execTemperatureReadout_good high taken reached good⟩
  case hub =>
    rintro rfl
    exact execMeterReport_hub high core phy pll due
  case med =>
    rintro q rfl
    exact execMeterReport_med high core phy pll due (reached q rfl)
  case energy =>
    have power := suppliesPower_hub core phy pll
    refine ⟨_, execMeterReport_hub high core phy pll due, nth_modNth_same (by simp [dies, dieNo]) _ _, ?_, ?_, rfl, rfl, rfl, rfl⟩
    · exact congrArg (s.power.energy + · / 10) power
    · exact (nth_modNth_same (by simp [kept, dieNo]) _ _).trans (congrArg (keepTen · _) power)

end Sys2Proof.Machine
end

section
/-!
A step, and what every command keeps: the queue and the variant (INDEX.md, commands of the block).
-/
namespace Sys2Proof.Machine

/-- START_UP goes on to a state with the queue and the variant as they were. -/
theorem execStartUp_keeps (env : StartEnv) (s : State) :
    ∃ t, execStartUp env s = .next t ∧ t.pending = s.pending ∧ t.variant = s.variant := by
  unfold execStartUp
  split
  · exact ⟨s, rfl, rfl, rfl⟩
  · exact ⟨_, rfl, rfl, rfl⟩

/-- A command that a low pin stops goes on to a state with the queue and the variant as they were. -/
theorem whenReleased_keeps (s : State) (f : State → State) :
    ∃ t, whenReleased s f = .next t ∧ t.pending = s.pending ∧ t.variant = s.variant := by
  cases pin : s.released with
  | true => exact ⟨_, whenReleased_high pin f, keepFixed_pending .., keepFixed_variant ..⟩
  | false => exact ⟨s, whenReleased_low pin f, rfl, rfl⟩

/-- Settles O1: the front of the queue is what the step matches on. -/
theorem stepRunsTheFrontCommand : Obligations.StepRunsTheFrontCommand := by
  unfold Obligations.StepRunsTheFrontCommand
  intro i rest s
  rfl

/-- Settles O3, by the three kinds of command: the two of the pin, and those that a low pin stops. -/
theorem everyCommandAnswersAndKeepsTheQueue : Obligations.EveryCommandAnswersAndKeepsTheQueue := by
  unfold Obligations.EveryCommandAnswersAndKeepsTheQueue
  intro i s
  by_cases isAssert : i = .qzRstNAssert
  · subst isAssert
    exact ⟨cold s, rfl, rfl, rfl⟩
  · by_cases isStart : ∃ env, i = .startUp env
    · obtain ⟨env, rfl⟩ := isStart
      exact execStartUp_keeps env s
    · obtain ⟨f, shape⟩ := exec_shape i s isAssert fun env start => isStart ⟨env, start⟩
      rw [shape]
      exact whenReleased_keeps s f

end Sys2Proof.Machine
end

section
/-!
Stored bytes: a slot's bytes read back, and no other byte changes.
-/
namespace Sys2Proof.Machine

theorem byteAt_putBytes_outside {a x : Nat} {bs : Bytes} {m : List Host.Cell} (h : memWf m = true) (outside : x < a ∨ a + bs.length ≤ x) :
    byteAt (putBytes a bs m) x = byteAt m x := by
  induction bs generalizing a m with
  | nil => rfl
  | cons b r ih =>
    simp only [List.length_cons] at outside
    rw [putBytes, ih (putByte_memWf a b h) (by omega), byteAt_putByte_other b (by omega) h]

theorem byteAt_putBytes_inside {a k : Nat} {bs : Bytes} {m : List Host.Cell} (h : memWf m = true) (inside : k < bs.length) :
    byteAt (putBytes a bs m) (a + k) = bs.getD k 0 := by
  induction bs generalizing a k m with
  | nil => simp at inside
  | cons b r ih =>
    rw [putBytes]
    cases k with
    | zero =>
      rw [byteAt_putBytes_outside (putByte_memWf a b h) (by omega)]
      exact byteAt_putByte_same a b h
    | succ k =>
      rw [show a + (k + 1) = a + 1 + k by omega, ih (putByte_memWf a b h) (by simpa using inside)]
      rfl

/-- Settles O35, by induction on the bytes of the slot. -/
theorem storedSlotsReadBack : Obligations.StoredSlotsReadBack := by
  unfold Obligations.StoredSlotsReadBack
  intro c bank row slot v s h
  exact ⟨putSlot_memWf c bank row slot v h, fun a => byteAt_putBytes_outside h, fun k => byteAt_putBytes_inside h⟩

end Sys2Proof.Machine
end

section
/-!
Rows that write one object (R11, R400, R424): each is its write, and what a write answers by its size, its value and its access.
-/
namespace Sys2Proof.Machine

/-- A row that writes one object is that write, by either way. -/
theorem exec_objectRow {i : Instr} {o : ObjectRow} (row : objectRow i = some o) (s : State) :
    exec i s = whenReleased s (objectWrite o.src o.ends o.index o.sub o.value) := by
  unfold objectRow at row
  split at row <;> cases row <;> rfl

theorem objGet_objSet (index sub v : Nat) (x : State) : objGet (objSet index sub v x) index sub = v := by
  simp [objGet, objSet]

section
variable {src : Src} {ends : Bool} {index sub : Nat} {r : ObjRow} {bs : Bytes} {x : State}

theorem performWrite_wrongSize (fixed : (variableSize index).isNone = true) (wrong : bs.length ≠ r.size) :
    performWrite src ends index sub r bs x = (x, 0x0A) := by
  simp only [performWrite, fixed, wrong, ne_eq, not_false_eq_true, decide_true, Bool.and_self, if_true]
  rfl

variable (plain : isBlobCommand index = false) (noUnlock : index ≠ 0x1123) (noDrop : index ≠ 0x1124) (command : r.access ≠ 2)
  (whole : (variableSize index).isNone = true → bs.length = r.size)
include plain noUnlock noDrop command whole

/-- A write of a value of the right size, of an object that is no command, is judged by its value. -/
theorem performWrite_value : performWrite src ends index sub r bs x =
    if !valueOk x.variant index sub (leNat bs) || !relationOk x index sub (leNat bs) then rejectWrite x
    else if index = 0x1210 then doneWrite (writeDate (leNat bs) x)
    else if isWindow index then doneWrite (updWin (windowOf src) (setWindow index (leNat bs)) x)
    else if index = 0x7050 then
      (if (writeValue index sub (leNat bs) r x).2 = 0 && leNat bs = 0 then releaseStart (writeValue index sub (leNat bs) r x).1
       else (writeValue index sub (leNat bs) r x).1, (writeValue index sub (leNat bs) r x).2)
    else writeValue index sub (leNat bs) r x := by
  have sized : ((variableSize index).isNone && decide (bs.length ≠ r.size)) = false := by
    cases fixed : (variableSize index).isNone with
    | false => rfl
    | true => simp [whole fixed]
  simp only [performWrite, sized, plain, noUnlock, noDrop, command, decide_false, Bool.or_self, Bool.false_eq_true, if_false]

theorem performWrite_outOfRange (bad : valueOk x.variant index sub (leNat bs) = false ∨ relationOk x index sub (leNat bs) = false) :
    performWrite src ends index sub r bs x = (x, 0x0A) := by
  rw [performWrite_value plain noUnlock noDrop command whole, if_pos (by rcases bad with h | h <;> simp [h])]
  rfl

theorem performWrite_scalar (ok : valueOk x.variant index sub (leNat bs) = true) (related : relationOk x index sub (leNat bs) = true)
    (shared : isWindow index = false) (noDate : index ≠ 0x1210) (noHold : index ≠ 0x7050) :
    performWrite src ends index sub r bs x = writeValue index sub (leNat bs) r x := by
  rw [performWrite_value plain noUnlock noDrop command whole]
  simp [ok, related, shared, noDate, noHold]

end

/-- Settles O34: a row is the write of its object, and that write is judged by its size, its value and its object's access. -/
theorem objectRowsRunTheirWrite : Obligations.ObjectRowsRunTheirWrite := by
  unfold Obligations.ObjectRowsRunTheirWrite
  intro i o r s row high may dict w
  refine ⟨?_, fun x => ⟨performWrite_wrongSize, fun plain noUnlock noDrop command whole => ⟨?_, fun ok related shared noDate noHold =>
    ⟨objGet_objSet .., ?_⟩⟩⟩⟩
  · rw [exec_objectRow row, whenReleased_high high, objectWrite_performs o.ends may dict]
  · exact performWrite_outOfRange plain noUnlock noDrop command whole
  · rw [performWrite_scalar plain noUnlock noDrop command whole ok related shared noDate noHold]
    exact ⟨fun volatile => if_neg volatile, fun stored => if_pos stored⟩

end Sys2Proof.Machine
end

section
/-!
In-band roles (R410 to R412): a port's challenge, its unlock, and the drop of its role.
-/
namespace Sys2Proof.Machine

/-! ### The challenge -/

/-- The challenge that a state issues next. -/
def nextChallenge (s : State) : Bytes := leBytes 32 (Config.challenge s.draw).toNat

theorem objRow_challenge : objRow 0x1122 0 = some ⟨0x1122, 0, 0, 8, 32, 0, 1, 0, 0, 0⟩ := by decide +kernel

/-- Every role may read object 0x1122:00, and a read of 32 bytes issues its port a challenge. -/
theorem inBandRead_challenge {p : Nat} {r : Request} {s : State} (index : dictIndex r = 0x1122) (sub : dictSub r = 0)
    (room : 32 ≤ (lenOf r.lenCode.toNat).getD 0) (role : 1 ≤ (portAt s p).role) :
    inBandRead p r s = ((issueChallenge p s).2, 0, nextChallenge s) := by
  have observer : ¬ (portAt s p).role < 1 := Nat.not_lt.mpr role
  simp [inBandRead, index, sub, objRow_challenge, readStop, observer, Nat.not_lt.mpr room, issueChallenge, nextChallenge]

theorem portAt_issueChallenge {s : State} (five : s.ports.length = 5) (p : Nat) :
    portAt (issueChallenge p s).2 p = { portAt s p with challenge := some (nextChallenge s, s.clk.hub) } :=
  portAt_updPort_self (s := s.drawn) five p _

/-- What a request of the management channel asks passes the checks before its object. -/
theorem mgmt_of_inBandStop {s : State} {p opcode : Nat} {r : Request} (passes : inBandStop s p opcode r = 0) : r.mgmt = true := by
  cases mgmt : r.mgmt with
  | true => rfl
  | false => simp [inBandStop, mgmt] at passes

/-- A port whose tag was taken and that was then given a challenge. -/
def challenged (p : Nat) (r : Request) (s : State) : State := (issueChallenge p (takeTag p r s)).2

section
variable {p : Fin 4} {r : Request} {s : State} (five : s.ports.length = 5)

include five in
theorem portAt_challenged : portAt (challenged p r s) p =
    { portAt s p with tags := (portAt s p).tags ++ [r.tag.toNat], challenge := some (nextChallenge s, s.clk.hub) } := by
  rw [challenged, portAt_issueChallenge (by simpa [takeTag] using five), portAt_takeTag five]
  simp [nextChallenge, takeTag]

/-- The state that answers a challenge: its value is the response to the read. -/
def challengeAnswered (p : Fin 4) (r : Request) (s : State) : State :=
  updPort p (fun d => { d with resps := d.resps ++ [readResponse r 0 (nextChallenge s) s.fabric.commandMark] })
    (readJudged p r 0 (challenged p r s))

include five in
theorem portAt_challengeAnswered : portAt (challengeAnswered p r s) p = { portAt s p with
    tags := (portAt s p).tags ++ [r.tag.toNat], challenge := some (nextChallenge s, s.clk.hub),
    resps := (portAt s p).resps ++ [readResponse r 0 (nextChallenge s) s.fabric.commandMark] } := by
  rw [challengeAnswered, portAt_updPort_self (by simpa [readJudged, challenged, issueChallenge, takeTag] using five)]
  exact congrArg (fun d : Port => { d with resps := d.resps ++ [readResponse r 0 (nextChallenge s) s.fabric.commandMark] })
    (portAt_challenged five)

variable (takes : takesRequests s p = true) (empty : (portAt s p).inbox = []) (first : ¬ DictWaits s p)
  (free : (portAt s p).tags.contains r.tag.toNat = false) (inRange : tagInRange p r = true) (passes : inBandStop s p 0x18 r = 0)
  (index : dictIndex r = 0x1122) (sub : dictSub r = 0) (room : 32 ≤ (lenOf r.lenCode.toNat).getD 0) (role : 1 ≤ (portAt s p).role)
include five takes empty first free inRange passes index sub room role

/-- A challenge that no flit asked for is issued and answered in its turn (R122, R412). -/
theorem inBand_challenge (src : Src) (ends : Bool) : inBand src ends p 0x18 r s = challengeAnswered p r s := by
  have mgmt := mgmt_of_inBandStop passes
  have accepts : portAccepts p 0x18 = true := by fin_cases p <;> rfl
  have turn : ¬ DictWaits (takeTag p r s) p := by rwa [DictWaits, dictBusy_takeTag, takeTag_dict]
  have passes' : inBandStop (takeTag p r s) p 0x18 r = 0 := by rwa [inBandStop_takeTag]
  have up : (portAt (challenged p r s) p).up = true := by
    rw [portAt_challenged five]
    simp only [takesRequests, Bool.and_eq_true] at takes
    exact takes.1.1
  have heard : (portAt (challenged p r s) p).mute = false := by
    rw [portAt_challenged five]
    exact takesRequests_heard takes
  have mark : (challenged p r s).fabric.commandMark = s.fabric.commandMark := by simp [challenged, issueChallenge, takeTag]
  have draw : nextChallenge (takeTag p r s) = nextChallenge s := by simp [nextChallenge, takeTag]
  have answer : inBandAnswer p 0x18 r 0 (nextChallenge s) (challenged p r s) = challengeAnswered p r s := by
    rw [inBandAnswer_read (by omega) up heard mgmt, mark]
    rfl
  rw [inBand_runs takes inRange (by rwa [headerTaken_mgmt empty mgmt]) accepts, headerTaken_mgmt empty mgmt, turnInBand_first turn,
    runInBand_read passes', headerOver, failMember_mgmt mgmt, inBandRead_challenge index sub room (by rwa [takeTag_role]), draw]
  change answerUnlisted (portAt (inBandAnswer p 0x18 r 0 (nextChallenge s) (challenged p r s)) p).inbox.length p
    (inBandAnswer p 0x18 r 0 (nextChallenge s) (challenged p r s)) = _
  rw [answer]
  refine answerUnlisted_empty ?_
  rw [portAt_challengeAnswered five]
  exact empty

end

/-! ### A row that is a Dictionary write of one object -/

theorem inBandOn_carrier {p : Fin 4} {tag : BitVec 16} {domain : BitVec 6} {index : Nat} (small : index < 65536) (sub : Nat) (value : Bytes)
    (s : State) : inBandOn index 0x19 p (carrier tag domain index sub value) s = objectWrite (.cp p tag domain) true index sub value s :=
  if_pos (dictIndex_carrier tag domain small sub value)

theorem objRow_unlock : objRow 0x1123 0 = some ⟨0x1123, 0, 0, 8, 33, 2, 1, 0, 0, 0⟩ := by decide +kernel
theorem objRow_roleDrop : objRow 0x1124 0 = some ⟨0x1124, 0, 0, 1, 1, 2, 1, 0, 0, 255⟩ := by decide +kernel

theorem performWrite_unlock (p : Fin 4) (tag : BitVec 16) (domain : BitVec 6) (ends : Bool) {value : Bytes} (whole : value.length = 33)
    (x : State) : performWrite (.cp p tag domain) ends 0x1123 0 ⟨0x1123, 0, 0, 8, 33, 2, 1, 0, 0, 0⟩ value x = unlockPort p value x := by
  simp [performWrite, whole, variableSize, isBlobCommand, writeRole]

theorem performWrite_roleDrop (p : Fin 4) (tag : BitVec 16) (domain : BitVec 6) (ends : Bool) {v : BitVec 8} (some_ : 1 ≤ v.toNat)
    (low : v.toNat ≤ 2) {x : State} (below : v.toNat ≤ (portAt x p).role) :
    performWrite (.cp p tag domain) ends 0x1124 0 ⟨0x1124, 0, 0, 1, 1, 2, 1, 0, 0, 255⟩ [v] x =
      doneWrite (updPort p (fun d => { d with role := v.toNat }) x) := by
  simp [performWrite, variableSize, isBlobCommand, writeRole, leNat, onlyIf, some_, low, below]

/-- What a write finds has the role that the port had. -/
theorem role_beforeWrite (p : Fin 4) (tag : BitVec 16) (domain : BitVec 6) (index sub : Nat) (value : Bytes) (s : State) :
    (portAt (beforeWrite (.cp p tag domain) index sub value s) p).role = (portAt s p).role :=
  (takeTag_role ..).trans (arrived_role p p 0x19 (carrier tag domain index sub value) s)

/-! ### The unlock (R410, R411) -/

@[simp] theorem notify_failures (d : Die) (c v : Nat) (b : Bytes) (s : State) : (notify d c v b s).svc.failures = s.svc.failures :=
  notify_same (·.svc.failures) (fun _ _ _ => rfl) (fun _ _ _ => by simp [portQueue]) (fun _ _ _ => by simp) d c v b s

@[simp] theorem Port.take_challenge (n : Notice) (d : Port) : (d.take n).challenge = d.challenge := by unfold Port.take; split <;> rfl

/-- A failed unlock is counted, whether or not it locks its source out. -/
theorem unlockFailed_failures (source : Bytes) (role : Nat) (s : State) :
    (unlockFailed source role s).svc.failures = (s.svc.failures + 1) % 2 ^ 32 := by
  unfold unlockFailed
  extract_lets now locked s1 s2 recent n s3
  (repeat' split) <;> simp [s1, s2, s3]

/-- A failed unlock leaves of each port what a notice leaves. -/
theorem portAt_unlockFailed_same {β : Type} (g : Port → β) (hg : ∀ n d, g (Port.take n d) = g d) (source : Bytes) (role : Nat) (s : State)
    (p : Nat) : g (portAt (unlockFailed source role s) p) = g (portAt s p) := by
  unfold unlockFailed
  extract_lets now locked s1 s2 recent n s3
  have said : g (portAt s2 p) = g (portAt s p) := portAt_notify_same g hg ..
  split
  · exact said
  · split
    · exact said
    · exact (portAt_notify_same g hg ..).trans said

section
variable {p : Fin 4} {value : Bytes} {x : State} (five : x.ports.length = 5) (known : field value 0 1 = 2 ∨ field value 0 1 = 3)

/-- The port's challenge is over. -/
def challengeOver (p : Nat) (x : State) : State := updPort p (fun d => { d with challenge := none }) x

include known in
theorem unlockPort_known : unlockPort p value x =
    if unlocks x (leBytes 6 (p + 1)) 0 (field value 0 1) (portAt x p).challenge (value.drop 1) then
      doneWrite (updPort p (fun d => { d with role := field value 0 1 }) (challengeOver p x))
    else rejectWrite (unlockFailed (leBytes 6 (p + 1)) (field value 0 1) (challengeOver p x)) := by
  rcases known with role | role <;> simp [unlockPort, role, challengeOver]

include five in
theorem portAt_challengeOver : portAt (challengeOver p x) p = { portAt x p with challenge := none } := portAt_updPort_self five ..

include five known in
/-- A code that the role's key gives in time raises the port. -/
theorem unlockPort_right (ok : unlocks x (leBytes 6 (p + 1)) 0 (field value 0 1) (portAt x p).challenge (value.drop 1) = true) :
    portAt (unlockPort p value x).1 p = { portAt x p with challenge := none, role := field value 0 1 } ∧ (unlockPort p value x).2 = 0 := by
  rw [unlockPort_known known, if_pos ok]
  refine ⟨?_, rfl⟩
  rw [doneWrite, portAt_updPort_self (by simpa [challengeOver] using five), portAt_challengeOver five]

include five known in
/-- Another code leaves the port its role, and is counted. -/
theorem unlockPort_wrong (bad : unlocks x (leBytes 6 (p + 1)) 0 (field value 0 1) (portAt x p).challenge (value.drop 1) = false) :
    (portAt (unlockPort p value x).1 p).challenge = none ∧ (portAt (unlockPort p value x).1 p).role = (portAt x p).role ∧
    (unlockPort p value x).2 = 0x0A ∧ (unlockPort p value x).1.svc.failures = (x.svc.failures + 1) % 2 ^ 32 := by
  rw [unlockPort_known known, bad]
  refine ⟨?_, ?_, rfl, ?_⟩
  · exact (portAt_unlockFailed_same Port.challenge Port.take_challenge ..).trans (by rw [portAt_challengeOver five])
  · exact (portAt_unlockFailed_same Port.role Port.take_role ..).trans (by rw [portAt_challengeOver five])
  · exact (unlockFailed_failures ..).trans (by simp [challengeOver])

end

/-! ### The obligation -/

/-- Settles O24: the challenge is a read's response, unlock and role drop are the writes of their objects. -/
theorem inBandRoles : Obligations.InBandRoles := by
  unfold Obligations.InBandRoles
  intro p tag domain s high five
  refine ⟨fun r hasTag _ index sub room takes empty noDict idle free inRange passes role => ?challenge, fun value may => ?unlock,
    fun value x five known => ?effect, fun v may some_ low below => ?drop⟩
  case challenge =>
    subst hasTag
    have first : ¬ DictWaits s p := by simp [DictWaits, idle, noDict]
    have reads := inBand_challenge five takes empty first free inRange passes index sub room role (.cp p r.tag r.domain) true
    refine ⟨_, whenReleased_high high _, ?_⟩
    rw [inBandOn, if_pos index, reads, portAt_keepFixed, portAt_challengeAnswered five]
    exact ⟨rfl, rfl, rfl, by simp [challengeAnswered, readJudged, challenged, issueChallenge, takeTag],
      by simp [challengeAnswered, readJudged, challenged, issueChallenge, takeTag]⟩
  case unlock =>
    change whenReleased s (inBandOn _ _ _ _) = _
    rw [whenReleased_high high, inBandOn_carrier (by decide), objectWrite_performs true may objRow_unlock,
      performWrite_unlock p tag domain true (size_of_mayWrite rfl may objRow_unlock)]
  case effect =>
    intro ok
    refine ⟨?_, fun right => ?_, fun wrong => (unlockPort_wrong five known wrong).2⟩
    · cases code : ok with
      | true => rw [(unlockPort_right five known code).1]
      | false => exact (unlockPort_wrong five known code).1
    · obtain ⟨port, done⟩ := unlockPort_right five known right
      exact ⟨by rw [port], done⟩
  case drop =>
    change whenReleased s (inBandOn _ _ _ _) = _
    rw [whenReleased_high high, inBandOn_carrier (by decide), objectWrite_performs true may objRow_roleDrop,
      performWrite_roleDrop p tag domain true some_ low (by rwa [role_beforeWrite])]
    rfl

end Sys2Proof.Machine
end

section
/-!
What a notice and the journal leave of the NOR device: everything but the records that wait for the writer and their counts.
-/
namespace Sys2Proof.Machine

/-- A reading of the NOR device that takes no notice of what waits for the writer. -/
def BesideJournal {β : Type} (g : Nor → β) : Prop :=
  ∀ (n : Nor) sec count dropped unsaid waiting,
    g { n with jSecond := sec, jCount := count, jDropped := dropped, jUnsaid := unsaid, waiting := waiting } = g n

section
variable {β : Type} {g : Nor → β} (beside : BesideJournal g)
include beside

theorem journal_nor_same (kind : Nat) (body : Bytes) (s : State) : g (journal kind body s).nor = g s.nor := by
  unfold journal
  extract_lets sec n used more pre
  split
  · rfl
  · split
    · exact beside ..
    · exact beside ..

theorem notify_nor_same (d : Die) (c v : Nat) (b : Bytes) (s : State) : g (notify d c v b s).nor = g s.nor :=
  notify_same (fun t => g t.nor) (fun _ _ _ => rfl) (fun _ _ _ => congrArg g (updPort_nor ..)) (journal_nor_same beside) d c v b s

theorem imageEvent_nor_same (event source : Nat) (r : Nat × Nat) (bs digest : Bytes) (seq : Nat) (s : State) :
    g (imageEvent event source r bs digest seq s).nor = g s.nor :=
  journal_nor_same beside ..

end

theorem besideJournal_settings : BesideJournal Nor.settings := fun _ _ _ _ _ _ => rfl
theorem besideJournal_staging : BesideJournal Nor.staging := fun _ _ _ _ _ _ => rfl

/-- The staging region and the two slots. -/
def Nor.regions (n : Nor) : Region × Region × Region := (n.staging, n.slotA, n.slotB)

theorem besideJournal_regions : BesideJournal Nor.regions := fun _ _ _ _ _ _ => rfl

end Sys2Proof.Machine
end

section
/-!
The settings store and the overflow bits cleared by a write (R425, R476), and the bandwidth windows (R49, R478).
-/
namespace Sys2Proof.Machine

/-! ### Object 0x1140: the settings store -/

theorem objRow_storeReset : objRow 0x1140 0 = some ⟨0x1140, 0, 0, 1, 1, 2, 3, 0, 0, 255⟩ := by decide +kernel

theorem performWrite_storeReset (src : Src) (ends : Bool) (x : State) :
    performWrite src ends 0x1140 0 ⟨0x1140, 0, 0, 1, 1, 2, 3, 0, 0, 255⟩ [1] x = onlyIf x.nor.present x (eraseSettings x) := by
  simp [performWrite, variableSize, isBlobCommand, writeCommand, leNat]

/-- What the erase of sectors and the notices of bad ones leave alone. -/
theorem eraseSectors_same {β : Type} (g : State → β) (hdraw : ∀ t : State, g t.drawn = g t)
    (hbad : ∀ t : State, g (t.onNor fun n => { n with storeBad := n.storeBad + 1, free := n.free - 1 }) = g t)
    (hnotice : ∀ d c v b t, g (notify d c v b t) = g t) (k : Nat) (s : State) : g (eraseSectors k s) = g s := by
  induction k generalizing s with
  | zero => rfl
  | succ k ih =>
    unfold eraseSectors
    split
    · exact (ih _).trans (hdraw s)
    · exact (ih _).trans ((hnotice ..).trans ((hbad _).trans (hdraw s)))

/-- The objects that an erased store leaves at their values: those that it does not keep, and those of 0x1100 to 0x11FF (R425). -/
def keptUnstored (e : Nat × Nat) : Bool := !persists e.1 || e.1 / 65536 == 0x11

theorem eraseSettings_settings (x : State) : (eraseSettings x).nor.settings = [] := by
  unfold eraseSettings
  refine (notify_nor_same besideJournal_settings ..).trans ?_
  exact eraseSectors_same (·.nor.settings) (fun _ => rfl) (fun _ => rfl) (notify_nor_same besideJournal_settings) _ _

theorem eraseSettings_mem (x : State) : (eraseSettings x).mem = x.mem := by
  unfold eraseSettings
  refine (notify_mem ..).trans ?_
  exact eraseSectors_same (·.mem) (fun _ => rfl) (fun _ => rfl) (fun d c v b t => notify_mem t d c v b) _ _

theorem eraseSettings_objs (x : State) : (eraseSettings x).objs = x.objs.filter keptUnstored := by
  unfold eraseSettings
  refine (notify_objs ..).trans (congrArg (List.filter keptUnstored) ?_)
  exact eraseSectors_same (·.objs) (fun _ => rfl) (fun _ => rfl) (fun d c v b t => notify_objs t d c v b) _ _

theorem eraseSettings_image (x : State) : (eraseSettings x).image = x.image := by
  unfold eraseSettings
  refine (notify_image ..).trans ?_
  exact eraseSectors_same (·.image) (fun _ => rfl) (fun _ => rfl) (fun d c v b t => notify_image t d c v b) _ _

theorem eraseSettings_variant (x : State) : (eraseSettings x).variant = x.variant := by
  unfold eraseSettings
  refine (notify_variant ..).trans ?_
  exact eraseSectors_same (·.variant) (fun _ => rfl) (fun _ => rfl) (fun d c v b t => notify_variant t d c v b) _ _

/-- A value whose key a filter keeps is found as before. -/
theorem find?_filter_key {p : Nat × Nat → Bool} {key : Nat} (kept : ∀ v, p (key, v) = true) (m : List (Nat × Nat)) :
    (m.filter p).find? (·.1 == key) = m.find? (·.1 == key) := by
  rw [List.find?_filter]
  congr 1
  funext e
  by_cases here : e.1 = key
  · subst here
    simp [kept e.2]
  · simp [here]

/-- An object of the idle time of sessions stays in force until the next release (R425). -/
theorem objGet_eraseSettings_idleTime (x : State) {sub : Nat} (small : sub < 256) :
    objGet (eraseSettings x) 0x1111 sub = objGet x 0x1111 sub := by
  have area : objKey 0x1111 sub / 65536 = 0x11 := by
    unfold objKey
    omega
  unfold objGet objDefault
  rw [eraseSettings_objs, eraseSettings_image, eraseSettings_variant, find?_filter_key fun v => by simp [keptUnstored, area]]

/-! ### Object 0x8002: the overflow bits -/

theorem objRow_overflow : objRow 0x8002 0 = some ⟨0x8002, 0, 0, 1, 1, 2, 2, 0, 0, 255⟩ := by decide +kernel

theorem performWrite_overflow (src : Src) (ends : Bool) (mask : BitVec 8) (x : State) :
    performWrite src ends 0x8002 0 ⟨0x8002, 0, 0, 1, 1, 2, 2, 0, 0, 255⟩ [mask] x = doneWrite (clearOverflow mask.toNat x) := by
  simp [performWrite, variableSize, isBlobCommand, writeCommand, leNat]

theorem mem_ovf_clearOverflow (mask : Nat) (x : State) (index : Nat) {sub : Nat} (small : sub < 256) :
    objKey index sub ∈ (clearOverflow mask x).cnt.ovf ↔ objKey index sub ∈ x.cnt.ovf ∧ bit mask (counterGroup index) = false := by
  have key : objKey index sub / 256 = index := by
    unfold objKey
    omega
  simp [clearOverflow, key]

/-! ### Bandwidth windows -/

/-- Boundaries of windows of a length between two times. -/
def edgesBetween (len last hub : Nat) : Nat := hub / len - last / len

theorem edgesBetween_none {len last hub : Nat} (some_ : 0 < len) (before : hub < (last / len + 1) * len) : edgesBetween len last hub = 0 := by
  have := (Nat.div_lt_iff_lt_mul some_).mpr before
  unfold edgesBetween
  omega

theorem edgesBetween_some {len last hub : Nat} (some_ : 0 < len) (k : Nat) (reached : (last / len + 1) * len + k * len ≤ hub) :
    k + 1 ≤ edgesBetween len last hub := by
  have := (Nat.le_div_iff_mul_le some_).mpr (show (last / len + 1 + k) * len ≤ hub by rwa [Nat.add_mul])
  unfold edgesBetween
  omega

/-- The twelve values of the window that has ended. -/
def Counters.rates (c : Counters) : List Nat := List.zipWith (fun a b => (a + 2 ^ 48 - b) % 2 ^ 48 * 32 / c.w) c.sectors c.base

theorem Counters.passWindows_before {hub : Nat} {c : Counters} (some_ : 0 < c.w) (before : hub < nextEdge c.w c.last) :
    c.passWindows hub = c := by
  have none_ : hub / (c.w * 1000) - c.last / (c.w * 1000) = 0 := edgesBetween_none (by omega) before
  simp only [passWindows, none_, if_true]

theorem Counters.passWindows_reached {hub : Nat} {c : Counters} (some_ : 0 < c.w) (reached : nextEdge c.w c.last ≤ hub) :
    c.passWindows hub = { c with
      last := hub / (c.w * 1000) * (c.w * 1000), base := c.sectors, valid := true,
      shown := if 2 ≤ edgesBetween (c.w * 1000) c.last hub then c.rates.map fun _ => 0 else if c.valid then c.rates else c.shown } := by
  have any : hub / (c.w * 1000) - c.last / (c.w * 1000) ≠ 0 := by
    have := edgesBetween_some (len := c.w * 1000) (last := c.last) (hub := hub) (by omega) 0 (by simpa [nextEdge] using reached)
    unfold edgesBetween at this
    omega
  simp only [passWindows, any, if_false]
  rfl

theorem Counters.sectors_length (c : Counters) : c.sectors.length = 12 := rfl

theorem Counters.nth_rates {c : Counters} (twelve : c.base.length = 12) {k : Nat} (small : k < 12) :
    nth c.rates k 0 = (nth c.sectors k 0 + 2 ^ 48 - nth c.base k 0) % 2 ^ 48 * 32 / c.w := by
  have a : k < c.sectors.length := small
  have b : k < c.base.length := twelve ▸ small
  simp [rates, nth, a, b]

theorem nth_map_zero {α : Type} (xs : List α) (k : Nat) : nth (xs.map fun _ => 0) k 0 = 0 := by
  unfold nth
  rw [List.getD_eq_getElem?_getD, List.getElem?_map]
  cases xs[k]? <;> rfl

/-- With no change of the window waiting, what a boundary computes is that of the window in force. -/
theorem Counters.endWindow_same (hub : Nat) (c : Counters) : c.endWindow hub c.w = c.passWindows hub := by simp [endWindow]

/-- A change of the window comes in force at the first boundary of its length, which no boundary of the old window precedes. -/
theorem Counters.endWindow_change {hub asked : Nat} {c : Counters} (change : asked ≠ c.w) (some_ : 0 < c.w) (some' : 0 < asked)
    (first : nextEdge asked c.last ≤ nextEdge c.w c.last) (reached : nextEdge asked c.last ≤ hub)
    (within : hub < nextEdge asked c.last + asked * 1000) :
    c.endWindow hub asked = { c with w := asked, last := nextEdge asked c.last, base := c.sectors, valid := false } := by
  have positive : 0 < nextEdge asked c.last := Nat.mul_pos (Nat.succ_pos _) (by omega)
  have old : c.passWindows (nextEdge asked c.last - 1) = c := passWindows_before some_ (by omega)
  have begun : nextEdge asked (nextEdge asked c.last) = nextEdge asked c.last + asked * 1000 := by
    unfold nextEdge
    rw [Nat.mul_div_cancel _ (by omega), Nat.add_mul _ 1 (asked * 1000), Nat.one_mul]
  have due : (decide (asked = c.w) || decide (hub < nextEdge asked c.last)) = false := by simp [change, reached]
  unfold endWindow
  simp only [due, Bool.false_eq_true, if_false, old]
  exact passWindows_before some' (by simpa only [begun] using within)

theorem execBandwidthWindow_high {s : State} (high : s.released = true) :
    execBandwidthWindow s = .next (keepFixed s true (s.onCnt (Counters.endWindow s.clk.hub (objGet s 0x8010 0)))) :=
  whenReleased_high high _

/-- Settles O56: each clear is a write that its object takes, and a boundary is one of the window in force or the first of a new one. -/
theorem settingsOverflowAndBandwidth : Obligations.SettingsOverflowAndBandwidth := by
  unfold Obligations.SettingsOverflowAndBandwidth
  refine ⟨fun src mask s high => ⟨fun may there => ?reset, fun may absent => ?rejected,
    fun may => whenReleased_wrote true high may objRow_overflow (performWrite_overflow src true mask),
    fun x => ⟨eraseSettings_settings x, eraseSettings_mem x, fun sub => objGet_eraseSettings_idleTime x, rfl,
      fun index sub => mem_ovf_clearOverflow _ x index⟩⟩,
    fun s high same some_ reached => ?inForce, fun s high change some_ some' first reached within => ?change⟩
  case reset =>
    change whenReleased s (objectWrite _ _ _ _ _) = _
    rw [whenReleased_high high, objectWrite_performs true may objRow_storeReset, performWrite_storeReset, there]
    rfl
  case rejected =>
    change whenReleased s (objectWrite _ _ _ _ _) = _
    rw [whenReleased_high high, objectWrite_performs true may objRow_storeReset, performWrite_storeReset, absent]
    rfl
  case inForce =>
    refine ⟨_, execBandwidthWindow_high high, ?_⟩
    rw [keepFixed_cnt, State.onCnt_cnt, same, Counters.endWindow_same, Counters.passWindows_reached some_ reached]
    refine ⟨rfl, rfl, rfl, rfl, rfl, rfl, rfl, rfl, fun next => ?_, fun several k => ?_⟩
    · have one : ¬ 2 ≤ edgesBetween (s.cnt.w * 1000) s.cnt.last s.clk.hub := fun two => by
        have : s.clk.hub / (s.cnt.w * 1000) < s.cnt.last / (s.cnt.w * 1000) + 1 + 1 :=
          (Nat.div_lt_iff_lt_mul (by omega)).mpr (by rwa [Nat.add_mul _ 1 (s.cnt.w * 1000), Nat.one_mul])
        unfold edgesBetween at two
        omega
      simp only [one, if_false]
      exact ⟨fun valid twelve k small => by rw [if_pos valid, Counters.nth_rates twelve small]; rfl, fun invalid => by simp [invalid]⟩
    · have two := edgesBetween_some (len := s.cnt.w * 1000) (by omega) 1 (by simpa [nextEdge] using several)
      simp only [show 2 ≤ edgesBetween (s.cnt.w * 1000) s.cnt.last s.clk.hub from two, if_true]
      exact nth_map_zero _ k
  case change =>
    refine ⟨_, execBandwidthWindow_high high, ?_⟩
    rw [keepFixed_cnt, State.onCnt_cnt, Counters.endWindow_change change some_ some' first reached within]
    exact ⟨rfl, rfl, rfl, rfl, rfl, rfl, rfl, rfl, rfl⟩

end Sys2Proof.Machine
end

section
/-!
Images staged, cancelled and copied (R464, R465, R470).
-/
namespace Sys2Proof.Machine

/-! ### The staging region -/

theorem objRow_stagingCancel : objRow 0x7822 0 = some ⟨0x7822, 0, 0, 1, 1, 2, 3, 0, 0, 255⟩ := by decide +kernel

theorem performWrite_stagingCancel (src : Src) (ends : Bool) (x : State) :
    performWrite src ends 0x7822 0 ⟨0x7822, 0, 0, 1, 1, 2, 3, 0, 0, 255⟩ [1] x =
      onlyIf (x.nor.present && !stagingPinned x) x (cancelStaging x) := by
  simp [performWrite, variableSize, isBlobCommand, writeCommand, leNat, cancelAllowed]

theorem cancelStaging_regions (b : State) : (cancelStaging b).nor.regions = ({}, b.nor.slotA, b.nor.slotB) :=
  imageEvent_nor_same besideJournal_regions ..

/-- Settles O57: the write is accepted where a NOR device is there and the staging region is not pinned, and it erases that region. -/
theorem stagingCancelErasesTheTag : Obligations.StagingCancelErasesTheTag := by
  unfold Obligations.StagingCancelErasesTheTag
  intro src s high may b
  have writes : exec (.stagingCancel src 1) s = .next (keepFixed s true
      (let w := onlyIf (b.nor.present && !stagingPinned b) b (cancelStaging b); afterWrite src 0x7822 0 [1] w.2 w.1)) := by
    change whenReleased s (objectWrite _ _ _ _ _) = _
    rw [whenReleased_high high, objectWrite_performs true may objRow_stagingCancel, performWrite_stagingCancel]
  refine ⟨fun there free => ⟨?_, ?_⟩, fun refused => ?_⟩
  · rw [writes, there, free]
    rfl
  · have regions := cancelStaging_regions b
    simp only [Nor.regions, Prod.mk.injEq] at regions
    exact regions
  · rw [writes, show (b.nor.present && !stagingPinned b) = false by rcases refused with h | h <;> simp [h]]
    rfl

/-! ### A staging write (R464) -/

theorem objRow_staging : objRow 0x7820 0 = some ⟨0x7820, 0, 0, 8, 1048576, 2, 3, 0, 0, 0⟩ := by decide +kernel

theorem performWrite_staging (src : Src) (ends : Bool) (image : Bytes) (x : State) :
    performWrite src ends 0x7820 0 ⟨0x7820, 0, 0, 8, 1048576, 2, 3, 0, 0, 0⟩ image x = writeImage src image x := by
  simp [performWrite, variableSize, isBlobCommand, writeBlob]

/-- STAGING_WRITE in-band is a Dictionary write of object 0x7820:00. -/
theorem execStagingWrite_inBand {src : Src} {image : Bytes} {s : State} (high : s.released = true)
    (may : mayWrite s src 0x7820 0 image = true) (inBand : ∃ p tag domain, src = .cp p tag domain) :
    let w := writeImage src image (beforeWrite src 0x7820 0 image s)
    execStagingWrite src image s = .next (keepFixed s true (afterWrite src 0x7820 0 image w.2 w.1)) := by
  obtain ⟨p, tag, domain, rfl⟩ := inBand
  intro w
  rw [execStagingWrite, whenReleased_high high]
  change Host.Outcome.next (keepFixed s true (objectWrite (.cp p tag domain) true 0x7820 0 image s)) = _
  rw [objectWrite_performs true may objRow_staging, performWrite_staging]

theorem writeImage_now {src : Src} {image : Bytes} {x : State} (there : x.nor.present = true) (idle : x.image.copy ≠ 1) :
    writeImage src image x = judged (stageImage image x) := by simp [writeImage, there, idle]

theorem writeImage_waits {src : Src} {image : Bytes} {x : State} (there : x.nor.present = true) (copies : x.image.copy = 1) :
    writeImage src image x = (x.onImage fun m => { m with waiting := m.waiting ++ [(src, image)] }, 0x10) := by
  simp [writeImage, there, copies]

section
variable {image : Bytes} {x : State}

/-- A good image becomes the staged one. -/
theorem stageImage_good (good : (judgeImage x x.image.security image).1 = 0) :
    (stageImage image x).2 = true ∧ (stageImage image x).1.nor.staging = ⟨2, 0, image, imageDigest image⟩ := by
  simp only [stageImage, good, ne_eq, not_true_eq_false, if_false, true_and]
  exact (imageEvent_nor_same besideJournal_staging ..).trans (notify_nor_same besideJournal_staging ..)

/-- A bad image leaves the staging region. -/
theorem stageImage_bad (bad : (judgeImage x x.image.security image).1 ≠ 0) :
    (stageImage image x).2 = false ∧ (stageImage image x).1.nor.staging = x.nor.staging := by
  simp only [stageImage, bad, ne_eq, not_false_eq_true, if_true, true_and]
  exact (imageEvent_nor_same besideJournal_staging ..).trans (notify_nor_same besideJournal_staging ..)

end

/-! ### The copy (R470) -/

theorem imageEvent_image (event source : Nat) (r : Nat × Nat) (bs digest : Bytes) (seq : Nat) (s : State) :
    (imageEvent event source r bs digest seq s).image = s.image := journal_image ..

theorem copyTarget_cases (s : State) : copyTarget s = 1 ∨ copyTarget s = 2 := by
  unfold copyTarget
  dsimp only
  (repeat' split) <;> simp

/-- A region of NOR as the copy of the staged image leaves it. -/
def copiedRegion (s : State) : Region :=
  let top := Nat.max (if s.nor.slotA.state = 1 then s.nor.slotA.seq else 0) (if s.nor.slotB.state = 1 then s.nor.slotB.seq else 0)
  ⟨1, (top + 1) % 2 ^ 32, s.nor.staging.image, s.nor.staging.digest⟩

/-- The slot that the copy went to holds the image, and the staging region is free. -/
theorem copyDone_regions (s : State) : (copyDone s).nor.regions =
    if copyTarget s = 1 then ({}, copiedRegion s, s.nor.slotB) else ({}, s.nor.slotA, copiedRegion s) := by
  unfold copyDone
  refine (notify_nor_same besideJournal_regions ..).trans ((imageEvent_nor_same besideJournal_regions ..).trans ?_)
  rcases copyTarget_cases s with target | target <;> simp [target, setRegion, countErase, Nor.regions, copiedRegion]

theorem copyDone_image (s : State) : (copyDone s).image = { s.image with copy := 0, retried := false } := by
  unfold copyDone
  refine (notify_image ..).trans ((imageEvent_image ..).trans ?_)
  rfl

theorem copyFails_first {s : State} (first : s.image.retried = false) : (copyFails s).image = { s.image with retried := true } := by
  have first' : (setRegion (copyTarget s) {} s).image.retried = false := first
  simp only [copyFails, first', Bool.not_false, if_true]
  rfl

theorem copyFails_second {s : State} (second : s.image.retried = true) : (copyFails s).image.copy = 2 := by
  have second' : (setRegion (copyTarget s) {} s).image.retried = true := second
  simp only [copyFails, second', Bool.not_true, Bool.false_eq_true, if_false]
  exact congrArg Image.copy ((notify_image ..).trans (imageEvent_image ..))

section
variable {s : State} (high : s.released = true) (copies : s.image.copy = 1) (there : s.nor.present = true)
include high copies there

/-- A copy that is over lets the writes that waited run. -/
theorem execImageCopy_over {ok : Bool} (over_ : (if ok then copyDone s else copyFails s).image.copy ≠ 1) :
    execImageCopy ok s = .next (keepFixed s true (runStaging finishStaged (if ok then copyDone s else copyFails s))) := by
  have runs : (decide (s.image.copy ≠ 1) || !s.nor.present) = false := by simp [copies, there]
  simp only [execImageCopy, whenReleased_high high, runs, over_, Bool.false_eq_true, if_false]

theorem execImageCopy_again (first : s.image.retried = false) :
    execImageCopy false s = .next (keepFixed s true (copyFails s)) := by
  have runs : (decide (s.image.copy ≠ 1) || !s.nor.present) = false := by simp [copies, there]
  have goes : (copyFails s).image.copy = 1 := by rw [copyFails_first first, copies]
  simp only [execImageCopy, whenReleased_high high, runs, goes, Bool.false_eq_true, if_false, if_true]

end

/-- Settles O58: a staging write by whether a copy runs, an image by its judgement, and a copy by what is read back. -/
theorem imagesAreStagedAndCopied : Obligations.ImagesAreStagedAndCopied := by
  unfold Obligations.ImagesAreStagedAndCopied
  intro src image s high
  refine ⟨fun may idle inBand there => ?now, fun may copies inBand there => ?waits, fun x => ?judge, fun copies there => ?copy⟩
  case now =>
    change execStagingWrite src image s = _
    rw [execStagingWrite_inBand high may inBand, writeImage_now there idle]
    rfl
  case waits =>
    change execStagingWrite src image s = _
    rw [execStagingWrite_inBand high may inBand, writeImage_waits there copies]
  case judge =>
    intro r
    by_cases good : r.1 = 0
    · obtain ⟨accepted, staged⟩ := stageImage_good good
      exact ⟨by simp [accepted, good], fun _ => staged, fun bad => absurd good bad⟩
    · obtain ⟨rejected, kept⟩ := stageImage_bad good
      exact ⟨by simp [rejected, good], fun same => absurd same good, fun _ => kept⟩
  case copy =>
    have image := copyDone_image s
    have regions := copyDone_regions s
    simp only [Nor.regions] at regions
    refine ⟨execImageCopy_over high copies there (ok := true) (by simp [image]), ⟨?_, by rw [image]⟩,
      ⟨fun target => ?_, fun target => ?_, copyTarget_cases s⟩, fun second => ⟨?_, copyFails_second second⟩, fun first => ?_⟩
    · exact (congrArg Prod.fst regions).trans (by split <;> rfl)
    · simp only [target, if_true, Prod.mk.injEq] at regions
      obtain ⟨-, slot, other⟩ := regions
      exact ⟨by rw [slot]; rfl, by rw [slot]; rfl, other⟩
    · simp only [target, OfNat.ofNat_ne_one, if_false, Prod.mk.injEq] at regions
      obtain ⟨-, other, slot⟩ := regions
      exact ⟨by rw [slot]; rfl, by rw [slot]; rfl, other⟩
    · exact execImageCopy_over high copies there (ok := false) (by simp [copyFails_second second])
    · refine ⟨_, execImageCopy_again high copies there first, ?_⟩
      rw [keepFixed_image, copyFails_first first]
      exact ⟨copies, rfl, rfl⟩

end Sys2Proof.Machine
end

section
/-!
Pattern tests start, lose lock and end (R481 to R485).
-/
namespace Sys2Proof.Machine

/-! ### The test command (Table 16.4) -/

theorem objRow_test : objRow 0x9010 0 = some ⟨0x9010, 0, 0, 8, 32, 2, 3, 0, 0, 0⟩ := by decide +kernel

theorem performWrite_test (src : Src) (ends : Bool) (bs : Bytes) (x : State) (whole : bs.length = 32) :
    performWrite src ends 0x9010 0 ⟨0x9010, 0, 0, 8, 32, 2, 3, 0, 0, 0⟩ bs x = judged (writeTest bs x) := by
  simp [performWrite, whole, variableSize, isBlobCommand, writeBlob]

section
variable {bs : Bytes} {x : State} (good : judgeTest x bs = 0)
include good

theorem writeTest_starts (start : field bs 0 1 = 1) {id : Nat} (free : freeTest x = some id) {tg : Target} (target : testTarget bs = some tg) :
    writeTest bs x = (x.onTest fun t => { t with
      result := id * 256,
      tests := t.tests ++ [(id, { cmd := bs, target := tg, start := x.clk.hub, margin := bit (field bs 7 1) 0 })] }, true) := by
  simp [writeTest, good, start, free, target, State.onTest]

theorem writeTest_stops (stop : field bs 0 1 = 2) :
    writeTest bs x = (x.onTest fun t => { t with
      result := field bs 17 1 * 256,
      tests := t.tests.map fun e => if e.1 = field bs 17 1 then (e.1, { e.2 with stop := some 1 }) else e }, true) := by
  simp [writeTest, good, stop, State.onTest]

end

/-! ### Loss of lock (R481) -/

/-- One test with one more loss of lock on a lane. -/
def Test.lost (lane : Nat) (t : Test) : Test := { t with syncs := put 0 lane (look 0 lane t.syncs + 1) t.syncs }

theorem execSyncLoss_counts {test : Fin 16} {lane : Fin 68} {n : Nat} {t : Test} {s : State} (high : s.released = true) (many : 16 < n)
    (only : s.test.tests = [(test.val + 1, t)]) (runs : t.stop = none) (there : lane.val < testLanes t.target) :
    execSyncLoss test lane n s = .next (keepFixed s true (s.onTest fun x => { x with tests := [(test.val + 1, t.lost lane)] })) := by
  rw [execSyncLoss, whenReleased_high high, if_neg (Nat.not_le.mpr many)]
  simp [State.onTest, only, runs, there, Test.lost]

/-! ### The end of a test (R484, R485) -/

/-- What the commands that a test has sent and its target's rest change: controllers, stacks, quadrants, counters, draws and notices. -/
structure TestEndKeeps {β : Type} (g : State → β) : Prop where
  draw : ∀ s : State, g s.drawn = g s
  chans : ∀ (s : State) f, g (s.onChans f) = g s
  stk : ∀ (s : State) f, g (s.onStk f) = g s
  quads : ∀ (s : State) f, g (s.onQuads f) = g s
  count : ∀ i k n s, g (bump i k n s) = g s
  notice : ∀ d c v b s, g (notify d c v b s) = g s

namespace TestEndKeeps

variable {β : Type} {g : State → β} (keeps : TestEndKeeps g)
include keeps

theorem endEpoch (q : Nat) (s : State) : g (endEpoch q s) = g s := by
  rcases Nat.lt_or_ge (quadAt s q).epochs (quadTime s q / 16000000) with passed | none_
  · exact (endEpoch_same g keeps.chans keeps.stk passed).trans (keeps.quads ..)
  · rw [Machine.endEpoch, if_pos none_]

theorem testAct (c : Nat) (s : State) : g (testAct c s) = g s := by
  unfold Machine.testAct doAct
  extract_lets x
  exact (keeps.chans ..).trans ((keeps.count ..).trans ((keeps.chans ..).trans ((keeps.endEpoch ..).trans (keeps.draw s))))

theorem countTest (t : Test) (lanes : List LaneCount) (s : State) : g (countTest t lanes s) = g s := by
  unfold Machine.countTest
  split
  · rfl
  · extract_lets bursts
    split
    · exact keeps.count ..
    · exact (keeps.count ..).trans (keeps.count ..)
    · exact (forEach_same g (fun _ t => keeps.testAct _ t) _ _).trans (keeps.draw s)
    · rfl

end TestEndKeeps

/-- The tests and their results, the stored bytes and the requests. -/
def testsAndStore (s : State) := (s.test, s.mem, s.reqs)

theorem testEndKeeps_testsAndStore : TestEndKeeps testsAndStore where
  draw _ := rfl
  chans _ _ := rfl
  stk _ _ := rfl
  quads _ _ := rfl
  count i k n s := by simp [testsAndStore]
  notice d c v b s := by simp [testsAndStore]

/-- A test's identifier is free again, and its result record published. -/
def recordPublished (id : Nat) (record : Bytes) (s : State) : State := s.onTest fun x => { x with
  tests := x.tests.filter (·.1 ≠ id), results := x.results.filter (·.1 ≠ id) ++ [(id, record)] }

theorem execTestEnd_publishes {test : Fin 16} {lanes : List LaneCount} {t : Test} {outcome : Nat} {s : State} (high : s.released = true)
    (there : s.test.tests.find? (·.1 == test.val + 1) = some (test.val + 1, t))
    (over_ : t.stop = some outcome ∨ (t.stop = none ∧ runComplete t lanes = true ∧ outcome = 0)) :
    ∃ u, execTestEnd test lanes s = .next u ∧
      testsAndStore u = testsAndStore (recordPublished (test.val + 1) (resultRecord s (test.val + 1) outcome t lanes) s) := by
  have ended : (t.stop.isNone && !runComplete t lanes) = false := by
    rcases over_ with stopped | ⟨-, complete, -⟩
    · simp [stopped]
    · simp [complete]
  have result : t.stop.getD 0 = outcome := by
    rcases over_ with stopped | ⟨runs, -, zero⟩
    · simp [stopped]
    · simp [runs, zero]
  refine ⟨_, whenReleased_high high _, ?_⟩
  simp only [there, ended, result, Bool.false_eq_true, if_false]
  have keeps := testEndKeeps_testsAndStore
  refine (keeps.notice ..).trans (Eq.trans ?_ (keeps.countTest t lanes _))
  split
  · split
    · exact (keeps.stk ..).trans (keeps.chans ..)
    · rfl
  · rfl

/-- Settles O59: the commands are writes that Table 16.4 judges, a loss of lock and the end of a test change that test alone. -/
theorem testsStartAndEnd : Obligations.TestsStartAndEnd := by
  unfold Obligations.TestsStartAndEnd
  intro src value s high
  refine ⟨fun i k row => ?command, fun bs x id tg good start free target => ?start, fun bs x good stop => writeTest_stops good stop,
    fun test lane n t many only runs there => ⟨_, execSyncLoss_counts high many only runs there, rfl, rfl, rfl, rfl⟩,
    fun test lanes t outcome there over_ => ?ended⟩
  case command =>
    have run := namedWrite_admitted (src := src) (k := k) (value := value) high objRow_test rfl (performWrite_test src true)
    have listed : (i = .testStart src value ∧ k = 1) ∨ (i = .testStop src value ∧ k = 2) := by simpa using row
    rcases listed with ⟨rfl, rfl⟩ | ⟨rfl, rfl⟩ <;> exact run
  case start =>
    rw [writeTest_starts good start free target]
    exact ⟨rfl, rfl, rfl⟩
  case ended =>
    obtain ⟨u, done, same⟩ := execTestEnd_publishes high there over_
    simp only [testsAndStore, Prod.mk.injEq] at same
    obtain ⟨test_, mem, reqs⟩ := same
    refine ⟨u, done, fun e listed => ?_, ?_, mem, reqs⟩
    · rw [test_] at listed
      simpa using (List.mem_filter.mp listed).2
    · rw [test_]
      exact List.mem_append_right _ (List.mem_singleton_self _)

end Sys2Proof.Machine
end

section
/-!
Object 0x7050, which holds and releases the start-up sequence (R432), and the results of its hard repairs (R340).
-/
namespace Sys2Proof.Machine

/-! ### A value is programmed into the settings store (R424, R425) -/

/-- What the NOR device, the notices of bad sectors and the draws of free values are no part of. -/
structure StoreTryKeeps {β : Type} (g : State → β) : Prop where
  draw : ∀ s : State, g s.drawn = g s
  nor : ∀ (s : State) f, g (s.onNor f) = g s
  notice : ∀ d c v b s, g (notify d c v b s) = g s

namespace StoreTryKeeps

variable {β : Type} {g : State → β} (keeps : StoreTryKeeps g)
include keeps

theorem programSetting (bytes fuel : Nat) (s : State) : g (programSetting bytes fuel s).1 = g s := by
  induction fuel generalizing s with
  | zero => rfl
  | succ n ih =>
    unfold Machine.programSetting
    extract_lets failed s1 s2
    split
    · rfl
    · split
      · exact (ih _).trans ((keeps.notice ..).trans ((keeps.nor ..).trans (keeps.draw s)))
      · exact (keeps.nor ..).trans (keeps.draw s)

theorem compactSettings (s : State) : g (compactSettings s) = g s := by
  unfold Machine.compactSettings
  split
  · rfl
  · exact (eraseSectors_same g keeps.draw (fun t => keeps.nor t _) keeps.notice ..).trans (keeps.nor ..)

theorem persist (index sub size v : Nat) (s : State) : g (persist index sub size v s).1 = g s := by
  unfold Machine.persist
  split
  · rfl
  · refine (keeps.compactSettings _).trans ?_
    split
    · exact (keeps.nor ..).trans (keeps.programSetting ..)
    · exact keeps.programSetting ..

end StoreTryKeeps

/-- The objects' values, the start-up sequence and the stored bytes. -/
def objsStartAndMem (s : State) := (s.objs, s.start, s.mem)

theorem storeTryKeeps_objsStartAndMem : StoreTryKeeps objsStartAndMem where
  draw _ := rfl
  nor _ _ := rfl
  notice d c v b s := by simp [objsStartAndMem]

theorem persist_absent {index sub size v : Nat} {s : State} (absent : s.nor.present = false) : persist index sub size v s = (s, false) := by
  simp [persist, absent]

/-! ### Object 0x7050 -/

theorem objRow_hold : objRow 0x7050 0 = some ⟨0x7050, 0, 0, 1, 1, 4, 3, 0, 0, 2⟩ := by decide +kernel

/-- A write of 0 to 2 asks the store; where it takes the value, a 0 releases a held sequence. -/
theorem performWrite_hold (src : Src) (ends : Bool) {v : BitVec 8} (small : v.toNat ≤ 2) (b : State) :
    let r := persist 0x7050 0 1 v.toNat b
    performWrite src ends 0x7050 0 ⟨0x7050, 0, 0, 1, 1, 4, 3, 0, 0, 2⟩ [v] b =
      (if r.2 then (if v = 0 then releaseStart else id) (objSet 0x7050 0 v.toNat r.1) else r.1, if r.2 then 0 else 0x0A) := by
  intro r
  have value : leNat [v] = v.toNat := by simp [leNat]
  have ok : valueOk b.variant 0x7050 0 v.toNat = true := by
    simp [valueOk, objRow_hold, small]
    omega
  have written : writeValue 0x7050 0 v.toNat ⟨0x7050, 0, 0, 1, 1, 4, 3, 0, 0, 2⟩ b =
      if r.2 then doneWrite (objSet 0x7050 0 v.toNat r.1) else rejectWrite r.1 := if_pos rfl
  have zero : v.toNat = 0 ↔ v = 0 := by
    rw [← BitVec.toNat_inj]
    rfl
  rw [performWrite_value rfl (by decide) (by decide) (by decide) fun _ => rfl, value, if_neg (by simp [ok, relationOk]),
    if_neg (by decide), if_neg (by decide), if_pos rfl, written]
  cases r.2 with
  | true =>
    by_cases release : v = 0
    · subst release
      rfl
    · simp only [doneWrite, zero, release, if_true, if_false, decide_false, Bool.and_false, Bool.false_eq_true, id]
  | false => simp [rejectWrite]

/-! ### A hard repair ends -/

/-- The hard repairs that run, what holds the sequence, and its state. -/
def Startup.progress (t : Startup) := (t.hard, t.held, t.state)

theorem applyRepair_progress (x : Repair) (s : State) : (applyRepair x s).start.progress = s.start.progress := by
  unfold applyRepair
  extract_lets add
  split <;> rfl

section
variable {n : Fin 32} {p : Fin 66} {status : BitVec 16} {s : State} {x : Repair} (high : s.released = true)
  (found : s.start.hard.find? (fun r => r.stack == n.val && r.pch == p.val) = some x)
include high found

theorem execHardRepairResult_busy (notDone : bit status.toNat 1 = false) (notFailed : bit status.toNat 2 = false) :
    execHardRepairResult n p status s = .next (keepFixed s true (askSideband n 3 (256 + p) s)) := by
  have found' : firstHard s n p = some x := found
  simp [execHardRepairResult, whenReleased_high high, found', notDone, notFailed]

/-- With others still running, the sequence waits on. -/
theorem execHardRepairResult_ends (ended : (bit status.toNat 1 || bit status.toNat 2) = true) (more : dropFirst (· == x) s.start.hard ≠ []) :
    ∃ t, execHardRepairResult n p status s = .next t ∧
      t.start.progress = (dropFirst (· == x) s.start.hard, s.start.held, s.start.state) := by
  have found' : firstHard s n p = some x := found
  have ended' : (!bit status.toNat 1 && !bit status.toNat 2) = false := by
    rw [← Bool.not_or, ended]
    rfl
  refine ⟨_, whenReleased_high high _, ?_⟩
  simp -zeta only [found']
  rw [keepFixed_start]
  extract_lets s1 done column soft s2 result s3 s4 s5 s6 s7
  have taken : s3.start.progress = (dropFirst (· == x) s.start.hard, s.start.held, s.start.state) := applyRepair_progress _ s2
  have said : s6.start.progress = s3.start.progress := by
    refine congrArg Startup.progress ((notify_start ..).trans ((ledger_start ..).trans ?_))
    show s4.start = s3.start
    unfold s4
    (repeat' split) <;> rfl
  have next : s7.start.progress = s6.start.progress := by
    unfold s7
    split <;> rfl
  have reached := next.trans (said.trans taken)
  have waits : s7.start.hard.isEmpty = false := by
    rw [show s7.start.hard = dropFirst (· == x) s.start.hard from congrArg Prod.fst reached]
    simpa using more
  rw [show (!done && !bit status.toNat 2) = false from ended', waits, Bool.false_and]
  simpa only [Bool.false_eq_true, if_false] using reached

end

/-- Settles O9: the write asks the settings store first, and a result that ends a repair takes one off those that run. -/
theorem startUpHoldAndHardRepairs : Obligations.StartUpHoldAndHardRepairs := by
  unfold Obligations.StartUpHoldAndHardRepairs
  refine ⟨fun src v s high may small => ?hold, fun n p status s x high found => ⟨fun ended more => ?ends, execHardRepairResult_busy high found⟩⟩
  case hold =>
    intro b r
    refine ⟨?_, fun _ => ?_, objGet_objSet 0x7050 0 v.toNat, persist_absent⟩
    · change whenReleased s (objectWrite _ _ _ _ _) = _
      rw [whenReleased_high high, objectWrite_performs true may objRow_hold, performWrite_hold src true small]
    · have kept := storeTryKeeps_objsStartAndMem.persist 0x7050 0 1 v.toNat b
      simpa only [objsStartAndMem, Prod.mk.injEq] using kept
  case ends =>
    obtain ⟨t, done, progress⟩ := execHardRepairResult_ends high found ended more
    simp only [Startup.progress, Prod.mk.injEq] at progress
    exact ⟨t, done, progress⟩

end Sys2Proof.Machine
end

section
/-!
Frames of the service link as they come and go (R391 to R394), notices acknowledged and sent again (R418), and the response to a
write that still runs (R400).
-/
namespace Sys2Proof.Machine

/-! ### Frames that arrive (R393, R399) -/

theorem execFrameReceived_dropped {f : Frame} {k : Nat} {s : State} (high : s.released = true) (alive : linkDead s = false)
    (drop : frameDrop s f = some k) :
    exec (.frameReceived f) s = .next (keepFixed s true (s.onSvc fun v => { v with counts := modNth v.counts k (· + 1) })) := by
  change execFrameReceived f s = _
  rw [execFrameReceived, whenReleased_high high]
  simp [alive, drop]

theorem execFrameReceived_accepted {f : Frame} {s : State} (high : s.released = true) (alive : linkDead s = false)
    (take : frameDrop s f = none) :
    exec (.frameReceived f) s =
      .next (keepFixed s true (acceptFrame f (s.onSvc fun v => { v with counts := modNth v.counts 0 (· + 1) }))) := by
  change execFrameReceived f s = _
  rw [execFrameReceived, whenReleased_high high]
  simp [alive, take]

/-- The state once an accepted frame has named its session (R408). -/
def nameSession (mac session : Nat) (s : State) : State := if sessionOpen s mac session then touchSession session s else s

/-- A message of the frame's source, session and transaction waits already. -/
def waitsAlready (f : Frame) (session txn : Nat) (s : State) : Bool :=
  s.svc.inbox.any fun g => g.source == f.source && (frameKey g).2.1 == session && (frameKey g).2.2.1 == txn

/-- A readable message waits for its command. -/
theorem acceptFrame_waits {x : State} {f : Frame} {mac session txn mtype : Nat} (key : frameKey f = (mac, session, txn, mtype))
    (readable : frameStop f.payload = 0)
    (fresh : mtype = 0x21 ∨
      (keptAnswer (nameSession mac session x) mac session txn = none ∧ waitsAlready f session txn (nameSession mac session x) = false)) :
    acceptFrame f x = (nameSession mac session x).onSvc fun v => { v with inbox := v.inbox ++ [f] } := by
  unfold nameSession waitsAlready at *
  by_cases ack : mtype = 0x21
  · simp [acceptFrame, key, readable, ack]
  · obtain ⟨kept, again⟩ := fresh.resolve_left ack
    simp [acceptFrame, key, readable, ack, kept, again]

/-- A repeat of an answered message is answered again (R401). -/
theorem acceptFrame_repeats {x : State} {f : Frame} {mac session txn mtype : Nat} {a : Answer}
    (key : frameKey f = (mac, session, txn, mtype)) (notAck : mtype ≠ 0x21)
    (kept : keptAnswer (nameSession mac session x) mac session txn = some a) :
    acceptFrame f x = repeatAnswer a (nameSession mac session x) := by
  unfold nameSession at *
  simp [acceptFrame, key, notAck, kept]

/-- An unreadable message is answered with its status. -/
theorem acceptFrame_stops {x : State} {f : Frame} {mac session txn mtype : Nat} (key : frameKey f = (mac, session, txn, mtype))
    (unreadable : frameStop f.payload ≠ 0) (notAck : mtype ≠ 0x21)
    (kept : keptAnswer (nameSession mac session x) mac session txn = none)
    (again : waitsAlready f session txn (nameSession mac session x) = false) :
    acceptFrame f x = giveAnswer { mac := mac, session := session, txn := txn, mtype := mtype, status := frameStop f.payload }
      (nameSession mac session x) := by
  unfold nameSession waitsAlready at *
  simp [acceptFrame, key, notAck, unreadable, kept, again]

/-! ### A transmit opportunity (R394) -/

/-- The frame that an answer leaves in. -/
def answerFrame (a : Answer) : Bytes := jenrynFrame a.mtype 1 a.status a.session a.txn a.payload

/-- The oldest answer leaves when it may. -/
theorem sendAnswer_head {s : State} {a : Answer} {rest : List Answer} (out : s.svc.out = a :: rest) (due : answerDue s a = true) :
    sendAnswer s = putFrame a.mac (answerFrame a) (s.onSvc fun v => { v with out := rest, lastNotice := false }) := by
  simp [sendAnswer, answerFrame, out, due, dropFirst, State.onSvc]

theorem sendAnswer_none {s : State} (held : ∀ a ∈ s.svc.out, answerDue s a = false) : sendAnswer s = s := by
  have none : s.svc.out.find? (answerDue s) = none := List.find?_eq_none.mpr fun a mem => by simp [held a mem]
  simp [sendAnswer, none]

theorem execTransmitOpportunity_answers {s : State} (high : s.released = true) (alive : linkDead s = false)
    (first : noticesFor s = [] ∨ (s.svc.lastNotice = true ∧ s.svc.out.any (answerDue s) = true)) :
    exec .transmitOpportunity s = .next (keepFixed s true (sendAnswer s)) := by
  change execTransmitOpportunity s = _
  rw [execTransmitOpportunity, whenReleased_high high]
  obtain none | ⟨last, due⟩ := first
  · simp [alive, none]
  · simp [alive, last, due]

theorem execTransmitOpportunity_notices {s : State} (high : s.released = true) (alive : linkDead s = false) (some : noticesFor s ≠ [])
    (turn : s.svc.out.any (answerDue s) = false ∨ s.svc.lastNotice = false) :
    exec .transmitOpportunity s = .next (keepFixed s true
      (sendNotices (nth (noticesFor s) (Config.choice s.draw % (noticesFor s).length) 0) s.drawn)) := by
  change execTransmitOpportunity s = _
  rw [execTransmitOpportunity, whenReleased_high high]
  obtain held | other := turn
  · simp [alive, some, held]
  · simp [alive, some, other]

/-- A draw among the members of a list takes one of them. -/
theorem nth_mod_length_mem {α : Type} {xs : List α} (some : xs ≠ []) (k : Nat) (d : α) : nth xs (k % xs.length) d ∈ xs := by
  have inside : k % xs.length < xs.length := Nat.mod_lt _ (List.length_pos_iff.mpr some)
  simp [nth, inside]

/-! ### Notices acknowledged (R418) -/

/-- A subscriber acknowledges its kept notices up to a sequence number. -/
def acknowledgeUpTo (n : Nat) (d : Subscriber) : Subscriber := { d with kept := d.kept.filter fun k => !seqReached n k.body.seq }

/-- An acknowledgement of a source, at one subscriber. -/
def acknowledgeAt (mac n i : Nat) (s : State) : State :=
  if (subscription s i).1 = mac then s.onSvc fun v => { v with subs := modNth v.subs i (acknowledgeUpTo n) } else s

theorem acknowledgeAt_other {β : Type} (g : State → β)
    (indifferent : ∀ (s : State) (f : Service → List Subscriber), g (s.onSvc fun v => { v with subs := f v }) = g s)
    (mac n i : Nat) (s : State) : g (acknowledgeAt mac n i s) = g s := by
  unfold acknowledgeAt
  split
  · exact indifferent s _
  · rfl

@[simp] theorem subscription_acknowledgeAt (mac n i j : Nat) (s : State) : subscription (acknowledgeAt mac n j s) i = subscription s i :=
  acknowledgeAt_other (subscription · i) (fun _ _ => rfl) ..

@[simp] theorem subs_length_acknowledgeAt (mac n j : Nat) (s : State) : (acknowledgeAt mac n j s).svc.subs.length = s.svc.subs.length := by
  unfold acknowledgeAt
  split <;> simp [modNth]

theorem subs_acknowledgeAt_self {mac n i : Nat} {s : State} (h : i < s.svc.subs.length) : nth (acknowledgeAt mac n i s).svc.subs i {} =
    if (subscription s i).1 = mac then acknowledgeUpTo n (nth s.svc.subs i {}) else nth s.svc.subs i {} := by
  unfold acknowledgeAt
  split
  · exact nth_modNth_same h ..
  · rfl

theorem subs_acknowledgeAt_other {mac n i j : Nat} {s : State} (h : i ≠ j) :
    nth (acknowledgeAt mac n j s).svc.subs i {} = nth s.svc.subs i {} := by
  unfold acknowledgeAt
  split
  · exact nth_modNth_other h ..
  · rfl

theorem subs_acknowledgeAll_other {mac n i : Nat} {xs : List Nat} (out : i ∉ xs) (s : State) :
    nth (forEach xs (acknowledgeAt mac n) s).svc.subs i {} = nth s.svc.subs i {} := by
  induction xs generalizing s with
  | nil => rfl
  | cons j xs ih =>
    obtain ⟨ne, out⟩ := not_or.mp (mt List.mem_cons.mpr out)
    exact (ih out _).trans (subs_acknowledgeAt_other ne)

/-- Each subscriber of a list without repeats acknowledges once. -/
theorem subs_acknowledgeAll {mac n i : Nat} {xs : List Nat} (once : xs.Nodup) (mem : i ∈ xs) {s : State} (h : i < s.svc.subs.length) :
    nth (forEach xs (acknowledgeAt mac n) s).svc.subs i {} =
      if (subscription s i).1 = mac then acknowledgeUpTo n (nth s.svc.subs i {}) else nth s.svc.subs i {} := by
  induction xs generalizing s with
  | nil => cases mem
  | cons j xs ih =>
    obtain ⟨out, once⟩ := List.nodup_cons.mp once
    by_cases eq : i = j
    · subst eq
      exact (subs_acknowledgeAll_other out _).trans (subs_acknowledgeAt_self h)
    · have later := ih once ((List.mem_cons.mp mem).resolve_left eq) (s := acknowledgeAt mac n j s) (by simpa using h)
      rwa [subscription_acknowledgeAt, subs_acknowledgeAt_other eq] at later

/-- An acknowledgement leaves what is not the link's as it is, and its answers. -/
theorem execNoticeAcknowledge_eq {mac : BitVec 48} {session : Nat} {txn : BitVec 16} {n : BitVec 32} {s : State}
    (high : s.released = true) (alive : linkDead s = false) :
    exec (.noticeAcknowledge (.sp mac session txn) n) s = .next (keepFixed s true
      (forEach (List.range 8) (acknowledgeAt mac.toNat n.toNat)
        (nameSession mac.toNat session (takeFrame mac.toNat session txn.toNat 0x21 s)))) := by
  change execNoticeAcknowledge (.sp mac session txn) n s = _
  rw [execNoticeAcknowledge, whenReleased_high high]
  simp only [alive]
  rfl

theorem nameSession_other {β : Type} (g : State → β)
    (indifferent : ∀ (s : State) (f : Service → List (Nat × Session)), g (s.onSvc fun v => { v with sessions := f v }) = g s)
    (mac session : Nat) (s : State) : g (nameSession mac session s) = g s := by
  unfold nameSession
  split
  · exact indifferent s _
  · rfl

/-- What neither the subscribers, the sessions nor the received frames are part of outlives an acknowledgement. -/
theorem acknowledgeAll_other {β : Type} (g : State → β)
    (noSubs : ∀ (s : State) (f : Service → List Subscriber), g (s.onSvc fun v => { v with subs := f v }) = g s)
    (noSessions : ∀ (s : State) (f : Service → List (Nat × Session)), g (s.onSvc fun v => { v with sessions := f v }) = g s)
    {mac n session : Nat} {xs : List Nat} {s t : State} (taken : g t = g s) :
    g (forEach xs (acknowledgeAt mac n) (nameSession mac session t)) = g s :=
  (forEach_same g (fun i u => acknowledgeAt_other g noSubs mac n i u) xs _).trans
    ((nameSession_other g noSessions mac session t).trans taken)

/-- Every subscriber of an acknowledgement's source drops its kept notices up to the sequence it names. -/
theorem subs_acknowledgeAll_named (mac session txn n : Nat) {i : Nat} {s : State} (eight : s.svc.subs.length = 8) (inside : i < 8) :
    nth (forEach (List.range 8) (acknowledgeAt mac n) (nameSession mac session (takeFrame mac session txn 0x21 s))).svc.subs i {} =
      if (subscription s i).1 = mac then acknowledgeUpTo n (nth s.svc.subs i {}) else nth s.svc.subs i {} := by
  have same : (nameSession mac session (takeFrame mac session txn 0x21 s)).svc.subs = s.svc.subs :=
    nameSession_other (·.svc.subs) (fun _ _ => rfl) ..
  have objs : subscription (nameSession mac session (takeFrame mac session txn 0x21 s)) i = subscription s i :=
    nameSession_other (subscription · i) (fun _ _ => rfl) ..
  rw [subs_acknowledgeAll List.nodup_range (List.mem_range.mpr inside) (by rw [same, eight]; exact inside), same, objs]

/-! ### Settling the obligation -/

/-- Settles O54: each clause is a branch of its row. -/
theorem framesAndNotices : Obligations.FramesAndNotices := by
  refine ⟨fun s high => ⟨?_, ?_, ?_, ?_, ?_, ?_, ?_⟩, fun s high alive => ⟨?_, ?_, ?_, ?_⟩⟩
  · intro f k alive drop
    exact ⟨_, execFrameReceived_dropped high alive drop, rfl, rfl, rfl, rfl, rfl, rfl, rfl⟩
  · exact fun f alive take => execFrameReceived_accepted high alive take
  · exact fun x f mac session txn mtype key => ⟨acceptFrame_waits key, fun a notAck kept => acceptFrame_repeats key notAck kept,
      acceptFrame_stops key⟩
  · intro ok
    exact ⟨_, (whenReleased_high high _ : execPlcaStatusChange ok s = _), rfl, rfl, rfl, rfl, rfl, rfl, rfl⟩
  · intro a rest alive first out left
    have due : answerDue s a = true := by
      simpa [answerDue, Option.all_eq_true] using left
    have any : s.svc.out.any (answerDue s) = true := by simp [out, due]
    refine ⟨_, execTransmitOpportunity_answers high alive (first.imp_right (⟨·, any⟩)), ?_⟩
    rw [sendAnswer_head out due]
    exact ⟨rfl, rfl, rfl, rfl, rfl, rfl, rfl⟩
  · intro alive some turn
    exact ⟨_, nth_mod_length_mem some .., execTransmitOpportunity_notices high alive some
      (turn.imp_left fun held => by simpa using held)⟩
  · intro alive none held
    rw [execTransmitOpportunity_answers high alive (.inl none), sendAnswer_none held]
  · intro mac session txn n eight
    refine ⟨_, execNoticeAcknowledge_eq high alive, ?_⟩
    rw [keepFixed_svc, keepFixed_objs, keepFixed_mem]
    refine ⟨acknowledgeAll_other (·.svc.out) (fun _ _ => rfl) (fun _ _ => rfl) rfl,
      acknowledgeAll_other (·.objs) (fun _ _ => rfl) (fun _ _ => rfl) rfl,
      acknowledgeAll_other (·.mem) (fun _ _ => rfl) (fun _ _ => rfl) rfl, fun i inside => ?_⟩
    rw [subs_acknowledgeAll_named mac.toNat session txn.toNat n.toNat eight inside]
    exact ⟨by split <;> rfl, fun his => by rw [if_pos his]; rfl, fun other => by rw [if_neg other]⟩
  · intro i k old few
    change execNoticeResend i s = _
    rw [execNoticeResend, whenReleased_high high]
    simp [alive, old, few]
  · intro i k old many
    change execNoticeResend i s = _
    rw [execNoticeResend, whenReleased_high high]
    simp [alive, old, Nat.not_lt.mpr many] <;> rfl
  · intro mac session txn a kept running status old
    refine ⟨_, (whenReleased_high high _ : execInProgressResponse (.sp mac session txn) s = _), ?_⟩
    simp [kept, running, status, Nat.not_lt.mpr old, alive, queueAnswer]

end Sys2Proof.Machine
end

section
/-!
Sessions of the service link (R408 to R411) and transfers (R404 to R406).
-/
namespace Sys2Proof.Machine

/-! ### Sessions (R408 to R411) -/

/-- The session that SESSION_OPEN gives. -/
def openedSession (role mac : Nat) (s : State) : Session :=
  { mac := mac, wanted := role, lastFrame := s.clk.hub,
    challenge := if role = 1 then none else some (leBytes 32 (Config.challenge s.draw).toNat, s.clk.hub) }

theorem updWin_svc (w : Nat) (f : Windows → Windows) (s : State) : (updWin w f s).svc = s.svc := rfl
theorem updWin_clk (w : Nat) (f : Windows → Windows) (s : State) : (updWin w f s).clk = s.clk := rfl
theorem updWin_draw (w : Nat) (f : Windows → Windows) (s : State) : (updWin w f s).draw = s.draw := rfl

theorem runOpen_free {role k : Nat} (least : 1 ≤ role) (most : role ≤ 3) {x : State}
    (free : leastFrom (fun k => x.svc.sessions.all (·.1 != k)) 8 1 = some k) (mac session : Nat) :
    (runOpen role mac session x).2.1 = 0 ∧
      (runOpen role mac session x).1.svc.sessions = x.svc.sessions ++ [(k, openedSession role mac x)] := by
  have named : (role = 0 || 3 < role) = false := by simp; omega
  by_cases observer : role = 1
  · simp [runOpen, free, observer, openedSession, updWin_svc, updWin_clk]
  · simp [runOpen, named, free, observer, openedSession, updWin_svc, updWin_clk, updWin_draw]

theorem runOpen_full {role : Nat} (least : 1 ≤ role) (most : role ≤ 3) {x : State}
    (full : leastFrom (fun k => x.svc.sessions.all (·.1 != k)) 8 1 = none) (mac session : Nat) :
    runOpen role mac session x = (x, 0x18, []) := by
  have named : (role = 0 || 3 < role) = false := by simp; omega
  simp [runOpen, named, full]

@[simp] theorem notify_sessions (d : Die) (c v : Nat) (b : Bytes) (s : State) : (notify d c v b s).svc.sessions = s.svc.sessions :=
  notify_same (·.svc.sessions) (fun _ _ _ => rfl) (fun _ _ _ => by simp [portQueue]) (fun _ _ _ => by simp) d c v b s

theorem unlockFailed_sessions (source : Bytes) (role : Nat) (s : State) :
    (unlockFailed source role s).svc.sessions = s.svc.sessions := by
  unfold unlockFailed
  extract_lets now locked s1 s2 recent n s3
  (repeat' split) <;> simp [s1, s2, s3]

theorem runUnlock_right {x : State} {session : Nat} {y : Session} (only : x.svc.sessions = [(session, y)]) {code : Bytes} {mac : Nat}
    (right : unlocks x (beBytes 6 mac) session y.wanted y.challenge code = true) :
    (runUnlock code mac session x).1.svc.sessions = [(session, { y with challenge := none, role := y.wanted })] ∧
      (runUnlock code mac session x).2.1 = 0 := by
  simp [runUnlock, only, right]

theorem runUnlock_wrong {x : State} {session : Nat} {y : Session} (only : x.svc.sessions = [(session, y)]) {code : Bytes} {mac : Nat}
    (wrong : unlocks x (beBytes 6 mac) session y.wanted y.challenge code = false) :
    (runUnlock code mac session x).1.svc.sessions = [(session, { y with challenge := none })] ∧
      (runUnlock code mac session x).2.1 = 0x12 := by
  simp [runUnlock, only, wrong, unlockFailed_sessions]

theorem execSessionIdleTimeout_idle {k : Fin 9} {y : Session} {x : State} (high : x.released = true) (alive : linkDead x = false)
    (opened : x.svc.sessions.find? (·.1 == k.val) = some (k.val, y)) (idle : y.lastFrame + objGet x 0x1111 0 * 1000000000 ≤ x.clk.hub) :
    exec (.sessionIdleTimeout k) x = .next (keepFixed x true (closeSession k x)) := by
  change execSessionIdleTimeout k x = _
  rw [execSessionIdleTimeout, whenReleased_high high]
  simp [opened, alive, Nat.not_lt.mpr idle]

/-! ### Transfers (R404 to R406) -/

theorem runBegin_free {x : State} {w : Bool} {index sub len session id : Nat}
    (allowed : serviceStop x w (sessionRole x session) index sub = 0) (readLength : w = false → len = 0)
    (writeLength : w = true → (writeSizes index sub).1 ≤ len ∧ len ≤ (writeSizes index sub).2 ∧ len ≤ 8388608)
    (free : leastFrom (fun i => (dropStale x).svc.transfers.all (·.1 != i)) 4 1 = some id)
    (alone : ∀ e ∈ (dropStale x).svc.transfers, e.2.session ≠ session) (mac : Nat) :
    let data := if w then [] else valueOf (dropStale x) session index sub
    let n := if w then len else data.length
    runBegin w index sub len mac session x = ((dropStale x).onSvc (fun v => { v with transfers := v.transfers ++ [(id,
       { session := session, write := w, index := index, sub := sub, length := n, data := data, touched := x.clk.hub })] }), 0,
       leBytes 1 id ++ [0, 0, 0] ++ leBytes 4 n ++ leBytes 2 1024 ++ [0, 0]) := by
  have none : ((dropStale x).svc.transfers.any (·.2.session == session)) = false := by simpa using alone
  cases w with
  | false => simp [runBegin, allowed, readLength rfl, free, none] <;> rfl
  | true =>
    obtain ⟨least, most, fits⟩ := writeLength rfl
    simp [runBegin, allowed, Nat.not_lt.mpr least, Nat.not_lt.mpr most, Nat.not_lt.mpr fits, free, none] <;> rfl

section
variable {x : State} {id session : Nat} {t : Transfer} (runs : transferOf x session id = some t)
include runs

theorem runBlock_next {offset : Nat} {data : Bytes} (write : t.write = true) (new : t.last ≠ some offset)
    (inOrder : offset = t.data.length) (inside : offset < t.length) (whole : data.length = Nat.min 1024 (t.length - offset)) (mac : Nat) :
    runBlock id offset data mac session x = (updTransfer id (fun t => { t with data := t.data ++ data, last := some offset })
      (updTransfer id (fun t => { t with touched := x.clk.hub }) x), 0, leBytes 1 id ++ [0, 0, 0] ++ leBytes 4 offset) := by
  simp only [runBlock, runs, write, new, if_true, if_false]
  simp [← inOrder, Nat.not_le.mpr inside, whole]

theorem runBlock_wrongOffset {offset : Nat} {data : Bytes} (write : t.write = true) (new : t.last ≠ some offset)
    (wrong : offset ≠ t.data.length) (mac : Nat) : (runBlock id offset data mac session x).2.1 = 0x16 := by
  simp [runBlock, runs, write, new, wrong]

theorem runBlock_repeated {offset : Nat} {data : Bytes} (write : t.write = true) (again : t.last = some offset) (mac : Nat) :
    runBlock id offset data mac session x =
      (updTransfer id (fun t => { t with touched := x.clk.hub }) x, 0, leBytes 1 id ++ [0, 0, 0] ++ leBytes 4 offset) := by
  simp [runBlock, runs, write, again]

theorem runBlock_read {offset : Nat} (read : t.write = false) (aligned : offset % 1024 = 0) (inside : offset < t.length) (mac : Nat) :
    runBlock id offset [] mac session x = (updTransfer id (fun t => { t with touched := x.clk.hub }) x, 0,
      leBytes 1 id ++ [0, 0, 0] ++ leBytes 4 offset ++ slice t.data offset (Nat.min 1024 (t.length - offset))) := by
  simp [runBlock, runs, read, aligned, Nat.not_le.mpr inside]

theorem runEnd_read (read : t.write = false) (src : Src) (crc mac : Nat) :
    runEnd src id crc mac session x = (endTransfer id x, 0, leBytes 1 id ++ [0, 0, 0] ++ leBytes 4 (crc32c t.data)) := by
  simp [runEnd, runs, read]

theorem runEnd_write {crc : Nat} {o : ObjRow} (write : t.write = true) (complete : t.data.length = t.length)
    (agrees : crc32c t.data = crc) (obj : objRow t.index t.sub = some o) (src : Src) (mac : Nat) :
    runEnd src id crc mac session x =
      ((performWrite src true t.index t.sub o t.data (endTransfer id x)).1,
        (performWrite src true t.index t.sub o t.data (endTransfer id x)).2, leBytes 1 id ++ [0, 0, 0] ++ leBytes 4 crc) := by
  simp [runEnd, runs, write, complete, agrees, obj]

theorem runEnd_refused {crc : Nat} (write : t.write = true) (wrong : t.data.length ≠ t.length ∨ crc32c t.data ≠ crc) (src : Src)
    (mac : Nat) : runEnd src id crc mac session x = (endTransfer id x, 0x13, []) := by
  simp [runEnd, runs, write, wrong]

theorem runAbort_runs (mac : Nat) : runAbort id mac session x = (endTransfer id x, 0, leBytes 1 id ++ [0, 0, 0]) := by
  simp [runAbort, runs]

end

theorem execTransferTimeout_old {id : Nat} {x : State} (high : x.released = true) (alive : linkDead x = false)
    (old : ∀ e ∈ x.svc.transfers, e.1 = id → e.2.touched + 10000000000 ≤ x.clk.hub) :
    exec (.transferTimeout id) x = .next (keepFixed x true (endTransfer id x)) := by
  have none : x.svc.transfers.any (fun t => t.1 == id && decide (x.clk.hub < t.2.touched + 10000000000)) = false := by
    simpa using fun n t mem same => old (n, t) mem same
  change execTransferTimeout id x = _
  rw [execTransferTimeout, whenReleased_high high]
  simp [alive, none]

/-! ### Settling the obligation -/

/-- Settles O55, row by row: sessions first, then transfers. -/
theorem sessionsAndTransfers : Obligations.SessionsAndTransfers := by
  refine ⟨fun x mac session => ⟨?_, ?_, ?_, rfl, ?_⟩, ?_, fun x id session mac t runs => ⟨?_, ?_, ?_, ?_, ?_, ?_, ?_, ?_⟩⟩
  · intro role k least most free
    obtain ⟨done, sessions⟩ := runOpen_free least most free mac session
    refine ⟨done, openedSession role mac x, by simp [sessions], rfl, rfl, rfl, ?_⟩
    simp only [openedSession]
    split <;> simp [*]
  · exact fun full role least most => runOpen_full least most full mac session
  · exact fun code y only => ⟨runUnlock_right only, runUnlock_wrong only⟩
  · intro k y high alive opened idle
    exact ⟨_, execSessionIdleTimeout_idle high alive opened idle, rfl, fun e mem => by simpa using List.of_mem_filter mem,
      fun e mem => by simpa using List.of_mem_filter mem, rfl, rfl, rfl⟩
  · exact fun x w index sub len mac session id allowed readLength writeLength free alone =>
      runBegin_free allowed readLength writeLength free alone mac
  · exact fun offset data write new =>
      ⟨fun inOrder inside whole => congrArg (·.2.1) (runBlock_next runs write new inOrder inside whole mac),
        fun inOrder inside whole => congrArg (·.1) (runBlock_next runs write new inOrder inside whole mac),
        fun wrong => runBlock_wrongOffset runs write new wrong mac⟩
  · exact fun offset data write again => runBlock_repeated runs write again mac
  · exact fun offset read aligned inside => runBlock_read runs read aligned inside mac
  · exact fun src crc read => runEnd_read runs read src crc mac
  · exact fun src crc o write complete agrees obj => runEnd_write runs write complete agrees obj src mac
  · exact fun src crc write wrong => runEnd_refused runs write wrong src mac
  · exact runAbort_runs runs mac
  · intro high alive old
    exact ⟨_, execTransferTimeout_old high alive old, fun e mem => by simpa using List.of_mem_filter mem, rfl, rfl, rfl, rfl⟩

end Sys2Proof.Machine
end

section
/-!
Lost channels and their rebuild (R246, R247, R448, R449).
-/
namespace Sys2Proof.Machine

/-- The slot a lost channel is rebuilt from: the source of what runs on the channel, else the slot that serves it. -/
def lostSlot (s : State) (g c0 : Nat) : Nat := match rehomeAt s g with
  | some h => h.source
  | none => c0

/-- Notice 0x7060 of a lost channel. -/
def sayLost (g c condition : Nat) (s : State) : State :=
  notify (medOf g) 0x7060 2 (leBytes 2 g ++ leBytes 1 (c % 66) ++ leBytes 1 condition) s

theorem execChannelLost_serves {n : Fin 32} {ch : Fin 64} {condition : Fin 6} {c0 : Nat} {s : State} (high : s.released = true)
    (serves : servingSlot s (64 * n.val + ch.val) = some c0) (shows_ : condition ≠ 0)
    (first : ∀ h ∈ s.rehomes, h.gch = 64 * n.val + ch.val → h.kind ≠ 2) (enabled : s.variant.enables n = true) :
    let g := 64 * n.val + ch.val
    let s1 := sayLost g (lostSlot s g c0) condition s
    exec (.channelLost n ch condition) s =
      .next (keepFixed s true (if inSlate s1 (quadOf g) then s1 else beginRebuild g (lostSlot s g c0) s1)) := by
  have notLost : (s.rehomes.any fun h => h.kind == 2 && h.gch == 64 * n.val + ch.val) = false := by
    simpa using fun h mem kind gch => first h mem gch kind
  have named : condition.val ≠ 0 := fun zero => shows_ (Fin.ext zero)
  change execChannelLost n ch condition s = _
  rw [execChannelLost, whenReleased_high high]
  simp only [serves, notLost, named, enabled]
  rfl

/-! ### A rebuild begins -/

/-- Notice 0x4020 of a rebuild that begins. -/
def sayRebuild (g : Nat) (s : State) : State :=
  notify .hub 0x4020 1 (leBytes 2 g ++ leBytes 4 (channelHolds s g).1 ++ leBytes 4 (channelHolds s g).2.length) s

theorem sayRebuild_touched (g k b r : Nat) (s : State) : touched (sayRebuild g s) k b r = touched s k b r := by
  simp [sayRebuild, touched]

/-- A rebuild that overtakes nothing: into the lowest good spare, else into foster frames. -/
def placeRebuild (g c : Nat) (s : State) : State := match goodSpares s (g / 64) with
  | d :: _ => (updChan (slotNo (g / 64) d) (fun x => { x with sectors := [] }) (stopTests (slotTarget (slotNo (g / 64) d)) 2 s)).onRehomes
      (· ++ [{ kind := 2, gch := g, source := c, dest := some (slotNo (g / 64) d) }])
  | [] => beginMapPass ((installRecords g none s).1.onRehomes
      (· ++ [{ kind := 2, gch := g, source := c, dest := none, frames := (installRecords g none s).2 }]))

theorem rehomeAt_loseTouch (g k : Nat) (s : State) : rehomeAt (loseTouch g s) k = rehomeAt s k := rfl

theorem beginRebuild_fresh {g c : Nat} {s : State} (none : rehomeAt s g = none) : beginRebuild g c s =
    moveUnits c g (moveEntries c g (fun _ => false) (sayRebuild g (placeRebuild g c (loseTouch g s)))) := by
  rw [← rehomeAt_loseTouch g g s] at none
  simp only [beginRebuild, none, placeRebuild]
  cases goodSpares (loseTouch g s) (g / 64) <;> rfl

/-- What ran on the channel goes on as the rebuild. -/
def overtake (g : Nat) (h : Rehome) (s : State) : State :=
  if h.kind = 1 then updRehome g (fun h => { h with kind := 2 }) s else lapseMapOut h s

/-- The writes that the new home of an overtaken channel holds already. -/
def overtaken (g : Nat) (h : Rehome) (kept : List (Nat × Nat)) (s : State) (e : Sect) : Bool :=
  let f := frameOfRow e.bank e.row + e.slot / 64
  (h.kind == 1 && decide (rowIndex e.bank e.row < h.cursor) && touched s g e.bank e.row)
    || kept.any fun k => decide (k.1 ≤ f) && decide (f < k.1 + k.2)

theorem overtaken_sayRebuild (g : Nat) (h : Rehome) (kept : List (Nat × Nat)) (s : State) :
    overtaken g h kept (sayRebuild g s) = overtaken g h kept s := by
  funext e
  simp only [overtaken, sayRebuild_touched]

theorem beginRebuild_overtakes {g c : Nat} {h : Rehome} {s : State} (runs : rehomeAt (loseTouch g s) g = some h) :
    let s2 := overtake g h (loseTouch g s)
    beginRebuild g c s = moveUnits c g (moveEntries c g (overtaken g h (((rehomeAt s2 g).map (·.kept)).getD []) (sayRebuild g s2))
      (sayRebuild g s2)) := by
  intro s2
  rw [overtaken_sayRebuild]
  simp only [beginRebuild, runs]
  rfl

/-! ### A rebuild ends (R247, R449) -/

/-- A rebuilt channel is served from its new slot, or its touch bits go with it. -/
def rebuiltHome (g : Nat) (h : Rehome) (rows : List (Nat × Nat)) (s : State) : State := match h.dest with
  | some d => switchSlot g d 2 (dropRehome g s)
  | none => forEach rows (fun r s => clearTouch g r.1 r.2 s) (dropRehome g s)

theorem execChannelRebuildComplete_runs {n : Fin 32} {ch : Fin 64} {h : Rehome} {s : State} (high : s.released = true)
    (runs : rehomeAt s (64 * n.val + ch.val) = some h) (rebuild : h.kind = 2) (goes : quadStops s (n / 8) = false) :
    let g := 64 * n.val + ch.val
    let rows := touchedRows s g h.cursor
    let s1 := forEach (rows.filter fun r => !h.ahead.contains (rowIndex r.1 r.2)) (fun r s => rebuildRow (g, r.1, r.2) s) s
    let done := (rehomeAt s1 g).getD h
    let s2 := retireRebuilt done rows (rebuiltHome g h rows s1)
    let s3 := reportLoss g (channelHolds s1 g).2
      (notify .hub 0x4021 0 (leBytes 2 g ++ leBytes 4 done.rebuilt ++ leBytes 4 done.poisoned) (recovered 6000 s2))
    exec (.channelRebuildComplete n ch) s =
      .next (keepFixed s true (startWaiting (if h.dest.isNone then finishMapOut g h.frames s3 else s3))) := by
  change execChannelRebuildComplete n ch s = _
  rw [execChannelRebuildComplete, whenReleased_high high]
  have stays : (h.kind != 2 || quadStops s (n / 8)) = false := by simp [rebuild, goes]
  cases dest : h.dest <;> simp only [runs, stays, dest, rebuiltHome, Bool.false_eq_true, if_false]

/-! ### Settling the obligation -/

/-- Settles O48: what a loss shows, what its rebuild begins with, and what the end of the rebuild leaves. -/
theorem lostChannelsAreRebuilt : Obligations.LostChannelsAreRebuilt := by
  intro n ch s high g
  refine ⟨fun condition c0 serves shows_ first enabled => ?_, fun h runs rebuild goes => ?_⟩
  · intro c s1
    have lost : exec (.channelLost n ch condition) s =
        .next (keepFixed s true (if inSlate s1 (quadOf g) then s1 else beginRebuild g c s1)) :=
      execChannelLost_serves high serves shows_ first enabled
    have same : rehomeAt s1 g = rehomeAt s g := by simp [s1, rehomeAt]
    refine ⟨fun slate => ?_, fun serving => ⟨?_, fun none => ?_, fun h runs => ?_⟩⟩
    · rw [lost, if_pos slate]
    · rw [lost, if_neg (by simp [serving])]
    · exact beginRebuild_fresh (same.trans none)
    · exact beginRebuild_overtakes runs
  · exact execChannelRebuildComplete_runs high runs rebuild goes

end Sys2Proof.Machine
end

section
/-!
What the work of a quadrant that is reset, leaves the slots it has, or is given up leaves alone: the steady part of the state (R108,
R347, R439, R450, R454).
-/
namespace Sys2Proof.Machine

/-! ### Units of the tree, passes, Outings -/

@[simp] theorem steady_retireUnits (p : TUnit → Bool) (s : State) : steady (retireUnits p s) = steady s := by
  simp [retireUnits, steady_forEach]

@[simp] theorem steady_retirePassUnits (p : Nat → TUnit → Bool) (s : State) : steady (retirePassUnits p s) = steady s :=
  steady_retireUnits ..

@[simp] theorem steady_endScrubIn (q : Nat) (s : State) : steady (endScrubIn q s) = steady s := by simp [endScrubIn]

@[simp] theorem steady_cancelOutings (q cause : Nat) (s : State) : steady (cancelOutings q cause s) = steady s := by
  refine steady_forEach (fun o t => ?_) _ _
  dsimp only
  split <;> simp

@[simp] theorem steady_updBag (q i idx b : Nat) (f : Bag → Bag) (s : State) : steady (updBag q i idx b f s) = steady s := by rfl
@[simp] theorem steady_dropBagRows (q i idx b : Nat) (s : State) : steady (dropBagRows q i idx b s) = steady s := by rfl

@[simp] theorem steady_restartBags (q : Nat) (s : State) : steady (restartBags q s) = steady s := by
  unfold restartBags
  extract_lets runs hits t
  split
  · rfl
  · simp [t, steady_forEach]

/-! ### Regulation queues and the hub's heads -/

@[simp] theorem steady_recompute (cause : Nat) (s : State) : steady (recompute cause s) = steady s := by rfl

@[simp] theorem steady_examineHeads (before s : State) : steady (examineHeads before s) = steady s := by
  refine steady_forEach (fun e t => ?_) _ _
  split <;> simp

@[simp] theorem steady_retryHeads (s : State) : steady (retryHeads s) = steady s := by
  refine (steady_pumpHub _).trans (steady_forEach (fun e t => ?_) _ _)
  split <;> simp

@[simp] theorem steady_leaveSelfRefresh (c : Nat) (s : State) : steady (leaveSelfRefresh c s) = steady s := by
  unfold leaveSelfRefresh
  split
  · rfl
  · refine (steady_updChan ..).trans ((steady_forEach (fun w t => ?_) _ _).trans (steady_sendNow ..))
    split <;> simp

/-! ### Requests refused (R450, R454) -/

@[simp] theorem steady_copyRefused (id : Nat) (s : State) : steady (copyRefused id s) = steady s := by rfl

@[simp] theorem steady_refuse (r : Req) (s : State) : steady (refuse r s) = steady s := by
  unfold refuse
  extract_lets t u answer
  have left : steady u = steady s := by simp [u, t]
  split
  · simp [steady_forEach, left, answer]
  · split
    · simp [left, answer]
    · split
      · simp [left]
      · split
        · simp only [steady_pumpDue, steady_dropReq]
          split <;> simp [left]
        · simp [left]

@[simp] theorem steady_refuseWaiting (q : Nat) (s : State) : steady (refuseWaiting q s) = steady s := by
  simp [refuseWaiting, steady_forEach]

/-! ### Moves and rehomings given up (R347) -/

@[simp] theorem steady_abandonMove (seg cause : Nat) (s : State) : steady (abandonMove seg cause s) = steady s := by
  unfold abandonMove
  split
  · rfl
  · exact steady_notify ..

@[simp] theorem steady_cancelCopy (id : Nat) (s : State) : steady (cancelCopy id s) = steady s := by
  unfold cancelCopy
  split <;> simp

@[simp] theorem steady_dropRehome (g : Nat) (s : State) : steady (dropRehome g s) = steady s := by rfl

@[simp] theorem steady_loseRead (e : Sect) (s : State) : steady (loseRead e s) = steady s := by
  unfold loseRead
  split
  · rfl
  · split <;> simp

@[simp] theorem steady_requeue (g : Nat) (e : Sect) (s : State) : steady (requeue g e s) = steady s := by
  unfold requeue
  split
  · simp
  · extract_lets t write moved x full
    split <;> simp [t]

@[simp] theorem steady_enterLocked (id : Nat) (s : State) : steady (enterLocked id s) = steady s := by
  unfold enterLocked
  split
  · rfl
  · extract_lets t cmds x before u
    have members : steady u = steady s := by simp [u, t, steady_forEach]
    split <;> simp [members]

@[simp] theorem steady_moveEntries (c g : Nat) (doubled : Sect → Bool) (s : State) :
    steady (moveEntries c g doubled s) = steady s := by
  simp [moveEntries, moveEntriesIf, steady_forEach]

@[simp] theorem steady_updSeg (n : Nat) (f : Seg → Seg) (s : State) : steady (updSeg n f s) = steady s := by rfl

@[simp] theorem steady_abandonRehome (h : Rehome) (s : State) : steady (abandonRehome h s) = steady s := by
  unfold abandonRehome
  extract_lets t u v
  have cancelled : steady t = steady s := by
    simp only [t]
    split <;> simp
  have moved : steady v = steady s := by
    simp only [v]
    split <;> simp [u, cancelled]
  split
  · exact moved
  · exact moved

@[simp] theorem steady_refreshFostered (s : State) : steady (refreshFostered s).1 = steady s := by
  refine forEach_same (fun acc : State × Nat => steady acc.1) (fun x acc => ?_) _ (s, 0)
  dsimp only
  split
  · rfl
  · split <;> rfl

@[simp] theorem steady_abandonRehomes (q : Nat) (s : State) : steady (abandonRehomes q s) = steady s := by
  unfold abandonRehomes
  extract_lets mine t
  have given : steady t = steady s := steady_forEach steady_abandonRehome mine s
  split <;> simp [given]

/-! ### Routes that change (R108, R445) -/

@[simp] theorem steady_replaceUnit (u : TUnit) (s : State) : steady (replaceUnit u s) = steady s := by rfl

@[simp] theorem steady_relaneUnit (u : TUnit) (s : State) : steady (relaneUnit u s) = steady s := by
  unfold relaneUnit
  extract_lets laneOf lanes t v
  split
  · rfl
  · split
    · rfl
    · refine (steady_forEach (fun x w => ?_) _ _).trans ?_
      · dsimp only
        split <;> simp
      · simp only [v]
        split <;> simp

@[simp] theorem steady_rerouteNow (q cause : Nat) (s : State) : steady (rerouteNow q cause s) = steady s := by
  simp [rerouteNow, relane, steady_forEach]

end Sys2Proof.Machine
end

section
/-!
Quadrant resets: their rows, and what a reset and Slate mode make of the quadrant (R439, R440).
-/
namespace Sys2Proof.Machine

/-! ### Object 0x7020 -/

theorem objRow_quadReset (q : Fin 4) : objRow 0x7020 (q + 1) = some ⟨0x7020, 1, 4, 1, 1, 2, 3, 0, 0, 255⟩ := by
  fin_cases q <;> decide +kernel

/-- A write of 1, 2 or 3 is accepted where the quadrant takes it. -/
theorem performWrite_quadReset {src : Src} {ends : Bool} {q : Nat} {v : BitVec 8} {x : State} (takes : quadResetAllowed x q v.toNat = true) :
    performWrite src ends 0x7020 (q + 1) ⟨0x7020, 1, 4, 1, 1, 2, 3, 0, 0, 255⟩ [v] x = doneWrite (writeQuadReset q v.toNat ends x) := by
  simp [performWrite, variableSize, isBlobCommand, writeCommand, onlyIf, leNat, takes]

theorem quadReset_wrote {src : Src} {q : Fin 4} {v : BitVec 8} {ends : Bool} {s : State} (high : s.released = true)
    (may : mayWrite s src 0x7020 (q + 1) [v] = true)
    (takes : quadResetAllowed (beforeWrite src 0x7020 (q + 1) [v] s) q v.toNat = true) :
    whenReleased s (objectWrite src ends 0x7020 (q + 1) [v]) =
      .next (wrote src 0x7020 (q + 1) [v] (writeQuadReset q v.toNat ends) s) := by
  rw [whenReleased_high high, objectWrite_performs ends may (objRow_quadReset q), performWrite_quadReset takes]
  rfl

section
variable {src : Src} {q : Fin 4} {ends : Bool} {s : State} (high : s.released = true)
include high

theorem exec_quadrantReset (may : mayWrite s src 0x7020 (q + 1) [1] = true)
    (takes : quadResetAllowed (beforeWrite src 0x7020 (q + 1) [1] s) q 1 = true) :
    exec (.quadrantReset src q ends) s = .next (wrote src 0x7020 (q + 1) [1] (resetQuad q 1 false ends) s) := by
  change execQuadrantReset src q ends s = _
  exact quadReset_wrote (v := 1) high may takes

theorem exec_quadrantResetAndHold (may : mayWrite s src 0x7020 (q + 1) [2] = true)
    (takes : quadResetAllowed (beforeWrite src 0x7020 (q + 1) [2] s) q 2 = true) :
    exec (.quadrantResetAndHold src q ends) s = .next (wrote src 0x7020 (q + 1) [2] (resetQuad q 1 true ends) s) := by
  change execQuadrantResetAndHold src q ends s = _
  exact quadReset_wrote (v := 2) high may takes

theorem exec_quadrantReleaseHold (may : mayWrite s src 0x7020 (q + 1) [3] = true)
    (takes : quadResetAllowed (beforeWrite src 0x7020 (q + 1) [3] s) q 3 = true) :
    exec (.quadrantReleaseHold src q) s =
      .next (wrote src 0x7020 (q + 1) [3] (fun x => endReset q 6000 (stopTests (liveTarget x q) 2 x)) s) := by
  change execQuadrantReleaseHold src q s = _
  exact quadReset_wrote (v := 3) high may takes

end

/-! ### The quadrants' own states and the clocks -/

/-- What the work of a reset leaves alone: each quadrant but for what traffic counts in it, and the clocks. -/
def calmQuads (s : State) := (s.quads.map Quad.calm, s.clk)

theorem calmQuads_of_steady {s t : State} (same : steady t = steady s) : calmQuads t = calmQuads s :=
  congrArg (fun x : State => (x.quads, x.clk)) same

theorem calmQuads_stopTests (hit : Target → Bool) (outcome : Nat) (s : State) : calmQuads (stopTests hit outcome s) = calmQuads s := rfl
theorem calmQuads_countRecovery (ns : Nat) (s : State) : calmQuads (countRecovery ns s) = calmQuads s := rfl

/-- The calm part of a quadrant holds its state, its cause of Slate mode and its reset. -/
theorem Quad.own_of_calm {a b : Quad} (same : a.calm = b.calm) :
    a.st = b.st ∧ a.slate = b.slate ∧ a.resetAt = b.resetAt ∧ a.atStep6 = b.atStep6 ∧ a.resetDone = b.resetDone :=
  ⟨(congrArg Quad.st same :), (congrArg Quad.slate same :), (congrArg Quad.resetAt same :), (congrArg Quad.atStep6 same :),
    (congrArg Quad.resetDone same :)⟩

section
variable {s t : State} (same : calmQuads t = calmQuads s)
include same

theorem clk_of_calmQuads : t.clk = s.clk := (Prod.mk.inj same).2

theorem quads_length_of_calmQuads : t.quads.length = s.quads.length := by
  simpa using congrArg List.length (Prod.mk.inj same).1

theorem calm_of_calmQuads (q : Nat) : (quadAt t q).calm = (quadAt s q).calm := by
  rw [quadAt, quadAt, ← nth_map Quad.calm, ← nth_map Quad.calm, (Prod.mk.inj same).1]

end

/-- Calm work before or after a change of one quadrant leaves that quadrant as the change makes it. -/
theorem calm_updQuad {f : Quad → Quad} (calm : ∀ k, (f k).calm = (f k.calm).calm) {q : Nat} {s t u : State} (inside : q < s.quads.length)
    (before : calmQuads t = calmQuads s) (after : calmQuads u = calmQuads (updQuad q f t)) :
    (quadAt u q).calm = (f (quadAt s q)).calm := by
  rw [calm_of_calmQuads after, quadAt_updQuad_same (by rwa [quads_length_of_calmQuads before]), calm, calm_of_calmQuads before, ← calm]

/-! ### A reset (R439) -/

/-- A quadrant whose reset starts. -/
def Quad.reset (objs : List (Nat × Nat)) (hub : Nat) (hold stateCheck : Bool) (k : Quad) : Quad :=
  { k with st := .held, applied := k.applied.or (some objs), hold := hold, resetAt := some hub, atStep6 := false, stateCheck := stateCheck }

/-- The first step of a reset: the quadrant is held, what it ran for others ends. -/
def startReset (q cause : Nat) (hold : Bool) (s : State) : State :=
  let s := updQuad q (Quad.reset s.objs s.clk.hub hold (cause == 2)) s
  endScrubIn q (notify .hub 0x7030 1 (leBytes 1 q ++ leBytes 1 cause) (stopTests (liveTarget s q) 2 (lapseTickets s)))

/-- A reset starts; where its steps end it waits at step 6 or ends. -/
theorem resetQuad_eq (q cause : Nat) (hold ends : Bool) (s : State) : resetQuad q cause hold ends s =
    if !ends then startReset q cause hold s
    else if hold then updQuad q (fun k => { k with atStep6 := true }) (resetBody q (startReset q cause hold s))
    else endReset q 40000 (resetBody q (startReset q cause hold s)) := rfl

theorem calmQuads_startReset (q cause : Nat) (hold : Bool) (s : State) :
    calmQuads (startReset q cause hold s) = calmQuads (updQuad q (Quad.reset s.objs s.clk.hub hold (cause == 2)) s) := by
  refine (calmQuads_of_steady ((steady_endScrubIn ..).trans (steady_notify ..))).trans ((calmQuads_stopTests ..).trans ?_)
  exact calmQuads_of_steady (steady_lapseTickets _)

theorem steady_resetBody (q : Nat) (s : State) : steady (resetBody q s) = steady s := by
  simp [resetBody, steady_forEach]

theorem calm_startReset {q : Nat} {s : State} (inside : q < s.quads.length) (cause : Nat) (hold : Bool) :
    (quadAt (startReset q cause hold s) q).calm = (Quad.reset s.objs s.clk.hub hold (cause == 2) (quadAt s q)).calm :=
  calm_updQuad (fun _ => rfl) inside rfl (calmQuads_startReset q cause hold s)

/-! ### Its end -/

/-- A quadrant whose reset ends. -/
def Quad.resetOver (hub : Nat) (k : Quad) : Quad :=
  { k with st := if k.st = .offline then .offline else .normal, applied := none, hold := false, resetAt := none, atStep6 := false,
           resetDone := some hub, stateCheck := false }

/-- The time of a reset is drawn, and counted where the reset was a recovery. -/
def countReset (q bound : Nat) (s : State) : State :=
  let (d, s) := drawUpTo bound s
  let k := quadAt s q
  if k.stateCheck then countRecovery ((s.clk.hub - (k.resetAt.getD s.clk.hub)) + d) s else s

theorem calmQuads_countReset (q bound : Nat) (s : State) : calmQuads (countReset q bound s) = calmQuads s := by
  exact (apply_ite calmQuads _ _ _).trans (ite_self _)

theorem calmQuads_endReset (q bound : Nat) (s : State) :
    calmQuads (endReset q bound s) = calmQuads (updQuad q (Quad.resetOver s.clk.hub) (countReset q bound s)) := by
  refine (calmQuads_of_steady ((steady_retryHeads _).trans ((steady_pumpHub _).trans (steady_notify ..)))).trans ?_
  change calmQuads (updQuad q (Quad.resetOver (countReset q bound s).clk.hub) (countReset q bound s)) = _
  rw [clk_of_calmQuads (calmQuads_countReset q bound s)]

theorem calm_endReset {q : Nat} {s : State} (inside : q < s.quads.length) (bound : Nat) :
    (quadAt (endReset q bound s) q).calm = ((quadAt s q).resetOver s.clk.hub).calm :=
  calm_updQuad (fun _ => rfl) inside (calmQuads_countReset q bound s) (calmQuads_endReset q bound s)

/-- A reset whose steps do not end keeps the quadrant held. -/
theorem calm_resetQuad_stays {q : Nat} {s : State} (inside : q < s.quads.length) (cause : Nat) :
    (quadAt (resetQuad q cause false false s) q).calm = (Quad.reset s.objs s.clk.hub false (cause == 2) (quadAt s q)).calm :=
  calm_startReset inside cause false

/-- A reset whose steps end leaves the quadrant normal. -/
theorem calm_resetQuad_ends {q : Nat} {s : State} (inside : q < s.quads.length) (cause : Nat) :
    (quadAt (resetQuad q cause false true s) q).calm =
      ((Quad.reset s.objs s.clk.hub false (cause == 2) (quadAt s q)).resetOver s.clk.hub).calm := by
  have body : calmQuads (resetBody q (startReset q cause false s)) = calmQuads (startReset q cause false s) :=
    calmQuads_of_steady (steady_resetBody ..)
  have start := calmQuads_startReset q cause false s
  have clk : (resetBody q (startReset q cause false s)).clk = s.clk := (clk_of_calmQuads body).trans ((clk_of_calmQuads start).trans rfl)
  have here : q < (resetBody q (startReset q cause false s)).quads.length := by
    rw [quads_length_of_calmQuads body, quads_length_of_calmQuads start]
    simpa [updQuad, modNth] using inside
  have began := (calm_of_calmQuads body q).trans (calm_startReset inside cause false)
  change (quadAt (endReset q 40000 (resetBody q (startReset q cause false s))) q).calm = _
  rw [calm_endReset here, clk]
  have over_ := congrArg (fun k : Quad => (k.resetOver s.clk.hub).calm) began
  exact over_

/-- A reset with hold whose steps end waits at step 6. -/
theorem calm_resetQuad_holds {q : Nat} {s : State} (inside : q < s.quads.length) (cause : Nat) :
    (quadAt (resetQuad q cause true true s) q).calm =
      ({ Quad.reset s.objs s.clk.hub true (cause == 2) (quadAt s q) with atStep6 := true } : Quad).calm := by
  have body : calmQuads (resetBody q (startReset q cause true s)) = calmQuads (startReset q cause true s) :=
    calmQuads_of_steady (steady_resetBody ..)
  have start := calmQuads_startReset q cause true s
  have here : q < (startReset q cause true s).quads.length := by
    rw [quads_length_of_calmQuads start]
    simpa [updQuad, modNth] using inside
  have waits : (quadAt (resetQuad q cause true true s) q).calm =
      ({ quadAt (startReset q cause true s) q with atStep6 := true } : Quad).calm :=
    calm_updQuad (f := fun k => { k with atStep6 := true }) (fun _ => rfl) here body rfl
  have began := congrArg (fun k : Quad => { k with atStep6 := true }) (calm_startReset inside cause true)
  exact waits.trans began

/-! ### Slate mode (R440, R453) -/

/-- A quadrant that enters Slate mode. -/
def Quad.slated (objs : List (Nat × Nat)) (cause : Nat) (k : Quad) : Quad :=
  { k with st := if k.st = .offline then .offline else .slate, applied := k.applied.or (some objs), slate := cause, hold := false,
           resetAt := none, atStep6 := false, stateCheck := false }

/-- The reset of a quadrant that enters Slate mode goes through its steps first. -/
def resetFirst (q : Nat) (s : State) : State :=
  if (quadAt s q).resetAt.isSome && !(quadAt s q).atStep6 then resetBody q s else s

theorem steady_resetFirst (q : Nat) (s : State) : steady (resetFirst q s) = steady s := by
  unfold resetFirst
  split
  · exact steady_resetBody q s
  · rfl

theorem calmQuads_enterSlate {q : Nat} {s : State} (out : (quadAt s q).slate = 0) (cause : Nat) :
    calmQuads (enterSlate q cause s) = calmQuads (updQuad q (Quad.slated (resetFirst q s).objs cause) (resetFirst q s)) := by
  have moves : ∀ xs t, steady (forEach xs (fun (m : Move) s => abandonMove m.seg (Config.choice s.draw % 256) s.drawn) t) = steady t :=
    steady_forEach fun m t => (steady_abandonMove ..).trans (steady_drawn t)
  have stops : ∀ t, calmQuads (forEach (List.range 4) (fun k s => stopTests (liveTarget s k) 2 s) t) = calmQuads t :=
    forEach_same calmQuads (fun k t => calmQuads_stopTests ..) _
  unfold enterSlate
  rw [if_neg (by simp [out])]
  extract_lets runs s1 s2 s3 gone s4 s5 s6
  have given : steady s5 = steady s2 := by simp [s5, s4, s3, moves]
  have stopped : calmQuads s6 = calmQuads s5 := by
    simp only [s6]
    split
    · exact stops s5
    · rfl
  have refused : calmQuads (recompute 4 (refuseWaiting q s6)) = calmQuads s6 :=
    calmQuads_of_steady ((steady_recompute ..).trans (steady_refuseWaiting ..))
  exact refused.trans (stopped.trans (calmQuads_of_steady given))

theorem calm_enterSlate {q : Nat} {s : State} (inside : q < s.quads.length) (out : (quadAt s q).slate = 0) (cause : Nat) :
    (quadAt (enterSlate q cause s) q).calm = (Quad.slated (resetFirst q s).objs cause (quadAt s q)).calm :=
  calm_updQuad (fun _ => rfl) inside (calmQuads_of_steady (steady_resetFirst q s)) (calmQuads_enterSlate out cause)

/-! ### The rows without a write -/

section
variable {q : Fin 4} {ends : Bool} {s : State} (high : s.released = true)
include high

theorem execStateCheckError_resets (normal : (quadAt s q).st = .normal) (idle : (quadAt s q).resetAt = none)
    (long : ∀ d, (quadAt s q).resetDone = some d → d + 1000000000 ≤ s.clk.hub) :
    exec (.stateCheckError q ends) s = .next (keepFixed s true (resetQuad q 2 false ends s)) := by
  change execStateCheckError q ends s = _
  rw [execStateCheckError, whenReleased_high high]
  cases done : (quadAt s q).resetDone with
  | none => simp [normal, idle, done]
  | some d => simp [normal, idle, done, Nat.not_lt.mpr (long d done)]

theorem execStateCheckError_slates (normal : (quadAt s q).st = .normal) (idle : (quadAt s q).resetAt = none) {d : Nat}
    (done : (quadAt s q).resetDone = some d) (soon : s.clk.hub < d + 1000000000) :
    exec (.stateCheckError q ends) s = .next (keepFixed s true (enterSlate q 5 s)) := by
  change execStateCheckError q ends s = _
  rw [execStateCheckError, whenReleased_high high]
  simp [normal, idle, done, soon]

theorem execQuadrantResetTimeout_slates {t0 : Nat} (runs : (quadAt s q).resetAt = some t0) (early : (quadAt s q).atStep6 = false)
    (late : t0 + 40000 ≤ s.clk.hub) : exec (.quadrantResetTimeout q) s = .next (keepFixed s true (enterSlate q 5 s)) := by
  change execQuadrantResetTimeout q s = _
  rw [execQuadrantResetTimeout, whenReleased_high high]
  simp [runs, early, Nat.not_lt.mpr late]

end

/-- Settles O12: the rows start a reset or Slate mode, whose other work leaves the quadrant as its first or last step makes it. -/
theorem quadrantResets : Obligations.QuadrantResets := by
  refine ⟨fun src q ends s high => ⟨?_, ?_, ?_, fun x four => ?_⟩,
    fun q ends s high => ⟨fun normal idle => ⟨?_, ?_, ?_⟩, ?_, fun four out => ?_⟩⟩
  · exact fun may takes => exec_quadrantReset high may takes
  · exact fun may takes => exec_quadrantResetAndHold high may takes
  · exact fun may takes => exec_quadrantReleaseHold high may takes
  · have inside : q.val < x.quads.length := by have := q.isLt; omega
    obtain ⟨held, _, since, _⟩ := Quad.own_of_calm (calm_resetQuad_stays inside 1)
    obtain ⟨normal, _, over_, _, done⟩ := Quad.own_of_calm (calm_resetQuad_ends inside 1)
    obtain ⟨still, _, _, waits, _⟩ := Quad.own_of_calm (calm_resetQuad_holds inside 1)
    obtain ⟨back, _, idle, _⟩ := Quad.own_of_calm (calm_endReset inside 6000)
    exact ⟨⟨held, since⟩, ⟨normal, over_, done⟩, ⟨still, waits⟩, fun online => back.trans (if_neg online), idle⟩
  · exact fun fresh => execStateCheckError_resets high normal idle (by simp [fresh])
  · exact fun d done long => execStateCheckError_resets high normal idle (by simpa [done] using long)
  · exact fun d done soon => execStateCheckError_slates high normal idle done soon
  · exact fun t0 runs early late => execQuadrantResetTimeout_slates high runs early late
  · have inside : q.val < s.quads.length := by have := q.isLt; omega
    obtain ⟨_, slate, idle, _⟩ := Quad.own_of_calm (calm_enterSlate inside out 5)
    obtain ⟨normal, _⟩ := Quad.own_of_calm (calm_resetQuad_ends inside 2)
    exact ⟨slate, idle, normal⟩

end Sys2Proof.Machine
end

section
/-!
Bundles at run time: eyes measured, bundles retrained with spares, dropped, and back (R334, R443, R444).
-/
namespace Sys2Proof.Machine

/-! ### The links (R445 to R447) -/

theorem links_of_steady {s t : State} (same : steady t = steady s) : t.links = s.links := (congrArg State.links same :)

theorem linkAt_updLink_same {g : Nat} {s : State} (inside : g < s.links.length) (f : LinkGroup → LinkGroup) :
    linkAt (updLink g f s) g = f (linkAt s g) := nth_modNth_same inside f {}

@[simp] theorem updQuad_links (q : Nat) (f : Quad → Quad) (s : State) : (updQuad q f s).links = s.links := rfl
@[simp] theorem stopTests_links (hit : Target → Bool) (outcome : Nat) (s : State) : (stopTests hit outcome s).links = s.links := rfl
@[simp] theorem lapseTickets_links (s : State) : (lapseTickets s).links = s.links := links_of_steady (steady_lapseTickets s)
@[simp] theorem pumpHub_links (s : State) : (pumpHub s).links = s.links := links_of_steady (steady_pumpHub s)
@[simp] theorem retryHeads_links (s : State) : (retryHeads s).links = s.links := links_of_steady (steady_retryHeads s)
@[simp] theorem recompute_links (cause : Nat) (s : State) : (recompute cause s).links = s.links := rfl
@[simp] theorem refuseWaiting_links (q : Nat) (s : State) : (refuseWaiting q s).links = s.links := links_of_steady (steady_refuseWaiting q s)
@[simp] theorem rerouteNow_links (q cause : Nat) (s : State) : (rerouteNow q cause s).links = s.links :=
  links_of_steady (steady_rerouteNow q cause s)

@[simp] theorem reroute_links (q cause : Nat) (s : State) : (reroute q cause s).links = s.links := by
  unfold reroute
  split <;> simp

@[simp] theorem goOffline_links (q cause : Nat) (s : State) : (goOffline q cause s).links = s.links := by simp [goOffline]

@[simp] theorem comeBack_links (q : Nat) (s : State) : (comeBack q s).links = s.links := by
  unfold comeBack
  extract_lets off t u
  have back : u.links = s.links := by
    simp only [u]
    split <;> simp [t]
  simp [back]

/-- A change of a group's live set changes that group alone. -/
theorem liveChange_links (g cause : Nat) (f : LinkGroup → LinkGroup) (s : State) :
    (liveChange g cause f s).links = modNth s.links g f := by
  unfold liveChange
  extract_lets t moved u v
  have rerouted : u.links = t.links := forEach_same State.links (fun k x => by split <;> simp) _ _
  have settled : (forEach (List.range 4) (fun k t =>
      let st := (quadAt t k).st
      if !reachable t k && st ≠ .offline && st ≠ .starting then goOffline k 2 t
      else if reachable t k && st = .offline && (quadAt t k).offCause = 2 then comeBack k t else t) v).links = v.links :=
    forEach_same State.links (fun k x => by dsimp only; (repeat' split) <;> simp) _ _
  exact settled.trans ((lapseTickets_links u).trans rerouted)

theorem linkAt_liveChange_same {g : Nat} {s : State} (inside : g < s.links.length) (cause : Nat) (f : LinkGroup → LinkGroup) :
    linkAt (liveChange g cause f s) g = f (linkAt s g) := by
  rw [linkAt, liveChange_links]
  exact nth_modNth_same inside f {}

/-! ### Eyes (R443) -/

/-- A lane end is due, and its bundle. -/
def endDue (b : Nat) (e : Nat × Bool × Nat × Nat) (l : LinkGroup) : LinkGroup :=
  { l with due := if l.due.contains b then l.due else l.due ++ [b], dueEnds := if l.dueEnds.contains e then l.dueEnds else l.dueEnds ++ [e] }

theorem endDue_dueEnds (b : Nat) (e : Nat × Bool × Nat × Nat) (l : LinkGroup) : (endDue b e l).dueEnds.contains e = true := by
  by_cases known : e ∈ l.dueEnds <;> simp [endDue, known]

section
variable {g : Fin 13} {b : Fin 16} {s : State} (high : s.released = true)
include high

theorem execMarginCheck_small {found : LaneEye} (live : bit (linkAt s g).live b = true) (small : found.eye < objGet s 0x7040 1) :
    exec (.marginCheck g b found) s =
      .next (keepFixed s true (updLink g (endDue b (b.val, found.far, b2n found.transmit, found.lane.val)) s)) := by
  change execMarginCheck g b found s = _
  rw [execMarginCheck, whenReleased_high high]
  simp only [live, Nat.not_le.mpr small]
  rfl

theorem execMarginCheck_open {found : LaneEye} (live : bit (linkAt s g).live b = true) (wide : objGet s 0x7040 1 ≤ found.eye) :
    exec (.marginCheck g b found) s = .next s := by
  change execMarginCheck g b found s = _
  rw [execMarginCheck, whenReleased_high high]
  simp [live, wide, keepFixed_self high]

/-! ### A retrain (R444) -/

section
variable (live : bit (linkAt s g).live b = true) (due : (linkAt s g).due.contains b.val = true) (idle : (linkAt s g).retrain = 0)
include live due idle

theorem execBundleRetrain_failing (failing : (linkAt s g).failing.contains b.val = true) :
    exec (.bundleRetrain g b) s = .next (keepFixed s true (dropBundle g b 3 s)) := by
  change execBundleRetrain g b s = _
  rw [execBundleRetrain, whenReleased_high high]
  simp only [live, due, idle, failing]
  rfl

theorem execBundleRetrain_noSpare (sound : (linkAt s g).failing.contains b.val = false) (none : sparesLeft g b s = false) :
    exec (.bundleRetrain g b) s = .next (keepFixed s true (dropBundle g b 1 s)) := by
  change execBundleRetrain g b s = _
  rw [execBundleRetrain, whenReleased_high high]
  simp only [live, due, idle, sound, none]
  rfl

theorem execBundleRetrain_spare (sound : (linkAt s g).failing.contains b.val = false) (left : sparesLeft g b s = true) :
    exec (.bundleRetrain g b) s = .next (keepFixed s true (liveChange g 4 (fun l => { l with
      live := setBit l.live b false, retrain := setBit l.retrain b true, spares := sparesAfter g b s,
      inUse := l.inUse + (endsDue s g b).length, due := l.due.filter (· != b.val), failing := l.failing.filter (· != b.val),
      dueEnds := l.dueEnds.filter (·.1 != b.val) })
      (forEach (endsDue s g b) (fun e x => retireUnit (endUnit g b e.1 e.2.1 e.2.2) 3 x) s.drawn))) := by
  change execBundleRetrain g b s = _
  rw [execBundleRetrain, whenReleased_high high]
  simp only [live, due, idle, sound, left]
  rfl

end

theorem execBundleRetrainComplete_fails (runs : bit (linkAt s g).retrain b = true) :
    exec (.bundleRetrainComplete g b false) s = .next (keepFixed s true (dropBundle g b 2 s)) := by
  change execBundleRetrainComplete g b false s = _
  rw [execBundleRetrainComplete, whenReleased_high high]
  simp only [runs]
  rfl

theorem execBundleRetrainComplete_rejoins (runs : bit (linkAt s g).retrain b = true) :
    let u := liveChange g 5 (fun l => { l with
      live := setBit l.live b true, retrain := setBit l.retrain b false,
      lastRetrain := (b.val, s.clk.hub) :: l.lastRetrain.filter (·.1 != b.val) }) s
    exec (.bundleRetrainComplete g b true) s = .next (keepFixed s true (notify .hub 0x7051 0
      (leBytes 1 g ++ leBytes 1 b ++ leBytes 1 (bundleSpares (linkAt u g) b)) (recovered 2000 u))) := by
  change execBundleRetrainComplete g b true s = _
  rw [execBundleRetrainComplete, whenReleased_high high]
  simp only [runs]
  rfl

end

/-! ### Spares (R334) -/

theorem endsDue_one {s : State} {g b : Nat} {e : Bool × Nat × Nat} (one : (linkAt s g).dueEnds.filter (·.1 == b) = [(b, e)]) :
    endsDue s g b = [e] := by
  simp [endsDue, one]

/-- A direction whose due lane end still finds a spare has used fewer than four. -/
theorem spare_free {s : State} {g b d lane : Nat} {far : Bool} (one : endsDue s g b = [(far, d, lane)]) (left : sparesLeft g b s = true) :
    nth (linkAt s g).spares (spareIndex b far d) 0 < 4 ∨ (linkAt s g).spares.length ≤ spareIndex b far d := by
  refine (Nat.lt_or_ge (spareIndex b far d) (linkAt s g).spares.length).imp_left fun inside => ?_
  have after : nth (sparesAfter g b s) (spareIndex b far d) 0 = nth (linkAt s g).spares (spareIndex b far d) 0 + 1 := by
    simp [sparesAfter, one, nth_modNth_same inside]
  have direction : spareIndex b far d = 2 * b ∨ spareIndex b far d = 2 * b + 1 := by
    unfold spareIndex
    omega
  simp only [sparesLeft, Bool.and_eq_true, decide_eq_true_eq] at left
  rcases direction with e | e <;> rw [e] at after ⊢ <;> omega

/-! ### A dropped bundle -/

/-- A group without a bundle that is dropped. -/
def LinkGroup.drop (b : Nat) (l : LinkGroup) : LinkGroup :=
  { l with live := setBit l.live b false, retrain := setBit l.retrain b false, dropped := setBit l.dropped b true,
           due := l.due.filter (· != b), failing := l.failing.filter (· != b), dueEnds := l.dueEnds.filter (·.1 != b) }

/-- The notice of a dropped bundle tells of a group without it. -/
theorem dropBundle_told {g b : Nat} {x : State} (inside : g < x.links.length) (cause : Nat) : ∃ y off,
    dropBundle g b cause x = recompute off (recovered 10000 (notify .hub 0x7050 1
      (leBytes 1 g ++ leBytes 1 b ++ leBytes 1 cause ++ leBytes 1 (liveCountOf (linkAt y g))) y)) ∧
    linkAt y g = (linkAt x g).drop b := by
  unfold dropBundle
  extract_lets s was f t y told off
  refine ⟨y, _, rfl, ?_⟩
  have dropped : linkAt t g = (linkAt x g).drop b := by
    simp only [t]
    split
    · exact linkAt_liveChange_same inside 1 f
    · exact linkAt_updLink_same inside f
  refine Eq.trans ?_ dropped
  simp only [y]
  split <;> rfl

/-! ### Settling the obligation -/

/-- Settles O14: each clause is a branch of its row; a change of the live set reaches no other group. -/
theorem bundleRows : Obligations.BundleRows := by
  refine fun g b s high groups => ⟨fun far transmit lane eye live => ⟨fun small => ?_, fun wide => execMarginCheck_open high live wide⟩,
    fun live due idle => ⟨execBundleRetrain_failing high live due idle, execBundleRetrain_noSpare high live due idle,
      execBundleRetrain_spare high live due idle⟩, fun far d lane one => ⟨endsDue_one one, spare_free (endsDue_one one)⟩,
    fun runs => ⟨execBundleRetrainComplete_fails high runs, _, execBundleRetrainComplete_rejoins high runs, _, rfl, rfl⟩, ?_⟩
  · have inside : g.val < s.links.length := by have := g.isLt; omega
    refine ⟨_, execMarginCheck_small high live small, ?_⟩
    change (linkAt (updLink g _ s) g).due = _ ∧ (linkAt (updLink g _ s) g).dueEnds.contains _ = true ∧
      (linkAt (updLink g _ s) g).live = _ ∧ _
    rw [linkAt_updLink_same inside]
    exact ⟨rfl, endDue_dueEnds .., rfl, rfl, rfl, rfl⟩
  · intro x cause groups
    have inside : g.val < x.links.length := by have := g.isLt; omega
    obtain ⟨y, off, told, dropped⟩ := dropBundle_told (b := b) inside cause
    exact ⟨y, off, told, by rw [dropped]; rfl, by rw [dropped]; rfl⟩

end Sys2Proof.Machine
end
